-- ==== Sys2Proof/Word.lean ====
section
/-! DEFINITION. The words the part's structures are made of (R7, R8). -/
namespace Sys2Proof

/-- One byte of a packet, frame or record. -/
abbrev Byte := BitVec 8

/-- One 32-bit register word or header word. -/
abbrev Word := BitVec 32

end Sys2Proof
end

