-- ==== Sys2Proof/Machine/Map.lean ====
section
/-! DEFINITION. Sparse contents: everything the part numbers (register fields, slots, SAs, queues, flow entries, pages) is
held as a list of (number, value) pairs with strictly rising numbers, so that equal contents are equal data. -/
namespace Sys2Proof.Machine

/-- Contents by number; `SMap.sorted` is the canonical form. -/
abbrev SMap (α : Type) := List (Nat × α)

/-- The entry numbered `k`. -/
def SMap.look {α : Type} : SMap α → Nat → Option α
  | [], _ => none
  | (k', v) :: m, k => if k = k' then some v else SMap.look m k

/-- The entry numbered `k`, or `d` where none is held. -/
def SMap.get {α : Type} (m : SMap α) (k : Nat) (d : α) : α := (m.look k).getD d

/-- `m` with `v` as entry `k`. -/
def SMap.put {α : Type} : SMap α → Nat → α → SMap α
  | [], k, v => [(k, v)]
  | (k', v') :: m, k, v =>
    if k = k' then (k, v) :: m
    else if k < k' then (k, v) :: (k', v') :: m
    else (k', v') :: SMap.put m k v

/-- `m` without entry `k`. -/
def SMap.del {α : Type} (m : SMap α) (k : Nat) : SMap α := m.filter fun e => e.1 != k

/-- Entry `k` (or `d`) changed by `f`. -/
def SMap.upd {α : Type} (m : SMap α) (k : Nat) (d : α) (f : α → α) : SMap α := m.put k (f (m.get k d))

/-- Entry `k`, where there is one, changed by `f`. -/
def SMap.adj {α : Type} (m : SMap α) (k : Nat) (f : α → α) : SMap α :=
  match m.look k with
  | some v => m.put k (f v)
  | none => m

/-- The entries whose number and value satisfy `p`. -/
def SMap.keep {α : Type} (m : SMap α) (p : Nat → α → Bool) : SMap α := m.filter fun e => p e.1 e.2

/-- Whether entry `k` is held. -/
def SMap.has {α : Type} (m : SMap α) (k : Nat) : Bool := (m.look k).isSome

/-- Every value changed by `f`, which is given its number. -/
def SMap.each {α β : Type} (m : SMap α) (f : Nat → α → β) : SMap β := m.map fun e => (e.1, f e.1 e.2)

/-- The canonical form: numbers strictly rising. -/
def SMap.sorted {α : Type} : SMap α → Bool
  | [] => true
  | [_] => true
  | (a, _) :: (b, v) :: m => decide (a < b) && SMap.sorted ((b, v) :: m)

/-- The least number at or above `lo`, among the next `n`, that `m` does not hold. -/
def SMap.freeFrom {α : Type} (m : SMap α) (lo : Nat) : Nat → Option Nat
  | 0 => none
  | n + 1 => if m.has lo then SMap.freeFrom m (lo + 1) n else some lo

end Sys2Proof.Machine
end

