-- ==== Sys2Proof/Machine/TypesBoot.lean ====
section
/-! DEFINITION. What resets, the boot path, the SPI NOR, updates and the sensors hold (R276 to R279, R419 to R429, R434 to R453). -/
namespace Sys2Proof.Machine

/-- The fields of an option block (R426). `vendor` holds the 4 ASCII bytes with the first highest; `seq` is the copy's SEQ. -/
structure OptBlock where
  seq : Nat := 0
  vendor : Nat := 0
  vssn : Nat := 0
  ivFixed : Nat := 0
  mac : BitVec 48 := 0
  vid : Nat := 0xFFFF
  cueHost : BitVec 48 := 0
  lane : Nat := 0
  inBand : Bool := false
deriving DecidableEq, Repr

/-- A reel of the SPI NOR (R448, R449): its control record (`valid` where CTRL_MAGIC stands; SEQ, TRIES, CONFIRMED), the signed header and the
image, the physical block of each remapped logical block, and whether block 0 fails. -/
structure Reel where
  valid : Bool := false
  seq : Nat := 0
  tries : Nat := 0xFF
  confirmed : Bool := false
  header : List Byte := []
  image : List Byte := []
  remap : SMap Nat := []
  bad0 : Bool := false
deriving DecidableEq, Repr

/-- The SPI NOR fitted beside the part (R439): its size, whether SFDP declares what R439 asks for, the option copies and the reels. -/
structure Nor where
  mib : Nat := 0
  sfdp : Bool := false
  optA : List Byte := []
  optB : List Byte := []
  reelA : Reel := {}
  reelB : Reel := {}
deriving DecidableEq, Repr

/-- An update that runs (R453): its session, the target reel (1 A, 2 B), the header, the image bytes taken, the remapped blocks and how many
spare blocks it has used. -/
structure Update where
  session : Nat
  reel : Nat
  header : List Byte
  data : List Byte := []
  remap : SMap Nat := []
  used : Nat := 0
deriving DecidableEq, Repr

/-- Where the part stands between resets: held in reset; AON, MGT and HOST released and the boot under way, at a point before the takes, in
the take of an option copy, or in the take of a reel (R428, R450); running; DEEP STANDBY. -/
inductive Phase where
  | held | booting | inOption | inReel (reel : Nat) | up | standby
deriving DecidableEq, Repr

/-- A reset or standby entry that waits until a reply has been written (R416, R423, and RESET), or, for a warm reset, until every PON PMD is
between bursts (R421). -/
inductive Due where
  | cold | warm (cause : Nat) | standby (verified : Bool)
deriving DecidableEq, Repr

/-- Resets, boot, alarms and sensors. `scope` is that of the reset in progress; `waitsFor` the place of the reply a due reset waits for; `later` the causes of
the warm resets that arrived while one was due;
`hold` and `trip` keep the part in reset (R279, R419); `hostHeld` is a HOST-only reset; `armed` and `refArmed` are R278's; `loopBad` counts failed
tamper bits in a row; `counts` holds consecutive samples by kind and site; `hiWarn` and `loWarn` the sites that are warned of, `groupWarn` the
rail groups; `fwDead` that an SRAM error stopped the firmware (R432); `fwStart` is `elapsed` when it started; `pulses` the SCL pulses of each
bus's last attempt;
`newBoot` that no boot has begun since the part last ran; `alarmed` that an alarm reset has not been reported yet;
`lastFail` the reason of the last failed take; `i2cFor` the channel whose diagnostic page a bus was reading when the transfer was held up; `i2cCut` the buses
whose controller was soft-reset with a transfer or a stuck bus (R437);
`ioLow`: VDD_IO is below its operating range (R469);
`rowErrs` when corrected errors of a row came (R454), by kind and row; `rowsUsed` the spare rows of each array in use. -/
structure Boot where
  phase : Phase := .held
  scope : Nat := 0
  due : Option Due := none
  later : List Nat := []
  waitsFor : Option Nat := none
  hold : Bool := false
  trip : Bool := false
  hostHeld : Bool := false
  armed : Bool := false
  refArmed : Bool := false
  loopBad : Nat := 0
  counts : SMap Nat := []
  hiWarn : Nat := 0
  loWarn : Nat := 0
  groupWarn : Nat := 0
  fwDead : Bool := false
  fwStart : Nat := 0
  readyMs : Nat := 0
  newBoot : Bool := true
  alarmed : Bool := false
  lastFail : Nat := 0
  nor : Nor := {}
  update : Option Update := none
  pulses : SMap Nat := []
  i2cFor : SMap Nat := []
  i2cCut : List Nat := []
  ioLow : Bool := false
  rowErrs : SMap (List Nat) := []
  rowsUsed : SMap Nat := []
deriving DecidableEq, Repr

end Sys2Proof.Machine
end

