-- ==== Sys2Proof/Syntax.lean ====
section
/-! DEFINITION. The commands: one constructor of `Instr` per row of the spec's table of steps, with what the row's sender
alone can know as its operands. -/
namespace Sys2Proof.Machine

/-- The carriers of Vuesh packets (R44); a PCIe request arrives on one of four rings. -/
inductive Carrier where
  | ring (p : Fin 4)
  | uart
  | inband
deriving DecidableEq, Repr

/-- A request packet as it lies on its carrier (R46 to R48), but for its OPCODE, which the row gives, and VERSION and LENGTH,
which the packet has checked. `trailer` is the 48-byte trailer where OFFICER is set; `src` is an in-band request's source address. -/
structure Req where
  carrier : Carrier
  flags : BitVec 8
  tag : BitVec 16
  txn : BitVec 16
  session : BitVec 16
  target : Word
  payload : List Byte
  trailer : BitVec 384
  src : BitVec 48
deriving DecidableEq, Repr

/-- A POWER_STATE request, and whether the read-back verifies the zeroisation that it may end with (R281, R416). -/
structure PowerReq where
  req : Req
  verified : Bool
deriving DecidableEq, Repr

/-- The inner eye that a lane's eye monitor measures (R366): height in µV, width in millionths of a UI. -/
structure Eye where
  h : Nat
  w : Nat
deriving DecidableEq, Repr

/-- One step that an adaptation search tries (R366): the setting (0 = CTLE, t = DFE tap t), up or down, and the eye with it. -/
structure TryStep where
  setting : Fin 6
  up : Bool
  eye : Eye
deriving DecidableEq, Repr

/-- The steps that an adaptation search tries, in order, each with its eye. -/
def triesOf (steps : List (Fin 6 × Bool)) (eyes : List Eye) : List TryStep := steps.zipWith (fun x y => ⟨x.1, x.2, y⟩) eyes

/-- A write to ENG_CTRL of an engine, and whether an officer session makes it (R31). -/
structure CtrlWrite where
  e : Nat
  officer : Bool
deriving DecidableEq, Repr

/-- Which HECs of a downstream frame's start hold (R90, R126): that of the superframe counter, and that of the operation control. -/
structure PsyncHec where
  sfc : Bool
  oc : Bool
deriving DecidableEq, Repr

/-- Which of the commands that wait for an engine tries again, and whether its time is over (R210). -/
structure BorrowTurn where
  turn : Nat
  giveUp : Bool
deriving DecidableEq, Repr

/-- What a MAC met on the line with a frame: whether order 1 of R377 applies, and each member's code errors since the frame before (R358). -/
structure LineErrs where
  bad : Bool
  codes : List Nat
deriving DecidableEq, Repr

/-- Causes of an engine fault (R27, ENG_FAULT). -/
inductive FaultCause where
  | eccUe | eccTrend | selftest | wakeFail | kindSpecific (bits : BitVec 8)
deriving DecidableEq, Repr

/-- What a downstream PLOAM message asks for (R94, R98, R102, R103), decoded from its published layout. -/
inductive PloamBody where
  /-- Burst_Profile: index, upstream rate (0 = 12.4416, 1 = 24.8832, 2 = 49.7664 Gb/s), and the profile's preamble and delimiter. -/
  | burstProfile (index : Fin 4) (rate : Fin 3) (shape : List Byte)
  | assignOnuId (serial : BitVec 64) (onuId : BitVec 10)
  /-- Ranging_Time: an equalisation delay, or with `relative` a change of it, in bit periods of 49.7664 Gb/s. -/
  | rangingTime (relative : Bool) (delay : Int)
  | deactivateOnuId
  /-- Disable_Serial_Number: disable, enable, or enable for every serial number. -/
  | disableSerial (serial : BitVec 64)
  | enableSerial (serial : BitVec 64)
  | enableAll
  | requestRegistration
  | assignAllocId (alloc : BitVec 14) (add : Bool)
  /-- Key_Control: generate a new key of an index, or confirm. -/
  | keyControl (generate : Bool) (index : Fin 2)
  | sleepAllow (on : Bool)
  | tuningControl
  | adjustTxWavelength
  /-- Type 0xF0: the 36 content bytes. -/
  | fennath (content : List Byte)
  /-- A type not listed, and whether it calls for an acknowledgement. -/
  | unlisted (wantsAck : Bool)
deriving DecidableEq, Repr

/-- A downstream PLOAM message: addressed ONU-ID, sequence number, body, its 40 bytes before the MIC, and the MIC (R100). -/
structure PloamMsg where
  onuId : BitVec 10
  seq : BitVec 8
  body : PloamBody
  bytes : List Byte
  mic : BitVec 64
deriving DecidableEq, Repr

/-- One allocation of a grant: Alloc-ID, bytes granted, whether it asks for a status report. -/
structure AllocGrant where
  alloc : BitVec 14
  bytes : Nat
  report : Bool
deriving DecidableEq, Repr

/-- What kind of burst a grant asks for (R94, R130). -/
inductive GrantKind where
  | serialNumber | ranging (onuId : BitVec 10) | normal (onuId : BitVec 10)
deriving DecidableEq, Repr

/-- One burst of a bandwidth map (R130 to R133): its kind, start within the upstream frame in bit periods of 49.7664 Gb/s,
profile index, whether it allows PLOAM, and its allocations. -/
structure Grant where
  kind : GrantKind
  start : Nat
  profile : Fin 4
  ploam : Bool
  allocs : List AllocGrant
deriving DecidableEq, Repr

/-- What the XGEM engine finds next in a downstream frame (R107): a header it cannot correct, an idle frame, or a frame: Port-ID,
key index, whether it ends its SDU, payload, the counter block of its decryption, and whether the owner 0x03 stage can take it (R243). -/
inductive XgemIn where
  | badHeader
  | idle
  | frame (port : BitVec 16) (key : Fin 4) (last : Bool) (payload : List Byte) (counter : List Byte) (stageFull : Bool)
deriving DecidableEq, Repr

/-- Who takes a job (R327). -/
inductive JobTaker where
  | seals | opens | playout | tables | classP
deriving DecidableEq, Repr

/-- A pointer word as received (R164, R165): its NDF bits, whether it is all ones, whether it is the concatenation indication, its
offset, and how many I and D bits are inverted against the accepted offset. -/
structure PtrWord where
  ndf : BitVec 4
  ones : Bool := false
  conc : Bool := false
  off : Nat
  iInv : Nat := 0
  dInv : Nat := 0
deriving DecidableEq, Repr

/-- A path's overhead as received (R163, R168): whether it is a higher-order path, its first client slot, parity violations of its block, a J1 or J2 message that ends, its
signal label, its RDI bit. -/
structure PathIn where
  hp : Bool
  slot : Nat
  errors : Nat
  trace : Option (List Byte) := none
  label : Nat
  rdi : Bool
deriving DecidableEq, Repr

/-- One SDH frame as received (R162 to R165): whether A1 and A2 are right, B1 and B2 violations, a J0 message that ends, K2 bits 6 to 8,
S1, the MS-REI count; AU-4 pointers from number 1 on; whether H4 is in sequence, by AU-4 number less 1; TU pointers by first client
slot, a TU-12's in the frame that ends its multiframe; path overhead. -/
structure SdhIn where
  a1a2 : Bool
  b1 : Nat
  b2 : Nat
  j0 : Option (List Byte) := none
  k2 : BitVec 3
  s1 : Byte
  rei : Nat
  aus : List PtrWord
  h4 : List (Nat × Bool) := []
  tus : List (Nat × PtrWord) := []
  paths : List PathIn := []
deriving DecidableEq, Repr

/-- How full an elastic store is at a frame (R166, R167). -/
inductive StoreFill where
  | below | within | above | slip
deriving DecidableEq, Repr

/-- A path sent on a lane in a frame: AU-4 number less 1, tributary (0 = the AU-4 itself, else 1 + its place among the 63 slots), and
its store. -/
structure PathOut where
  au : Fin 16
  unit : Fin 64
  fill : StoreFill
deriving DecidableEq, Repr

/-- How far a boot runs before a further reset cuts it (R428, R450): to its end, or into the take of an option copy or of a reel. -/
inductive BootStop where
  | ready | option | reel
deriving DecidableEq, Repr

/-- What a boot meets (R424 to R428, R450): the SPI NOR fitted, at a power-on boot; trim rows served by their spare, and rows at their default; how many
takes of each reel end in a NOR read failure; whether the image in SRAM still has its digest; the code of a failing self-test, or 0; ms from the
release of AON to READY; where the boot is cut. -/
structure BootIn where
  nor : Option Nor := none
  trimSpare : Byte := 0
  trimDefault : List Byte := []
  badReadA : Nat := 0
  badReadB : Nat := 0
  digestOk : Bool := true
  failed : Byte := 0
  ms : BitVec 16 := 0
  stop : BootStop := .ready
deriving DecidableEq, Repr

/-- How an I2C transfer ends (R436): the bytes read, no acknowledgement, or a target that holds SCL low. -/
inductive I2cEnd where
  | done (data : List Byte) | nack | stretch
deriving DecidableEq, Repr

/-- An I2C transfer: where SDA was low with SCL high before its START, whether the first recovery attempt freed it and its SCL pulses (R437). -/
structure I2cIn where
  sdaLow : Option (Bool × Fin 10) := none
  ends : I2cEnd := .nack
deriving DecidableEq, Repr

/-- What a channel's diagnostic page reads (R126): powers, bias, temperature, supply, and whether the optics report a transmitter fault. -/
structure OpticsIn where
  rx : BitVec 16 := 0
  tx : BitVec 16 := 0
  bias : BitVec 16 := 0
  temp : BitVec 16 := 0
  vcc : BitVec 16 := 0
  fault : Bool := false
  bus : I2cIn := {}
deriving DecidableEq, Repr

/-- The row of an array in which an ECC error was found (R454), and what stands in it: a key slot; a flow-stash row and its stash slots; a
dispatcher row and its contexts; an HBM row and its pages and flow-table entries. -/
inductive RowFault where
  | keystore (slot : BitVec 16)
  | stash (row : BitVec 16) (slots : List (BitVec 16))
  | dispatcher (row : BitVec 16) (ctxs : List (BitVec 16))
  | hbm (row : Word) (pages : List (BitVec 25)) (entries : List (BitVec 25))
deriving DecidableEq, Repr

end Sys2Proof.Machine

namespace Sys2Proof

open Machine

/-- The commands: one constructor per row of the spec's table of steps. -/
inductive Instr where
  /-- ENGINE_SET (R28). Command that disables, enables or soft-resets one engine, with the reply set by the state the engine is headed for. -/
  | engineSet (r : Req)
  /-- ENG_CTRL_SRST_WRITE (R489). A write of 1 to ENG_CTRL.SRST starts a soft reset of the engine. -/
  | engCtrlSrstWrite (w : CtrlWrite)
  /-- ENG_CTRL_ENABLE_WRITE (R27). A write to ENG_CTRL.ENABLE requests the engine ON or OFF through the engine state machine. -/
  | engCtrlEnableWrite (w : CtrlWrite) (on : Bool)
  /-- ENGINE_INIT_COMPLETE (R27). A WAKING engine finishes initialisation and goes to ON, or to DRAINING when PEND_OFF is set. -/
  | engineInitComplete (e : Nat) (pass : Bool)
  /-- ENGINE_DRAIN_COMPLETE (R27). A DRAINING engine finishes its work in flight and goes to OFF, or soft-resets and wakes when REARM is set. -/
  | engineDrainComplete (e : Nat)
  /-- SOFT_RESET_COMPLETE (R24). A soft reset finishes within 2 µs, held accesses proceed and the engine comes to rest as R489 sets out. -/
  | softResetComplete (e : Nat) (freed : Bool) (pulses : Fin 10)
  /-- ENGINE_FAULT (R27). An ECC_UE, SELFTEST, WAKE_FAIL or kind-specific fault moves the engine to FAILED and clamps its outputs. -/
  | engineFault (e : Nat) (cause : FaultCause)
  /-- ENGINE_WATCHDOG (R246). An engine's internal watchdog expires; a cipher engine's first expiry is recovered by soft reset and test, and otherwise the engine goes to FAILED. -/
  | engineWatchdog (e : Nat)
  /-- REGISTER_WRITE (R9). A write to a register field that has no behaviour of its own, applied per its access type. -/
  | registerWrite (loc v : Word)
  /-- RC_REGISTER_READ (R10). A read of an RC field returns its value and clears it in the same access. -/
  | rcRegisterRead (loc : Word)
  /-- SFC_LO_READ (R126). A read of the framer's SFC_LO latches SFC_HI. -/
  | sfcLoRead (ch : Fin 4)
  /-- CX_BLOCKS_LO_READ (R250). A read of CX_BLOCKS_LO latches CX_BLOCKS_HI and clears both halves. -/
  | cxBlocksLoRead (unit : Fin 10)
  /-- NOW_SHORT_READ (R404). A read of NOW_SHORT latches NOW_NS and NOW_SEC at the same instant. -/
  | nowShortRead
  /-- COUNT_LO_READ (R404). A read of the Model C COUNT low word latches COUNT_MID and COUNT_HI. -/
  | countLoRead
  /-- MAC_CNT_LO_READ (R383). A read of a MAC counter's low word latches its high word and clears the counter. -/
  | macCntLoRead (lane : Fin 68) (reg : Fin 32)
  /-- COMMAND_FETCH (R58). The part fetches the next packet from the highest-priority non-empty command ring while a tag is free. -/
  | commandFetch (bytes : List Byte) (dmaError : Bool)
  /-- UART_FRAME_RX (R83). A whole UART frame is received, its CRC checked and its packet taken as a request. -/
  | uartFrameRx (bytes : List Byte)
  /-- CARRIER_FRAME_SENT (R45). The last byte of a reply frame leaves UART_TXD or the management lane, and the tag frees. -/
  | carrierFrameSent (inband : Bool)
  /-- REPLY_RING_WRITE (R59). Waiting replies and cues are written to the reply ring, followed by the write-back block and MSI-X. -/
  | replyRingWrite
  /-- MSIX_HOLDOFF_EXPIRY (R60). The hold-off interval of a vector ends and a held MSI-X message is sent. -/
  | msixHoldoffExpiry (vector : Fin 32)
  /-- CMD_TAIL_WRITE (R56). A write to a CMD_TAIL doorbell posts packets on a command ring. -/
  | cmdTailWrite (p : Fin 4) (v : Word)
  /-- RPL_HEAD_WRITE (R61). A write to the RPL_HEAD doorbell frees reply-ring room so that waiting replies and cues can be written. -/
  | rplHeadWrite (v : Word)
  /-- CMD_RING_ENABLE_WRITE (R56). A write of a command ring's ENABLE starts it from offset 0, clearing its halt, or stops fetching. -/
  | cmdRingEnableWrite (p : Fin 4) (on : Bool)
  /-- RPL_RING_ENABLE_WRITE (R56). A write of the reply ring's ENABLE resets its offsets, or disables every command ring first. -/
  | rplRingEnableWrite (on : Bool)
  /-- RPL_CUE_EN_WRITE (R61). A write of RPL_CFG.CUE_EN lets queued cues be written to the reply ring. -/
  | rplCueEnWrite (on : Bool)
  /-- IDENTIFY (R66). Command returning the part's identity, revision, grade, boot state and reel. -/
  | identify (r : Req)
  /-- ECHO (R63). Command whose reply repeats its payload. -/
  | echo (r : Req)
  /-- CUE_ROUTE (R494). Command that sets whether the UART and in-band carriers receive cues. -/
  | cueRoute (r : Req)
  /-- SESSION_OPEN (R68). Command that creates an unauthenticated session with an ECDH exchange. -/
  | sessionOpen (r : Req) (pct released : Bool)
  /-- SESSION_AUTH (R69). Command that authenticates a session by proof under the role authenticator. -/
  | sessionAuth (r : Req) (verified : Bool)
  /-- SESSION_CLOSE (R68). Command that closes the session under which it is sent. -/
  | sessionClose (r : Req)
  /-- ROLE_AUTH_SET (R72). Command that sets the officer or maintenance authenticator from a wrapped value. -/
  | roleAuthSet (r : Req)
  /-- SESSION_IDLE_TIMEOUT (R68). An authenticated session closes after 600 s without a verified packet. -/
  | sessionIdleTimeout (id : BitVec 16)
  /-- SESSION_AUTH_TIMEOUT (R68). A session not authenticated within 10 s of SESSION_OPEN closes without a cue. -/
  | sessionAuthTimeout (id : BitVec 16)
  /-- AUTH_LOCKOUT_END (R73). The 60 s period that follows three SESSION_AUTH failures ends. -/
  | authLockoutEnd
  /-- OBJ_READ (R75). Command that reads a block of register words. -/
  | objRead (r : Req)
  /-- OBJ_WRITE (R75). Command that writes a block of register words after checking all of them. -/
  | objWrite (r : Req)
  /-- OBJ_MODIFY (R75). Command that performs an atomic read-modify-write of one word. -/
  | objModify (r : Req)
  /-- TXN_BEGIN (R76). Command that opens a transaction. -/
  | txnBegin (r : Req)
  /-- TXN_COMMIT (R79). Command that commits a transaction by prepare and switch. -/
  | txnCommit (r : Req)
  /-- TXN_ABORT (R80). Command that discards a transaction's staged commands. -/
  | txnAbort (r : Req)
  /-- TXN_EXPIRY (R82). A transaction not committed or aborted within 10 s is aborted. -/
  | txnExpiry (txn : BitVec 16)
  /-- PMD_CFG_TX_EN_WRITE (R89). A write of PMD_CFG.TX_EN enables or stops the channel's transmitter at the next burst boundary. -/
  | pmdCfgTxEnWrite (ch : Fin 4) (on : Bool)
  /-- PSYNC_RECEIVED (R90). A downstream PSync field is checked and the framer's synchronisation machine steps. -/
  | psyncReceived (ch : Fin 4) (matched : Bool) (hec : PsyncHec) (sfc : BitVec 51)
  /-- PON_LOS_DECLARE (R91). LOS is declared once no signal or an unlocked CDR has lasted 32 µs; virtual terminals in O5 go to O6. -/
  | ponLosDeclare (ch : Fin 4) (signal lock : Bool)
  /-- PON_LOS_CLEAR (R91). LOS clears after 125 µs with signal present and the CDR locked. -/
  | ponLosClear (ch : Fin 4)
  /-- BANDWIDTH_MAP (R130). The bandwidth map of a downstream frame is parsed and its grants checked. -/
  | bandwidthMap (ch : Fin 4) (arrival : Nat) (grants : List Grant)
  /-- BURST_COMMIT (R132). At burst start minus 10 µs the burst's PLOAM message, reports, frames and fragments are fixed. -/
  | burstCommit (ch : Fin 4) (enc : Nat)
  /-- BURST_END (R138). A burst ends with PBENn released, its fragments count as sent and their frames' pages are freed. -/
  | burstEnd (ch : Fin 4)
  /-- ROGUE_DETECT (R132). PBENn asserted 64 ns past the grant's end sets ROGUE and clears TX_EN. -/
  | rogueDetect (ch : Fin 4)
  /-- PLOAM_RX (R100). The PLOAM engine takes a downstream message, filters it by ONU-ID, verifies its MIC and queues it. -/
  | ploamRx (ch : Fin 4) (msg : PloamMsg)
  /-- BURST_PROFILE (R129). A Burst_Profile message is stored under its index, and waiting virtual terminals leave O1. -/
  | burstProfile (ch : Fin 4)
  /-- ASSIGN_ONU_ID (R94). Assign_ONU-ID gives a virtual terminal its ONU-ID and default entries, and starts TO1. -/
  | assignOnuId (ch : Fin 4)
  /-- RANGING_TIME (R98). Ranging_Time sets the channel's EQD and moves the virtual terminal to O5. -/
  | rangingTime (ch : Fin 4)
  /-- DEACTIVATE_ONU_ID (R94). Deactivate_ONU-ID releases the ONU-ID and returns the virtual terminal to O1. -/
  | deactivateOnuId (ch : Fin 4)
  /-- DISABLE_SERIAL_NUMBER (R94). Disable_Serial_Number moves the virtual terminal into or out of O7. -/
  | disableSerialNumber (ch : Fin 4)
  /-- REQUEST_REGISTRATION (R102). Request_Registration makes the part send Registration at the next PLOAM grant. -/
  | requestRegistration (ch : Fin 4)
  /-- ASSIGN_ALLOC_ID (R110). Assign_Alloc-ID adds or removes an Alloc-ID entry. -/
  | assignAllocId (ch : Fin 4)
  /-- KEY_CONTROL (R115). Key_Control asks for a new unicast key, which is drawn, wrapped and returned in Key_Report. -/
  | keyControl (ch : Fin 4)
  /-- SLEEP_ALLOW (R125). Sleep_Allow enables or ends watchful sleep on the anchor channel. -/
  | sleepAllow (ch : Fin 4)
  /-- TUNING_CONTROL (R102). Tuning_Control is answered with Parameter Error and no tuning is done. -/
  | tuningControl (ch : Fin 4)
  /-- ADJUST_TX_WAVELENGTH (R102). Adjust_Tx_Wavelength is answered with Parameter Error and no tuning is done. -/
  | adjustTxWavelength (ch : Fin 4)
  /-- PLOAM_UNKNOWN_MESSAGE (R102). An unlisted PLOAM message, or an unknown Fennath sub-type, is acknowledged with an error or ignored. -/
  | ploamUnknownMessage (ch : Fin 4)
  /-- PORT_ASSIGN (R112). A Fennath PORT_ASSIGN adds or removes a bonding member Port-ID. -/
  | portAssign (ch : Fin 4)
  /-- PARK_ACK (R123). PARK_ACK from the head end confirms a park or unpark. -/
  | parkAck (ch : Fin 4)
  /-- EPOCH_CLAIM (R146). A head end's epoch claim is judged against PA_EPOCH and answered with EPOCH_REPORT. -/
  | epochClaim (ch : Fin 4) (started : BitVec 4)
  /-- OMCI_MESSAGE (R104). A downstream OMCI message on the OMCC has its MIC verified and is passed to the host. -/
  | omciMessage (ch : Fin 4)
  /-- FEC_CODEWORD (R106). The FEC engine decodes a codeword and discards it when it cannot be corrected. -/
  | fecCodeword (ch : Fin 4) (corrected : Nat) (uncorrectable : Bool)
  /-- XGEM_FRAME_RX (R107). The XGEM engine delineates a frame, matches its Port-ID, decrypts it and routes a complete SDU. -/
  | xgemFrameRx (ch : Fin 4) (x : XgemIn)
  /-- BOND_FRAGMENT_RX (R120). A bonding fragment is validated and held, and complete frames are delivered in BSEQ order. -/
  | bondFragmentRx
  /-- BOND_GAP_TIMER_EXPIRY (R120). The gap timer reaches WINDOW, and held fragments are discarded up to the next SOF. -/
  | bondGapTimerExpiry (group : Fin 16)
  /-- BOND_IDLE_FLUSH (R120). A group with no valid fragment for 10 ms is flushed and NEXT becomes unset. -/
  | bondIdleFlush (group : Fin 16)
  /-- TO1_EXPIRY (R94). TO1 expires in O4, and the virtual terminal releases its ONU-ID and returns to O2-3. -/
  | to1Expiry (vt : Fin 64)
  /-- TO2_EXPIRY (R94). TO2 expires in O6, and the virtual terminal releases its ONU-ID and returns to O1. -/
  | to2Expiry (vt : Fin 64)
  /-- PARK_ACK_TIMEOUT (R123). No PARK_ACK arrives within 100 ms, and the park or unpark ends TIMEOUT. -/
  | parkAckTimeout (ch : Fin 4)
  /-- PARK_HOLD_EXPIRY (R123). The receive hold of WINDOW after PARK_ACK ends, the virtual terminals go PARKED and the domain sleeps. -/
  | parkHoldExpiry (ch : Fin 4)
  /-- WS_IAWARE_EXPIRY (R125). IAWARE ms with no traffic put the anchor channel into watchful sleep. -/
  | wsIawareExpiry (ch : Fin 4)
  /-- WS_ILOWPOWER_EXPIRY (R125). ILOWPOWER ms in watchful sleep end, and the receiver turns on in aware. -/
  | wsIlowpowerExpiry (ch : Fin 4)
  /-- VT_CONFIG (R94). Command that enables or disables a virtual terminal on a channel. -/
  | vtConfig (r : Req)
  /-- VT_QUERY (R94). Command that returns a virtual terminal's state. -/
  | vtQuery (r : Req)
  /-- OMCI_SEND (R105). Command that queues an upstream OMCI message. -/
  | omciSend (r : Req)
  /-- PORT_SET (R112). Command that adds or removes an XGEM Port-ID entry. -/
  | portSet (r : Req)
  /-- BOND_GROUP_SET (R116). Command that defines or deletes a bonding group. -/
  | bondGroupSet (r : Req)
  /-- CHANNEL_PARK (R123). Command that parks or unparks a bonded channel. -/
  | channelPark (r : Req)
  /-- PARENT_LOST_TIMER (R148). No channel of the active parent has had a virtual terminal in O5 for 50 ms, and LOST is set. -/
  | parentLostTimer
  /-- HEARTBEAT_TIMER (R152). A pair heartbeat is sent every 1 ms on the pair link and every 10 ms on the PON. -/
  | heartbeatTimer (pon : Bool)
  /-- HEARTBEAT_RX (R153). A partner heartbeat from either path is verified and its role, flags, rank and fixed field acted on. -/
  | heartbeatRx (src : Option (Fin 4))
  /-- PAIR_PATH_TIMEOUT (R153). No verified heartbeat has arrived on a path within 3 ms or 30 ms, and the path goes down. -/
  | pairPathTimeout (pon : Bool)
  /-- SWAP_TIMEOUT (R156). No SWAP_ACK arrives within 50 ms, and the swap request ends TIMEOUT. -/
  | swapTimeout
  /-- SWAP_DRAIN_COMPLETE (R156). The old active finishes its jobs in flight and sends ROLE = standby. -/
  | swapDrainComplete
  /-- ANCHOR_SET_TIMEOUT (R143). A parked member's channel fails to regain sync within 10 ms, and it is parked again. -/
  | anchorSetTimeout (ch : Fin 4)
  /-- ALLOC_BIND (R134). Command that binds or unbinds an Alloc-ID to an S5 node and group. -/
  | allocBind (r : Req)
  /-- ANCHOR_SET (R143). Command that moves a group's anchor to a chosen member. -/
  | anchorSet (r : Req)
  /-- PARENT_MAP (R145). Command that assigns the channels to the two parents. -/
  | parentMap (r : Req) (started : BitVec 4)
  /-- PARENT_EPOCH (R146). Command that offers an epoch for a parent. -/
  | parentEpoch (r : Req) (started : BitVec 4)
  /-- PARENT_CLEAR (R146). Command that sets PA_EPOCH to 0 and the active parent to none or A. -/
  | parentClear (r : Req) (started : BitVec 4)
  /-- PAIR_CONFIG (R149). Command that joins or leaves a redundancy pair. -/
  | pairConfig (r : Req)
  /-- PAIR_ROLE (R156). Command that swaps, promotes or demotes the pair role. -/
  | pairRole (r : Req)
  /-- SDH_FRAME_RX (R162). An SDH frame is framed, its overhead processed and its pointers interpreted on a lane. -/
  | sdhFrameRx (lane : Fin 64) (f : SdhIn)
  /-- LOF_TIMER (R162). OOF lasting 3 ms declares LOF, and 3 ms in frame clears it. -/
  | lofTimer (lane : Fin 64)
  /-- SDH_FRAME_TX (R166). An SDH frame is sent, with pointers generated from the elastic stores. -/
  | sdhFrameTx (lane : Fin 64) (paths : List PathOut)
  /-- MULTIFRAME_BOUNDARY (R174). At a 500 µs multiframe boundary a pending splice swaps the TDM pages. -/
  | multiframeBoundary (due : Bool)
  /-- TSI_COPY_COMPLETE (R174). The new active page has been copied into the standby page, and waiting TDM commands proceed. -/
  | tsiCopyComplete
  /-- CIRCUIT_PACKET_FORM (R183). The packetiser forms a circuit packet and issues an urgent seal job for it. -/
  | circuitPacketForm (circuit : Fin 32256) (payload : List Byte) (pointer : Fin 4096)
  /-- CIRCUIT_PACKET_RX (R186). An opened circuit packet is matched to its circuit and classified into the playout buffer. -/
  | circuitPacketRx
  /-- PLAYOUT_TICK (R189). A playout job plays a packet or the fill into the circuit slot at its playout time. -/
  | playoutTick (circuit : Fin 32256)
  /-- PM_SECOND_CLASSIFY (R195). Each second is classified 10 s after it ends and added to its bins. -/
  | pmSecondClassify (sec : Nat)
  /-- PM_BIN_BOUNDARY (R196). A 15-minute or day bin begins and the oldest bin is dropped. -/
  | pmBinBoundary (start : Nat) (day : Bool)
  /-- TDM_STRUCT (R173). Command that sets an AU-4's structure on the standby page. -/
  | tdmStruct (r : Req)
  /-- TSI_CONNECT (R171). Command that adds or removes a TSI connection on the standby page. -/
  | tsiConnect (r : Req)
  /-- TSI_SPLICE (R174). Command that makes the standby page active at the next boundary. -/
  | tsiSplice (r : Req)
  /-- TSI_READ (R171). Command that reads the sources of a range of outputs. -/
  | tsiRead (r : Req)
  /-- CIRCUIT_SET (R179). Command that creates, replaces or removes a circuit entry on the standby page. -/
  | circuitSet (r : Req)
  /-- CIRCUIT_QUERY (R191). Command that returns and optionally clears a circuit's state and counters. -/
  | circuitQuery (r : Req)
  /-- PM_CONFIG (R193). Command that enables, updates or releases a PM monitor. -/
  | pmConfig (r : Req)
  /-- PM_READ (R196). Command that reads PM bins. -/
  | pmRead (r : Req)
  /-- CX_BIND_WRITE (R204). A write to CX_BIND rebinds a cipher engine to another owner once the old owner releases it. -/
  | cxBindWrite (unit : Fin 10) (v : Word)
  /-- LOCK_CLAIM (R206). An owner writes its ID to an unlocked ON engine's ENG_LOCK to claim it. -/
  | lockClaim (unit : Fin 10) (writes : List (Fin 7 × Byte))
  /-- LOCK_RELEASE (R207). The holder releases the lock once IDLE = 1, completing any rebinding. -/
  | lockRelease (unit : Fin 10) (owner : Fin 7)
  /-- POOL_BORROW_RETRY (R210). A borrower that found the pool engine held retries after 1 µs. -/
  | poolBorrowRetry (b : BorrowTurn) (pass : Bool) (us : Nat) (faults : List FaultCause)
  /-- SEAL_JOB_START (R226). A seal's first block is fed, taking its invocation counter and volume, with a key switch where due. -/
  | sealJobStart (ctx : Fin 65536) (urgent : Option Nat) (rotating : List Nat) (wait : Nat)
  /-- OPEN_JOB_START (R235). An open job begins its header, SA, replay and expiry checks. -/
  | openJobStart (ctx : Fin 65536) (urgent : Option Nat) (rotating : List Nat) (wait : Nat)
  /-- SUSPEND_RESTORE (R215). With no urgent message waiting, the engine restores its suspended messages and resumes them. -/
  | suspendRestore (unit : Fin 10) (fed : List Nat)
  /-- CIPHER_JOB_COMPLETE (R220). A seal or open job ends with its tag, completion record and status. -/
  | cipherJobComplete (ctx : Fin 65536)
  /-- ONLINE_CHECK (R245). Every 1 ms an ON cipher engine feeds a known-answer block into a free cycle and compares it. -/
  | onlineCheck (unit : Fin 10) (pass : Bool)
  /-- KNOWN_ANSWER_TEST (R244). An engine's known-answer test completes with pass or fail. -/
  | knownAnswerTest (unit : Fin 10) (pass : Bool)
  /-- IV_FIXED_SET (R228). Command that sets the IV fixed field once per cold reset. -/
  | ivFixedSet (r : Req)
  /-- SA_FORMAT (R232). Command that changes an SA's format block. -/
  | saFormat (r : Req)
  /-- CIPHER_RUN (R210). Command that seals or opens a host-supplied frame under a management SA. -/
  | cipherRun (r : Req) (faults : List FaultCause)
  /-- SELFTEST_RUN (R244). Command that runs the known-answer test on a cipher unit. -/
  | selftestRun (r : Req) (pass : Bool) (us : Nat)
  /-- SA_STATS (R220). Command that returns and optionally clears an SA's counters. -/
  | saStats (r : Req)
  /-- KE_DATA_WRITE (R258). A write to a KE_DATA word fills the key-entry buffer and restarts its 10 s timer. -/
  | keDataWrite (word : Fin 16) (v : Word)
  /-- KE_CLEAR_WRITE (R258). A write of CLEAR empties the key-entry buffer. -/
  | keClearWrite (v : Word)
  /-- KE_BUFFER_TIMEOUT (R258). The entry buffer is cleared 10 s after the last KE_DATA write. -/
  | keBufferTimeout
  /-- RX_OVERLAP_EXPIRY (R268). The previous slot of a receive SA is erased RX_OVERLAP ms after promotion. -/
  | rxOverlapExpiry (sa : BitVec 16)
  /-- ENTROPY_WINDOW (R271). A window of 512 entropy samples completes its health tests and passes to conditioning. -/
  | entropyWindow (run apt : Fin 513)
  /-- DRBG_RESEED (R272). The DRBG reseeds after 65,536 requests or once a second. -/
  | drbgReseed
  /-- DRBG_STARTUP_COMPLETE (R274). STARTUP ends with the DRBG RUNNING, and waiting requests are served. -/
  | drbgStartupComplete (pass : Bool)
  /-- RNG_RELEASE (R273). Generated output is released to a consumer once its entropy window has passed. -/
  | rngRelease (pct : Bool)
  /-- TAMPER_LOOP_SAMPLE (R276). The tamper loop bit is sampled each SLOWCLK period, and two failures start zeroisation and an alarm reset. -/
  | tamperLoopSample (ok verified : Bool)
  /-- SUPPLY_ALARM (R276). A rail outside its window for 1 µs starts zeroisation and an alarm reset. -/
  | supplyAlarm (rail : Fin 8) (verified : Bool)
  /-- SLOWCLK_ALARM (R276). A SLOWCLK frequency or edge fault starts zeroisation and an alarm reset. -/
  | slowclkAlarm (verified : Bool)
  /-- REFCLK_ALARM (R276). A REFCLK frequency or edge fault starts zeroisation and an alarm reset. -/
  | refclkAlarm (verified : Bool)
  /-- LOCKSTEP_ALARM (R276). A mismatch between the management cores starts zeroisation and an alarm reset. -/
  | lockstepAlarm (verified : Bool)
  /-- ALARM_HOLD_RELEASE (R279). The part boots 10 ms after the last alarm condition clears. -/
  | alarmHoldRelease
  /-- KEY_COMMIT (R257). Command that moves the entry buffer's key record into the keystore. -/
  | keyCommit (r : Req)
  /-- KEY_GENERATE (R259). Command that generates a key into a slot and returns it wrapped. -/
  | keyGenerate (r : Req) (released : Bool)
  /-- KEY_ERASE (R270). Command that empties a key slot or a PON master session key. -/
  | keyErase (r : Req)
  /-- SA_CREATE (R265). Command that creates an SA with its first slot. -/
  | saCreate (r : Req) (released : Bool)
  /-- SA_STAGE (R269). Command that stages a successor slot for an SA. -/
  | saStage (r : Req)
  /-- SA_ROLL (R270). Command that switches or promotes an SA now. -/
  | saRoll (r : Req)
  /-- SA_DELETE (R267). Command that deletes an SA. -/
  | saDelete (r : Req)
  /-- SA_QUERY (R265). Command that returns an SA's state. -/
  | saQuery (r : Req)
  /-- RNG_READ (R273). Command that returns random bytes from the DRBG. -/
  | rngRead (r : Req) (released : Bool)
  /-- RNG_RESTART (R274). Command that runs DRBG STARTUP. -/
  | rngRestart (r : Req)
  /-- ZEROIZE (R281). Command that runs the zeroise sequence. -/
  | zeroize (r : Req) (verified : Bool)
  /-- CLASSIFY_FRAME (R291). A frame is parsed and passed through the table chain. -/
  | classifyFrame (down : Bool)
  /-- ACTION_PROGRAM (R308). An action unit runs a frame's program once its entry lock is free, and the frame is settled. -/
  | actionProgram (unit : Fin 32) (waited : Bool)
  /-- TABLE_COPY_COMPLETE (R307). The copy of a ternary table's new active page into its standby page ends. -/
  | tableCopyComplete (table : Fin 6)
  /-- TABLE_CONFIG (R298). Command that configures a table's kind, key and miss block. -/
  | tableConfig (r : Req)
  /-- FLOW_ADD (R303). Command that adds or replaces a flow entry. -/
  | flowAdd (r : Req)
  /-- FLOW_DEL (R304). Command that deletes a flow entry. -/
  | flowDel (r : Req)
  /-- FLOW_READ (R301). Command that reads a flow entry. -/
  | flowRead (r : Req)
  /-- RULE_SET (R306). Command that sets or removes a ternary rule on the standby page. -/
  | ruleSet (r : Req)
  /-- TABLE_SPLICE (R307). Command that swaps a ternary table's pages. -/
  | tableSplice (r : Req)
  /-- PROG_LOAD (R318). Command that loads or empties an action program slot. -/
  | progLoad (r : Req)
  /-- METER_SET (R315). Command that sets a meter. -/
  | meterSet (r : Req)
  /-- COUNTER_READ (R315). Command that reads and optionally clears counter pairs. -/
  | counterRead (r : Req)
  /-- EXC_READ (R317). Command that reads and removes exception records. -/
  | excRead (r : Req)
  /-- DISPATCHER_TICK (R330). DP_TICK advances by one microsecond and shaper and policer tokens are added. -/
  | dispatcherTick
  /-- JOB_DUE (R331). A delayed job's DUE tick is served and the job becomes READY. -/
  | jobDue
  /-- CLASS_P_TIMEOUT (R332). A waiting class P job's time-out falls due, and it becomes READY with TIMEOUT. -/
  | classPTimeout
  /-- JOB_TAKE (R327). A consumer takes the oldest highest-priority READY job of its kinds. -/
  | jobTake (by_ : JobTaker)
  /-- QUEUE_SET (R352). Command that sets or removes an S1 queue. -/
  | queueSet (r : Req)
  /-- NODE_SET (R339). Command that sets or removes a node of S2–S5. -/
  | nodeSet (r : Req)
  /-- SHAPER_SET (R348). Command that sets a node's shaper and resets its tokens. -/
  | shaperSet (r : Req)
  /-- POLICER_SET (R348). Command that sets a policer and fills its tokens. -/
  | policerSet (r : Req)
  /-- QUEUE_STATS (R352). Command that returns a queue's statistics. -/
  | queueStats (r : Req)
  /-- NODE_QUERY (R343). Command that returns a node's state. -/
  | nodeQuery (r : Req)
  /-- LANE_LOS_DECLARE (R361). A lane declares LOS after 50 µs without transitions or CDR lock. -/
  | laneLosDeclare (lane : Fin 64)
  /-- LANE_LOS_CLEAR (R361). LOS clears after 125 µs with transitions and CDR lock. -/
  | laneLosClear (lane : Fin 64) (eye : Eye) (ctle : BitVec 4) (dfe : BitVec 30)
  /-- LANE_SYNC_LOSS (R359). A lane loses Clause 36 sync or a quad group loses alignment, and the link goes down. -/
  | laneSyncLoss (lane : Fin 64) (align : Bool)
  /-- LANE_SPEED_EXCHANGE_DONE (R362). Clause 37 pages and the lane-speed exchange complete and the agreed rate is known. -/
  | laneSpeedExchangeDone (lane : Fin 64) (page : Option (BitVec 11))
  /-- RATE_STEP_SWITCH (R363). 10 ms after the exchange, both ends switch to the next rate up. -/
  | rateStepSwitch (lane : Fin 64)
  /-- RATE_STEP_COMPLETE (R363). Lock, adaptation, sync and exchange complete at the new rate. -/
  | rateStepComplete (lane : Fin 64) (eye : Eye) (page : Option (BitVec 11))
  /-- RATE_STEP_TIMEOUT (R363). A rate step does not complete within 20 ms, and the lane returns to 1.25 Gbaud with a lowered limit. -/
  | rateStepTimeout (lane : Fin 64)
  /-- QUAD_RETRY_TIMER (R365). A quad group that failed to come up tries again after 1 s. -/
  | quadRetryTimer (quad : Fin 16)
  /-- ADAPTATION_REPEAT (R366). Every 10 ms the lane repeats its CTLE and DFE search. -/
  | adaptationRepeat (lane : Fin 64) (h w : Nat) (steps : List (Fin 6 × Bool)) (eyes : List Eye)
  /-- FOM_TREND_UPDATE (R367). Once a second the lane's FOM trend is updated and a falling trend starts a substitution. -/
  | fomTrendUpdate (lane : Fin 64) (eye : Eye)
  /-- LANE_SELF_CHECK (R370). A lane unit's 1 ms PRBS31 self-check completes with pass or fail. -/
  | laneSelfCheck (unit : Fin 68) (errors : Word) (lock : Bool) (eye live : Eye) (hit : BitVec 16)
  /-- SPARE_SELF_CHECK_TIMER (R370). Each idle spare lane is self-checked once every 24 operating hours. -/
  | spareSelfCheckTimer
  /-- MAC_FRAME_RX (R377). A MAC receives a whole frame and applies its ordered checks. -/
  | macFrameRx (lane : Fin 64) (frame : List Byte) (x : LineErrs) (ago : Nat)
  /-- MAC_FRAME_TX (R378). A MAC chooses and sends the next frame. -/
  | macFrameTx (lane : Fin 64) (abort : Bool)
  /-- PFC_PAUSE_EXPIRY (R380). The pause timer of a priority ends and its frames may start again. -/
  | pfcPauseExpiry (lane : Fin 64) (prio : Fin 8)
  /-- PFC_REFRESH_TIMER (R381). A fill still at or above XON after PFC_QUANTA × 256 bit times resends XOFF. -/
  | pfcRefreshTimer (lane : Fin 64) (prio : Fin 8)
  /-- LANE_SIGNAL_WAKE (R415). A transition on a sleeping Ethernet lane wakes its domain. -/
  | laneSignalWake (lane : Fin 64)
  /-- LANE_MODE (R355). Command that sets a lane's mode, rate and auto-negotiation. -/
  | laneMode (r : Req)
  /-- LANE_LOOP (R368). Command that sets or ends a test loop. -/
  | laneLoop (r : Req)
  /-- LANE_TEST (R369). Command that runs a PRBS test on a lane. -/
  | laneTest (r : Req) (bits : BitVec 64) (errors : Word) (lock : Bool) (eye : Eye)
  /-- MAC_SNAPSHOT (R383). Command that reads and clears all MAC counters at one instant. -/
  | macSnapshot (r : Req)
  /-- PON_TIME_SAMPLE (R392). A once-a-second PON time sample is taken and applied to the clock. -/
  | ponTimeSample (delay : Int)
  /-- PPS_IN_EDGE (R403). An active PPS_IN edge is stamped, accepted or ignored, and used as a sample. -/
  | ppsInEdge (rise : Bool)
  /-- SOURCE_VANISH_TIMEOUT (R392). The time source has vanished, and a LOCKED clock enters HOLDOVER. -/
  | sourceVanishTimeout
  /-- SLEW_COMPLETE (R389). A backward slew finishes absorbing its correction. -/
  | slewComplete
  /-- SECOND_BOUNDARY (R402). Part time reaches a whole second, and PPS_OUT rises. -/
  | secondBoundary
  /-- PPS_OUT_FALL (R402). PPS_OUT falls WIDTH µs after it rose. -/
  | ppsOutFall
  /-- TIME_NOW (R388). Command that returns part time at one instant. -/
  | timeNow (r : Req)
  /-- TIME_SOURCE (R392). Command that selects the time source. -/
  | timeSource (r : Req)
  /-- TIME_SAMPLE (R394). Command that gives the clock a PTP offset sample. -/
  | timeSample (r : Req)
  /-- TIME_ACQUIRE (R394). Command that authorises one step from JUMPED. -/
  | timeAcquire (r : Req)
  /-- PTP_SEND (R399). Command that sends a PTP frame on a lane with an optional stamp. -/
  | ptpSend (r : Req)
  /-- STAMP_READ (R401). Command that reads and removes transmit stamp entries. -/
  | stampRead (r : Req)
  /-- DOMAIN_SLEEP (R409). A domain in the sleep set that has been idle for IDLE ms drains and goes to sleep. -/
  | domainSleep (d : Fin 16)
  /-- DOMAIN_WAKE (R411). An access to a sleeping domain wakes it, and held accesses complete. -/
  | domainWake (d : Fin 16)
  /-- DOMAIN_WAKE_TIMEOUT (R413). A domain not ON within four times its wake bound fails its engines. -/
  | domainWakeTimeout (d : Fin 16) (failed : List Byte)
  /-- STANDBY_WAKE (R417). An enabled wake source ends DEEP STANDBY with a standby-exit reset. -/
  | standbyWake (source : Fin 5)
  /-- PORST_N_LOW (R419). PORST_N low starts a power-on reset. -/
  | porstNLow
  /-- RESET_N_PULSE (R419). RESET_N low for at least 1 µs starts a cold reset. -/
  | resetNPulse
  /-- PERST_N_LOW (R419). PERST_N low starts a HOST-only reset. -/
  | perstNLow
  /-- MGMT_WATCHDOG_EXPIRY (R419). The management watchdog runs WDOG_MS without a kick and starts a warm reset. -/
  | mgmtWatchdogExpiry
  /-- PLL_LOCK_LOSS (R419). A core, cipher, management or HBM PLL out of lock for 10 µs starts a warm reset. -/
  | pllLockLoss
  /-- WARM_RESET_ASSERT (R421). Once every PON PMD is between bursts, the warm reset is asserted. -/
  | warmResetAssert
  /-- RESET_RELEASE (R422). The reset controller releases the domains in order. -/
  | resetRelease
  /-- BOOT (R424). The part loads trims, options and firmware, runs self-tests and sets READY. -/
  | boot (b : BootIn)
  /-- POWER_STATE (R406). Command that sets the power state and sleep set. -/
  | powerState (p : PowerReq)
  /-- RESET (R419). Command that soft-resets an engine or resets the part warm or cold. -/
  | reset (r : Req)
  /-- BOOT_STATUS (R424). Command that returns the boot record. -/
  | bootStatus (r : Req)
  /-- OPTION_WRITE (R426). Command that writes and verifies an option-block copy. -/
  | optionWrite (r : Req) (readOk : Bool)
  /-- TEMPERATURE_SAMPLE (R434). The die temperature sites are sampled every 100 µs and checked against warnings, trip and alarm. -/
  | temperatureSample (temps : List (BitVec 16)) (refPpm slowPpm : BitVec 16) (verified : Bool)
  /-- RAIL_SAMPLE (R434). Each rail is sampled every 10 µs and checked against its warning window. -/
  | railSample (mv : List (BitVec 16))
  /-- SRAM_ECC_ERROR (R432). A management SRAM error is corrected or stops the firmware. -/
  | sramEccError (correctable : Bool)
  /-- I2C_STRETCH_TIMEOUT (R436). A target holding SCL low for more than 25 ms ends the transfer TIMEOUT. -/
  | i2cStretchTimeout (bus : Fin 2)
  /-- I2C_RECOVERY_RETRY (R437). 10 ms after a failed recovery attempt the controller retries, and declares the bus STUCK after the third. -/
  | i2cRecoveryRetry (bus : Fin 2) (freed : Bool) (pulses : Fin 10) (x : I2cEnd)
  /-- OPTICS_MONITOR_READ (R126). Once a second the optics monitor reads the channel's diagnostic page. -/
  | opticsMonitorRead (ch : Fin 4) (x : OpticsIn)
  /-- LOG_MIRROR_WRITE (R445). Once 64 closed records wait, they are mirrored to NOR. -/
  | logMirrorWrite (fails : Fin 65)
  /-- HOURLY_SLATE (R441). At each whole hour a slate entry is appended to the slate sector. -/
  | hourlySlate
  /-- CURSOR_WRITE (R444). A write to CURSOR copies the named log record into WINDOW. -/
  | cursorWrite (v : Word)
  /-- WINDOW_AUTO_READ (R444). With AUTO = 1, a read of the last WINDOW word advances CURSOR and copies the next record. -/
  | windowAutoRead
  /-- UPDATE_TIMEOUT (R453). An update with no update command for 60 s is abandoned. -/
  | updateTimeout
  /-- ROW_ECC_ERROR (R454). Repeated correctable or an uncorrectable error in an array row brings in a spare row. -/
  | rowEccError (row : RowFault) (correctable : Bool)
  /-- UPDATE_BEGIN (R453). Command that verifies an image header and starts writing the target reel. -/
  | updateBegin (r : Req) (erased : Bool)
  /-- UPDATE_DATA (R449). Command that writes image bytes to the target reel. -/
  | updateData (r : Req) (bad : List (Byte × Bool))
  /-- UPDATE_END (R449). Command that verifies the written reel and writes its control record. -/
  | updateEnd (r : Req) (readOk : Bool)
  /-- REEL_STATUS (R450). Command that returns the state of both reels. -/
  | reelStatus (r : Req)
  /-- LOG_CLEAR (R446). Command that empties the continuity log and its mirror. -/
  | logClear (r : Req)
  /-- I2C_XFER (R436). Command that performs an I²C write and read. -/
  | i2cXfer (r : Req) (x : I2cIn)
  /-- SPARE_INVENTORY (R454). Command that returns the spares inventory. -/
  | spareInventory (r : Req)
  /-- UNIT_RESTORE (R457). Command that self-tests a RETIRED unit and returns it to service or SPARE. -/
  | unitRestore (r : Req) (pass : Bool)
  /-- LANE_SYNC_ACQUIRED (R364). A lane gains Clause 36 sync, or a quad group becomes aligned on its alignment columns, and the link comes up where no exchange or rate step is running. -/
  | laneSyncAcquired (lane : Fin 64) (aligned : Bool)
  /-- ALARM_SOURCES_ARMED (R278). 1 ms after PORST_N is released with every rail in window, the supply, SLOWCLK and temperature alarm sources become armed. -/
  | alarmSourcesArmed
deriving DecidableEq, Repr

end Sys2Proof
end

