-- ==== Sys2Proof/Decode.lean ====
section
/-! DEFINITION. The commands that a word spells. -/
namespace Sys2Proof

/-- The command that a word of `nbits` bits spells: none, since no row of the spec's table gives its command bits (its `fields` are empty). -/
def decodeTableWord (_nbits _w : Nat) : Option Instr := none

end Sys2Proof
end

