-- ==== Sys2Proof/Config.lean ====
section
/-! DEFINITION. What one die fixes and what the spec leaves open: constants without a body, so that no proof can lean on a
value of theirs. -/
namespace Sys2Proof

/-- A value the spec does not give: the `n`-th one drawn (log entry 2). The state's `freeCtr` says how many were drawn. -/
opaque Config.freeValue : Nat → Nat

/-- Whether the die is a RYT-4864-I (R2). -/
opaque Config.gradeI : Bool

/-- Fused identity of the die (UNIQUE_ID of IDENTIFY). -/
opaque Config.uniqueId : BitVec 64

/-- Substitutions fused for an engine (ENG_SUBST.NSUBST, R21, R454). -/
opaque Config.nsubst : Nat → BitVec 4

/-- Anti-rollback fuses blown when the part was powered (TK.FUSED, R452). -/
opaque Config.fusedCount : BitVec 7

/-- Vendor-ID and base VSSN held in fuses, the defaults of R428. -/
opaque Config.fusedVendor : BitVec 32
opaque Config.fusedVssn : BitVec 32

/-- Spare rows that the HBM stack's device information gives (R454). -/
opaque Config.hbmSpares : BitVec 16

/-- SHA-384 (FIPS 180-4). -/
opaque Config.sha384 : List Byte → BitVec 384

/-- HMAC-SHA-384 (FIPS 198-1) under a key, over a message (R71). -/
opaque Config.hmac384 : List Byte → List Byte → BitVec 384

/-- Whether 97 bytes are an uncompressed P-384 point (R70). -/
opaque Config.p384Valid : List Byte → Bool

/-- The public key of a P-384 private scalar, uncompressed, 97 bytes as one number (R70). -/
opaque Config.p384Public : BitVec 384 → BitVec 776

/-- x-coordinate of the ECDH shared point of a private scalar and a peer's public key (R70). -/
opaque Config.ecdh : BitVec 384 → List Byte → BitVec 384

/-- ECDSA P-384 verification of a signature over a message under a numbered public key (R439, R449). -/
opaque Config.ecdsaVerify : Nat → List Byte → List Byte → Bool

/-- AES-KW wrap (NIST SP 800-38F): key-encryption key, data; the bytes of the result as one number, first byte highest. -/
opaque Config.kwWrap : List Byte → List Byte → Nat

/-- AES-KW unwrap: the bytes of the data as one number, first byte highest, or none where the integrity check fails. -/
opaque Config.kwUnwrap : List Byte → List Byte → Option Nat

/-- AES-CTR and GCM key stream: key, initial counter block or IV, byte position. -/
opaque Config.keystream : List Byte → List Byte → Nat → Byte

/-- GCM tag: key, IV, additional data, ciphertext (R202, R233). -/
opaque Config.gcmTag : List Byte → List Byte → List Byte → List Byte → BitVec 128

/-- AES-CMAC (G.9804.2 message integrity checks and key derivation, R97, R104, R115): key, message. -/
opaque Config.cmac : List Byte → List Byte → BitVec 128

/-- The keys that G.9804.2 derives from a terminal's master session key (R113): 0 PLOAM integrity, 1 OMCI integrity, 2 key
encryption; none as the master session key gives the defaults of G.9804.2. -/
opaque Config.ponDerive : Option (BitVec 128) → Nat → BitVec 128

/-- The delay before Serial_Number_ONU in bit periods, within the range that G.9804.2 sets (R96): the generator of a terminal is seeded at reset from
UNIQUE_ID and the terminal's number; the last argument counts the draws since. -/
opaque Config.randomDelay : BitVec 64 → Nat → Nat → Nat

/-- Header and content of an upstream PLOAM message as G.9804.2 lays them out, which the spec does not give: the kind and the ONU-ID (0x3FF for none); the
kind and the message's fields. -/
opaque Config.ploamHead : Nat → Nat → BitVec 32
opaque Config.ploamContent : Nat → List Nat → BitVec 288

/-- The counter block of an upstream XGEM payload as G.9804.2 builds it (R113, R241): superframe counter of the frame, the burst's StartTime, the
payload's byte position in the burst. -/
opaque Config.upCounter : Nat → Nat → Nat → BitVec 128

/-- A byte of the descriptor of a job whose kind's chapter gives none (R324): the kind's code, the context, the byte's place. -/
opaque Config.jobByte : Nat → Nat → Nat → Byte

/-- The pre-assigned delay of G.9804.2 in bit periods of 49.7664 Gb/s (R98, R131). -/
opaque Config.preAssignedDelay : Nat

/-- The CEP header of RFC 4842 (R181, R182), whose layout the spec does not give: L, R, N, P, sequence number, structure pointer. -/
opaque Config.cepHeader : Bool → Bool → Bool → Bool → Nat → Nat → BitVec 32

/-- What a received CEP header says (R182): L, R, the sequence number and the structure pointer. N and P are ignored. -/
opaque Config.cepRead : BitVec 32 → Bool × Bool × BitVec 16 × Nat

/-- The offset of a new pointer (R166, R182): from where the structure pointer of the packet being played places the VC, none where no CEP circuit is
the source, and a free value for the fill of the elastic store. -/
opaque Config.newPointer : Option Nat → Nat → Nat

end Sys2Proof
end

