-- ==== Sys2Proof/Machine/Operands.lean ====
section
/-! DEFINITION. Reading and writing the multi-byte fields of packets, records and frames (R8), and the two published checksums
that the part computes over them. -/
namespace Sys2Proof.Machine

/-- One byte of a number. -/
def byte (v : Nat) : Byte := BitVec.ofNat 8 v

/-- `n` little-endian bytes of `v`. -/
def le : Nat → Nat → List Byte
  | 0, _ => []
  | n + 1, v => byte v :: le n (v / 256)

/-- The number that little-endian bytes spell. -/
def leVal : List Byte → Nat
  | [] => 0
  | b :: bs => b.toNat + 256 * leVal bs

/-- `n` big-endian bytes of `v`. -/
def be (n v : Nat) : List Byte := (le n v).reverse

/-- The number that big-endian bytes spell. -/
def beVal (bs : List Byte) : Nat := leVal bs.reverse

/-- The little-endian field of `n` bytes at `off`; bytes beyond the end read as nothing. -/
def fld (p : List Byte) (off n : Nat) : Nat := leVal ((p.drop off).take n)

/-- The bytes `off` to `off + n - 1`. -/
def part (p : List Byte) (off n : Nat) : List Byte := (p.drop off).take n

/-- `n` zero bytes. -/
def zeros (n : Nat) : List Byte := List.replicate n 0

/-- Bits `hi` to `lo` of `v`. -/
def bits (v hi lo : Nat) : Nat := v / 2 ^ lo % 2 ^ (hi + 1 - lo)

/-- Bit `i` of `v`. -/
def bitOf (v i : Nat) : Bool := v / 2 ^ i % 2 == 1

/-- A flag as a number. -/
def bit (b : Bool) : Nat := if b then 1 else 0

/-- `v` as a two's complement number of `n` bits. -/
def signed (n v : Nat) : Int := if v % 2 ^ n < 2 ^ (n - 1) then (v % 2 ^ n : Nat) else ((v % 2 ^ n : Nat) : Int) - (2 ^ n : Nat)

/-- The `n`-bit two's complement pattern of `v`. -/
def unsigned (n : Nat) (v : Int) : Nat := (v % ((2 ^ n : Nat) : Int)).toNat

/-- Whether `a` is ahead of `b` in `n`-bit serial arithmetic (R488). -/
def ahead (n a b : Nat) : Bool :=
  let d := (a % 2 ^ n + 2 ^ n - b % 2 ^ n) % 2 ^ n
  decide (1 ≤ d) && decide (d < 2 ^ (n - 1))

/-- Whether `a` is behind `b` in `n`-bit serial arithmetic (R488). -/
def behind (n a b : Nat) : Bool :=
  let d := (a % 2 ^ n + 2 ^ n - b % 2 ^ n) % 2 ^ n
  decide (2 ^ (n - 1) < d)

/-- Offset of the first nonzero byte among bytes `off` to `off + n - 1` (R493). -/
def firstNonzero (p : List Byte) (off : Nat) : Nat → Option Nat
  | 0 => none
  | n + 1 => if p.getD off 0 = 0 then firstNonzero p (off + 1) n else some off

/-- One bit of a CRC with reflected polynomial `poly`. -/
def crcBit (poly c : BitVec 32) : BitVec 32 := if c.getLsbD 0 then (c >>> 1) ^^^ poly else c >>> 1

/-- One byte into a reflected CRC. -/
def crcByte (poly c : BitVec 32) (b : Byte) : BitVec 32 :=
  let x := c ^^^ b.setWidth 32
  crcBit poly (crcBit poly (crcBit poly (crcBit poly (crcBit poly (crcBit poly (crcBit poly (crcBit poly x)))))))

/-- CRC-32 of IEEE 802.3 (R83, R440). -/
def crc32 (bs : List Byte) : BitVec 32 := ~~~ (bs.foldl (crcByte 0xEDB88320#32) 0xFFFFFFFF#32)

/-- CRC-32C (Castagnoli), as R302 uses it. -/
def crc32c (bs : List Byte) : BitVec 32 := ~~~ (bs.foldl (crcByte 0x82F63B78#32) 0xFFFFFFFF#32)

end Sys2Proof.Machine
end

