-- ==== Sys2Proof/Machine/TypesCls.lean ====
section
/-! DEFINITION. What the classifier holds beyond its registers (R291 to R319). -/
namespace Sys2Proof.Machine

/-- A frame that waits for the parser: its pass, receiving lane, bytes without FCS, arrival stamp, and the red pages it lies in
(downstream). -/
structure ClsIn where
  down : Bool
  lane : Nat
  bytes : List Byte
  arrival : Nat
  pages : List Nat
deriving DecidableEq, Repr

/-- A frame whose chain has run and whose program waits for an action unit (R299, R308): its parse record and metadata, and
upstream the context it has taken (R333). -/
structure ProgIn where
  frame : ClsIn
  record : List Byte
  data : List Byte
  ctx : Option Nat := none
deriving DecidableEq, Repr

/-- A flow-table entry (R301). `key` is 24 bytes, `result` and `data` 16. `order` is the place of a stash entry among the adds. -/
structure FlowE where
  table : Nat
  keyLen : Nat
  hit : Nat
  key : List Byte
  result : List Byte
  data : List Byte
  order : Nat := 0
deriving DecidableEq, Repr

/-- A ternary rule (R306); `key` and `mask` are 40 bytes. -/
structure Rule where
  key : List Byte
  mask : List Byte
  result : List Byte
deriving DecidableEq, Repr

/-- A table's configuration and ternary pages (R298, R299, R306). -/
structure TableC where
  kind : Nat := 0
  fields : List Byte := List.replicate 24 0
  miss : List Byte := List.replicate 16 0
  act : SMap Rule := []
  stby : SMap Rule := []
deriving DecidableEq, Repr

/-- An action program (R308, R310): its instruction words and TRAP_DZ. -/
structure Prog where
  trap : Bool
  words : List Nat
deriving DecidableEq, Repr

/-- A meter (R315): CIR in kb/s, the buckets' sizes and contents in bytes, when it was set, and how many bytes it has been given since. -/
structure Meter where
  cir : Nat
  cbs : Nat
  ebs : Nat
  tc : Nat
  te : Nat
  since : Nat
  given : Nat := 0
deriving DecidableEq, Repr

/-- The classifier. `flows` by entry index, `stash` by slot; `excq` holds the records of 64 bytes, oldest first; `exhSec` is the second of the
last FLOW_EXHAUSTED (R303); `lastMac` the MAC that was last given a frame's context, for the rotation of R335. -/
structure Cls where
  inq : List ClsIn := []
  progq : List ProgIn := []
  tables : SMap TableC := []
  flows : SMap FlowE := []
  stash : SMap FlowE := []
  adds : Nat := 0
  progs : SMap Prog := []
  counters : SMap (Nat × Nat) := []
  meters : SMap Meter := []
  excq : List (List Byte) := []
  exhSec : Option Nat := none
  lastMac : Nat := 63
deriving DecidableEq, Repr

end Sys2Proof.Machine
end

