-- ==== Sys2Proof/Machine/RegMap.lean ====
section
/-! DEFINITION. The register map: every field of every register table of the spec (R9, R17, R20 to R22, R55, R126, R127, R158, R199,
R250, R286 to R289, R320, R353, R384, R404, R430, R458), with its place, access type and reset value. -/
namespace Sys2Proof.Machine

/-- Access types of R9. The spec's tables hold no RWO field. -/
inductive Acc where
  | ro | rw | wo | rc | w1c | w1s
deriving DecidableEq, Repr

/-- One register field: byte offset in its engine's window, bits, access, reset value. `spec` marks a field whose reset
value differs from engine to engine (`Fld.resetAt`). A field that stands in `count` registers repeats every `stride` bytes. -/
structure Fld where
  off : Nat
  hi : Nat
  lo : Nat
  acc : Acc
  reset : Nat
  count : Nat := 1
  stride : Nat := 4
  spec : Bool := false
deriving DecidableEq, Repr

/-- The field in the `i`-th of its registers. -/
def Fld.idx (f : Fld) (i : Nat) : Fld := ⟨f.off + i * f.stride, f.hi, f.lo, f.acc, f.reset, 1, f.stride, f.spec⟩

/-- How many bits the field has. -/
def Fld.width (f : Fld) : Nat := f.hi + 1 - f.lo

def HDR.DOMAIN : Fld := ⟨0x0, 31, 28, .ro, 0, 1, 4, true⟩
def HDR.ENGINE : Fld := ⟨0x0, 27, 20, .ro, 0, 1, 4, true⟩
def HDR.KIND : Fld := ⟨0x0, 15, 8, .ro, 0, 1, 4, true⟩
def HDR.VERSION : Fld := ⟨0x0, 7, 0, .ro, 176, 1, 4, false⟩
def HDR.STATE : Fld := ⟨0x4, 2, 0, .ro, 0, 1, 4, true⟩
def HDR.REARM : Fld := ⟨0x4, 8, 8, .ro, 0, 1, 4, false⟩
def HDR.PEND_OFF : Fld := ⟨0x4, 9, 9, .ro, 0, 1, 4, false⟩
def HDR.ASLEEP : Fld := ⟨0x4, 10, 10, .ro, 0, 1, 4, false⟩
def HDR.SRST : Fld := ⟨0x8, 0, 0, .w1s, 0, 1, 4, false⟩
def HDR.ENABLE : Fld := ⟨0x8, 1, 1, .rw, 0, 1, 4, true⟩
def HDR.ECC_UE : Fld := ⟨0xC, 0, 0, .w1c, 0, 1, 4, false⟩
def HDR.ECC_TREND : Fld := ⟨0xC, 1, 1, .w1c, 0, 1, 4, false⟩
def HDR.SELFTEST : Fld := ⟨0xC, 2, 2, .w1c, 0, 1, 4, false⟩
def HDR.WATCHDOG : Fld := ⟨0xC, 3, 3, .w1c, 0, 1, 4, false⟩
def HDR.WAKE_FAIL : Fld := ⟨0xC, 4, 4, .w1c, 0, 1, 4, false⟩
def HDR.KIND_FAULT : Fld := ⟨0xC, 15, 8, .w1c, 0, 1, 4, false⟩
def HDR.WEAR : Fld := ⟨0x10, 15, 0, .ro, 0, 1, 4, false⟩
def HDR.PUNIT : Fld := ⟨0x14, 7, 0, .ro, 0, 1, 4, true⟩
def HDR.LUNIT : Fld := ⟨0x14, 15, 8, .ro, 0, 1, 4, true⟩
def HDR.SUBST : Fld := ⟨0x14, 16, 16, .ro, 0, 1, 4, false⟩
def HDR.NSUBST : Fld := ⟨0x14, 27, 24, .ro, 0, 1, 4, true⟩
def HDR.all : List Fld := [HDR.DOMAIN, HDR.ENGINE, HDR.KIND, HDR.VERSION, HDR.STATE, HDR.REARM, HDR.PEND_OFF, HDR.ASLEEP, HDR.SRST, HDR.ENABLE, HDR.ECC_UE, HDR.ECC_TREND, HDR.SELFTEST, HDR.WATCHDOG, HDR.WAKE_FAIL, HDR.KIND_FAULT, HDR.WEAR, HDR.PUNIT, HDR.LUNIT, HDR.SUBST, HDR.NSUBST]

def VS.REV : Fld := ⟨0x100, 7, 0, .ro, 176, 1, 4, false⟩
def VS.PROTO : Fld := ⟨0x100, 15, 8, .ro, 1, 1, 4, false⟩
def VS.MAGIC : Fld := ⟨0x100, 31, 16, .ro, 22099, 1, 4, false⟩
def VS.READY : Fld := ⟨0x104, 0, 0, .ro, 0, 1, 4, false⟩
def VS.RECOVERY : Fld := ⟨0x104, 1, 1, .ro, 0, 1, 4, false⟩
def VS.HALT : Fld := ⟨0x104, 7, 4, .ro, 0, 1, 4, false⟩
def VS.RPL_FULL : Fld := ⟨0x104, 8, 8, .ro, 0, 1, 4, false⟩
def VS.HOLDOFF : Fld := ⟨0x108, 25, 16, .rw, 0, 1, 4, false⟩
def VS.RPL_BASE_LO : Fld := ⟨0x110, 31, 0, .rw, 0, 1, 4, false⟩
def VS.RPL_BASE_HI : Fld := ⟨0x114, 31, 0, .rw, 0, 1, 4, false⟩
def VS.RPL_SIZE_LOG2 : Fld := ⟨0x118, 4, 0, .rw, 12, 1, 4, false⟩
def VS.RPL_ENABLE : Fld := ⟨0x118, 8, 8, .rw, 0, 1, 4, false⟩
def VS.CUE_EN : Fld := ⟨0x118, 9, 9, .rw, 0, 1, 4, false⟩
def VS.WB_LO : Fld := ⟨0x120, 31, 0, .rw, 0, 1, 4, false⟩
def VS.WB_HI : Fld := ⟨0x124, 31, 0, .rw, 0, 1, 4, false⟩
def VS.RPL_TAIL : Fld := ⟨0x128, 31, 0, .ro, 0, 1, 4, false⟩
def VS.CUE_LOST : Fld := ⟨0x12C, 15, 0, .rc, 0, 1, 4, false⟩
def VS.CMD_BASE_LO : Fld := ⟨0x200, 31, 0, .rw, 0, 4, 0x20, false⟩
def VS.CMD_BASE_HI : Fld := ⟨0x204, 31, 0, .rw, 0, 4, 0x20, false⟩
def VS.CMD_SIZE_LOG2 : Fld := ⟨0x208, 4, 0, .rw, 12, 4, 0x20, false⟩
def VS.CMD_ENABLE : Fld := ⟨0x208, 8, 8, .rw, 0, 4, 0x20, false⟩
def VS.CMD_HEAD : Fld := ⟨0x20C, 31, 0, .ro, 0, 4, 0x20, false⟩
def VS.HALT_CAUSE : Fld := ⟨0x210, 3, 0, .ro, 0, 4, 0x20, false⟩
def VS.HALT_AT : Fld := ⟨0x210, 31, 4, .ro, 0, 4, 0x20, false⟩
def VS.CMD_TAIL : Fld := ⟨0x1100, 31, 0, .rw, 0, 4, 0x4, false⟩
def VS.RPL_HEAD : Fld := ⟨0x1110, 31, 0, .rw, 0, 1, 4, false⟩
def VS.KE_DATA : Fld := ⟨0x2100, 31, 0, .wo, 0, 16, 0x4, false⟩
def VS.CLEAR : Fld := ⟨0x2140, 0, 0, .wo, 0, 1, 4, false⟩
def VS.FILLED : Fld := ⟨0x2144, 15, 0, .ro, 0, 1, 4, false⟩
def VS.all : List Fld := [VS.REV, VS.PROTO, VS.MAGIC, VS.READY, VS.RECOVERY, VS.HALT, VS.RPL_FULL, VS.HOLDOFF, VS.RPL_BASE_LO, VS.RPL_BASE_HI, VS.RPL_SIZE_LOG2, VS.RPL_ENABLE, VS.CUE_EN, VS.WB_LO, VS.WB_HI, VS.RPL_TAIL, VS.CUE_LOST, VS.CMD_BASE_LO, VS.CMD_BASE_HI, VS.CMD_SIZE_LOG2, VS.CMD_ENABLE, VS.CMD_HEAD, VS.HALT_CAUSE, VS.HALT_AT, VS.CMD_TAIL, VS.RPL_HEAD, VS.KE_DATA, VS.CLEAR, VS.FILLED]

def PMD.MODE : Fld := ⟨0x100, 1, 0, .rw, 0, 1, 4, false⟩
def PMD.US_RATES : Fld := ⟨0x100, 6, 4, .rw, 7, 1, 4, false⟩
def PMD.TX_EN : Fld := ⟨0x100, 8, 8, .rw, 0, 1, 4, false⟩
def PMD.PBEN_POL : Fld := ⟨0x100, 9, 9, .rw, 0, 1, 4, false⟩
def PMD.PSD_POL : Fld := ⟨0x100, 10, 10, .rw, 0, 1, 4, false⟩
def PMD.SD : Fld := ⟨0x104, 0, 0, .ro, 0, 1, 4, false⟩
def PMD.CDR_LOCK : Fld := ⟨0x104, 1, 1, .ro, 0, 1, 4, false⟩
def PMD.TX_BURST : Fld := ⟨0x104, 2, 2, .ro, 0, 1, 4, false⟩
def PMD.LOS_SEEN : Fld := ⟨0x108, 0, 0, .w1c, 0, 1, 4, false⟩
def PMD.ROGUE : Fld := ⟨0x108, 1, 1, .w1c, 0, 1, 4, false⟩
def PMD.TX_FAULT : Fld := ⟨0x108, 2, 2, .w1c, 0, 1, 4, false⟩
def PMD.all : List Fld := [PMD.MODE, PMD.US_RATES, PMD.TX_EN, PMD.PBEN_POL, PMD.PSD_POL, PMD.SD, PMD.CDR_LOCK, PMD.TX_BURST, PMD.LOS_SEEN, PMD.ROGUE, PMD.TX_FAULT]

def FR.SYNC : Fld := ⟨0x100, 1, 0, .ro, 0, 1, 4, false⟩
def FR.LOS : Fld := ⟨0x100, 2, 2, .ro, 1, 1, 4, false⟩
def FR.LODS : Fld := ⟨0x100, 3, 3, .ro, 0, 1, 4, false⟩
def FR.PROFILE : Fld := ⟨0x100, 4, 4, .ro, 0, 1, 4, false⟩
def FR.SFC_LO : Fld := ⟨0x104, 31, 0, .ro, 0, 1, 4, false⟩
def FR.SFC_HI : Fld := ⟨0x108, 18, 0, .ro, 0, 1, 4, false⟩
def FR.EQD : Fld := ⟨0x10C, 24, 0, .ro, 0, 1, 4, false⟩
def FR.EQD_VALID : Fld := ⟨0x10C, 31, 31, .ro, 0, 1, 4, false⟩
def FR.FR_LODS_CNT : Fld := ⟨0x110, 31, 0, .rc, 0, 1, 4, false⟩
def FR.FR_PSYNC_ERR : Fld := ⟨0x114, 31, 0, .rc, 0, 1, 4, false⟩
def FR.FR_HEC_ERR : Fld := ⟨0x118, 31, 0, .rc, 0, 1, 4, false⟩
def FR.all : List Fld := [FR.SYNC, FR.LOS, FR.LODS, FR.PROFILE, FR.SFC_LO, FR.SFC_HI, FR.EQD, FR.EQD_VALID, FR.FR_LODS_CNT, FR.FR_PSYNC_ERR, FR.FR_HEC_ERR]

def FEC.FEC_CW : Fld := ⟨0x100, 31, 0, .rc, 0, 1, 4, false⟩
def FEC.FEC_CORR_CW : Fld := ⟨0x104, 31, 0, .rc, 0, 1, 4, false⟩
def FEC.FEC_UNCORR : Fld := ⟨0x108, 31, 0, .rc, 0, 1, 4, false⟩
def FEC.FEC_CORR_BITS : Fld := ⟨0x10C, 31, 0, .rc, 0, 1, 4, false⟩
def FEC.all : List Fld := [FEC.FEC_CW, FEC.FEC_CORR_CW, FEC.FEC_UNCORR, FEC.FEC_CORR_BITS]

def XG.DEC_EN : Fld := ⟨0x100, 0, 0, .rw, 0, 1, 4, false⟩
def XG.XG_FRAMES : Fld := ⟨0x104, 31, 0, .rc, 0, 1, 4, false⟩
def XG.XG_HEC_ERR : Fld := ⟨0x108, 31, 0, .rc, 0, 1, 4, false⟩
def XG.XG_UNKNOWN : Fld := ⟨0x10C, 31, 0, .rc, 0, 1, 4, false⟩
def XG.XG_KEY_MISS : Fld := ⟨0x110, 31, 0, .rc, 0, 1, 4, false⟩
def XG.XG_REASM_ERR : Fld := ⟨0x114, 31, 0, .rc, 0, 1, 4, false⟩
def XG.PORT_CH : Fld := ⟨0x118, 13, 0, .ro, 0, 1, 4, false⟩
def XG.PORT_ALL : Fld := ⟨0x118, 29, 16, .ro, 0, 1, 4, false⟩
def XG.all : List Fld := [XG.DEC_EN, XG.XG_FRAMES, XG.XG_HEC_ERR, XG.XG_UNKNOWN, XG.XG_KEY_MISS, XG.XG_REASM_ERR, XG.PORT_CH, XG.PORT_ALL]

def PL.TO1 : Fld := ⟨0x100, 15, 0, .rw, 10000, 1, 4, false⟩
def PL.TO2 : Fld := ⟨0x100, 31, 16, .rw, 100, 1, 4, false⟩
def PL.PL_RX : Fld := ⟨0x104, 31, 0, .rc, 0, 1, 4, false⟩
def PL.PL_MIC_ERR : Fld := ⟨0x108, 31, 0, .rc, 0, 1, 4, false⟩
def PL.PL_DROP : Fld := ⟨0x10C, 31, 0, .rc, 0, 1, 4, false⟩
def PL.PL_TX : Fld := ⟨0x110, 31, 0, .rc, 0, 1, 4, false⟩
def PL.PL_KEY_FAIL : Fld := ⟨0x114, 31, 0, .rc, 0, 1, 4, false⟩
def PL.ALLOC_CH : Fld := ⟨0x118, 10, 0, .ro, 0, 1, 4, false⟩
def PL.ALLOC_ALL : Fld := ⟨0x118, 26, 16, .ro, 0, 1, 4, false⟩
def PL.WS_EN : Fld := ⟨0x11C, 0, 0, .rw, 0, 1, 4, false⟩
def PL.IAWARE : Fld := ⟨0x11C, 15, 8, .rw, 10, 1, 4, false⟩
def PL.ILOWPOWER : Fld := ⟨0x11C, 31, 16, .rw, 100, 1, 4, false⟩
def PL.all : List Fld := [PL.TO1, PL.TO2, PL.PL_RX, PL.PL_MIC_ERR, PL.PL_DROP, PL.PL_TX, PL.PL_KEY_FAIL, PL.ALLOC_CH, PL.ALLOC_ALL, PL.WS_EN, PL.IAWARE, PL.ILOWPOWER]

def OPT.BUS : Fld := ⟨0x100, 0, 0, .rw, 0, 1, 4, true⟩
def OPT.DEV_ADDR : Fld := ⟨0x100, 15, 8, .rw, 162, 1, 4, false⟩
def OPT.MUX_ADDR : Fld := ⟨0x100, 23, 16, .rw, 0, 1, 4, false⟩
def OPT.MUX_PORT : Fld := ⟨0x100, 26, 24, .rw, 0, 1, 4, true⟩
def OPT.RX_PWR : Fld := ⟨0x104, 15, 0, .ro, 0, 1, 4, false⟩
def OPT.TX_PWR : Fld := ⟨0x104, 31, 16, .ro, 0, 1, 4, false⟩
def OPT.BIAS : Fld := ⟨0x108, 15, 0, .ro, 0, 1, 4, false⟩
def OPT.TEMP : Fld := ⟨0x108, 31, 16, .ro, 0, 1, 4, false⟩
def OPT.VCC : Fld := ⟨0x10C, 15, 0, .ro, 0, 1, 4, false⟩
def OPT.VALID : Fld := ⟨0x110, 0, 0, .ro, 0, 1, 4, false⟩
def OPT.UNMANAGED : Fld := ⟨0x110, 1, 1, .ro, 0, 1, 4, false⟩
def OPT.STALE : Fld := ⟨0x110, 2, 2, .ro, 0, 1, 4, false⟩
def OPT.all : List Fld := [OPT.BUS, OPT.DEV_ADDR, OPT.MUX_ADDR, OPT.MUX_PORT, OPT.RX_PWR, OPT.TX_PWR, OPT.BIAS, OPT.TEMP, OPT.VCC, OPT.VALID, OPT.UNMANAGED, OPT.STALE]

def BD.WINDOW : Fld := ⟨0x100, 11, 0, .rw, 250, 1, 4, false⟩
def BD.LIMIT : Fld := ⟨0x100, 24, 16, .rw, 64, 1, 4, false⟩
def BD.BD_DELIVERED : Fld := ⟨0x104, 31, 0, .rc, 0, 1, 4, false⟩
def BD.BD_DROP_GAP : Fld := ⟨0x108, 31, 0, .rc, 0, 1, 4, false⟩
def BD.BD_DROP_SPACE : Fld := ⟨0x10C, 31, 0, .rc, 0, 1, 4, false⟩
def BD.BD_LATE : Fld := ⟨0x110, 31, 0, .rc, 0, 1, 4, false⟩
def BD.BD_DUP : Fld := ⟨0x114, 31, 0, .rc, 0, 1, 4, false⟩
def BD.BD_BAD : Fld := ⟨0x118, 31, 0, .rc, 0, 1, 4, false⟩
def BD.BD_DROP_LONG : Fld := ⟨0x11C, 31, 0, .rc, 0, 1, 4, false⟩
def BD.US_WINDOW : Fld := ⟨0x200, 11, 0, .rw, 250, 1, 4, false⟩
def BD.MAX_FRAG : Fld := ⟨0x200, 22, 16, .rw, 64, 1, 4, false⟩
def BD.BU_FRAGS : Fld := ⟨0x204, 31, 0, .rc, 0, 1, 4, false⟩
def BD.BU_RESENT : Fld := ⟨0x208, 31, 0, .rc, 0, 1, 4, false⟩
def BD.BU_RESEND_EXPIRED : Fld := ⟨0x20C, 31, 0, .rc, 0, 1, 4, false⟩
def BD.BU_FENCED : Fld := ⟨0x210, 31, 0, .rc, 0, 1, 4, false⟩
def BD.US_BURSTS : Fld := ⟨0x240, 31, 0, .rc, 0, 4, 0x10, false⟩
def BD.US_ABANDONED : Fld := ⟨0x244, 31, 0, .rc, 0, 4, 0x10, false⟩
def BD.US_GRANT_DROP : Fld := ⟨0x248, 31, 0, .rc, 0, 4, 0x10, false⟩
def BD.PA_MAP : Fld := ⟨0x280, 3, 0, .ro, 0, 1, 4, false⟩
def BD.PA_EPOCH : Fld := ⟨0x284, 31, 0, .ro, 0, 1, 4, false⟩
def BD.ACTIVE : Fld := ⟨0x288, 1, 0, .ro, 1, 1, 4, false⟩
def BD.LOST : Fld := ⟨0x288, 2, 2, .ro, 0, 1, 4, false⟩
def BD.PA_STALE : Fld := ⟨0x28C, 31, 0, .rc, 0, 1, 4, false⟩
def BD.PA_SWITCHES : Fld := ⟨0x290, 31, 0, .rc, 0, 1, 4, false⟩
def BD.ROLE : Fld := ⟨0x2C0, 1, 0, .ro, 0, 1, 4, false⟩
def BD.LINK_UP : Fld := ⟨0x2C0, 2, 2, .ro, 0, 1, 4, false⟩
def BD.PON_UP : Fld := ⟨0x2C0, 3, 3, .ro, 0, 1, 4, false⟩
def BD.SWAP_PEND : Fld := ⟨0x2C0, 4, 4, .ro, 0, 1, 4, false⟩
def BD.RANK_WEAK : Fld := ⟨0x2C0, 5, 5, .ro, 0, 1, 4, false⟩
def BD.ISOLATED : Fld := ⟨0x2C0, 6, 6, .ro, 0, 1, 4, false⟩
def BD.BARRED : Fld := ⟨0x2C0, 7, 7, .ro, 0, 1, 4, false⟩
def BD.PR_RANK_LO : Fld := ⟨0x2C4, 31, 0, .ro, 0, 1, 4, false⟩
def BD.PR_RANK_HI : Fld := ⟨0x2C8, 31, 0, .ro, 0, 1, 4, false⟩
def BD.PR_PARTNER_FIXED : Fld := ⟨0x2CC, 31, 0, .ro, 0, 1, 4, false⟩
def BD.PR_HB_BAD : Fld := ⟨0x2D0, 31, 0, .rc, 0, 1, 4, false⟩
def BD.PR_SWAP_DROP : Fld := ⟨0x2D4, 31, 0, .rc, 0, 1, 4, false⟩
def BD.all : List Fld := [BD.WINDOW, BD.LIMIT, BD.BD_DELIVERED, BD.BD_DROP_GAP, BD.BD_DROP_SPACE, BD.BD_LATE, BD.BD_DUP, BD.BD_BAD, BD.BD_DROP_LONG, BD.US_WINDOW, BD.MAX_FRAG, BD.BU_FRAGS, BD.BU_RESENT, BD.BU_RESEND_EXPIRED, BD.BU_FENCED, BD.US_BURSTS, BD.US_ABANDONED, BD.US_GRANT_DROP, BD.PA_MAP, BD.PA_EPOCH, BD.ACTIVE, BD.LOST, BD.PA_STALE, BD.PA_SWITCHES, BD.ROLE, BD.LINK_UP, BD.PON_UP, BD.SWAP_PEND, BD.RANK_WEAK, BD.ISOLATED, BD.BARRED, BD.PR_RANK_LO, BD.PR_RANK_HI, BD.PR_PARTNER_FIXED, BD.PR_HB_BAD, BD.PR_SWAP_DROP]

def SF.J0_CMP : Fld := ⟨0x100, 0, 0, .rw, 0, 1, 4, false⟩
def SF.S1_TX : Fld := ⟨0x100, 15, 8, .rw, 15, 1, 4, false⟩
def SF.OOF : Fld := ⟨0x104, 0, 0, .ro, 0, 1, 4, false⟩
def SF.LOF : Fld := ⟨0x104, 1, 1, .ro, 0, 1, 4, false⟩
def SF.RS_TIM : Fld := ⟨0x104, 2, 2, .ro, 0, 1, 4, false⟩
def SF.MS_AIS : Fld := ⟨0x104, 3, 3, .ro, 0, 1, 4, false⟩
def SF.MS_RDI : Fld := ⟨0x104, 4, 4, .ro, 0, 1, 4, false⟩
def SF.S1_RX : Fld := ⟨0x104, 15, 8, .ro, 0, 1, 4, false⟩
def SF.EVENTS : Fld := ⟨0x108, 4, 0, .w1c, 0, 1, 4, false⟩
def SF.FR_B1 : Fld := ⟨0x10C, 31, 0, .rc, 0, 1, 4, false⟩
def SF.FR_B2 : Fld := ⟨0x110, 31, 0, .rc, 0, 1, 4, false⟩
def SF.FR_MS_REI : Fld := ⟨0x114, 31, 0, .rc, 0, 1, 4, false⟩
def SF.FR_PJ_GEN : Fld := ⟨0x118, 31, 0, .rc, 0, 1, 4, false⟩
def SF.FR_NJ_GEN : Fld := ⟨0x11C, 31, 0, .rc, 0, 1, 4, false⟩
def SF.FR_ES_SLIP : Fld := ⟨0x120, 31, 0, .rc, 0, 1, 4, false⟩
def SF.J0_TX : Fld := ⟨0x140, 31, 0, .rw, 0, 4, 0x4, false⟩
def SF.J0_EXP : Fld := ⟨0x150, 31, 0, .rw, 0, 4, 0x4, false⟩
def SF.J0_RX : Fld := ⟨0x160, 31, 0, .ro, 0, 4, 0x4, false⟩
def SF.J1_TX : Fld := ⟨0x170, 31, 0, .rw, 0, 4, 0x4, false⟩
def SF.STRUCT : Fld := ⟨0x200, 2, 0, .ro, 0, 16, 0x4, false⟩
def SF.TU12 : Fld := ⟨0x200, 5, 3, .ro, 0, 16, 0x4, false⟩
def SF.PSTATE : Fld := ⟨0x200, 9, 8, .ro, 0, 16, 0x4, false⟩
def SF.PTR : Fld := ⟨0x200, 25, 16, .ro, 0, 16, 0x4, false⟩
def SF.STBY : Fld := ⟨0x240, 5, 0, .ro, 0, 16, 0x4, false⟩
def SF.all : List Fld := [SF.J0_CMP, SF.S1_TX, SF.OOF, SF.LOF, SF.RS_TIM, SF.MS_AIS, SF.MS_RDI, SF.S1_RX, SF.EVENTS, SF.FR_B1, SF.FR_B2, SF.FR_MS_REI, SF.FR_PJ_GEN, SF.FR_NJ_GEN, SF.FR_ES_SLIP, SF.J0_TX, SF.J0_EXP, SF.J0_RX, SF.J1_TX, SF.STRUCT, SF.TU12, SF.PSTATE, SF.PTR, SF.STBY]

def TSI.ACTIVE : Fld := ⟨0x100, 0, 0, .ro, 0, 1, 4, false⟩
def TSI.DIRTY : Fld := ⟨0x100, 1, 1, .ro, 0, 1, 4, false⟩
def TSI.COPYING : Fld := ⟨0x100, 2, 2, .ro, 0, 1, 4, false⟩
def TSI.PENDING : Fld := ⟨0x100, 3, 3, .ro, 0, 1, 4, false⟩
def TSI.OUT_USED : Fld := ⟨0x104, 16, 0, .ro, 0, 1, 4, false⟩
def TSI.SPLICES : Fld := ⟨0x108, 31, 0, .rc, 0, 1, 4, false⟩
def TSI.MF_STAMP : Fld := ⟨0x10C, 31, 0, .ro, 0, 1, 4, false⟩
def TSI.all : List Fld := [TSI.ACTIVE, TSI.DIRTY, TSI.COPYING, TSI.PENDING, TSI.OUT_USED, TSI.SPLICES, TSI.MF_STAMP]

def PK.PK_PKTS : Fld := ⟨0x100, 31, 0, .rc, 0, 1, 4, false⟩
def PK.PK_EXPIRED : Fld := ⟨0x104, 31, 0, .rc, 0, 1, 4, false⟩
def PK.PK_NOCTX : Fld := ⟨0x108, 31, 0, .rc, 0, 1, 4, false⟩
def PK.PK_CIRCUITS : Fld := ⟨0x10C, 15, 0, .ro, 0, 1, 4, false⟩
def PK.all : List Fld := [PK.PK_PKTS, PK.PK_EXPIRED, PK.PK_NOCTX, PK.PK_CIRCUITS]

def PO.PO_PKTS : Fld := ⟨0x100, 31, 0, .rc, 0, 1, 4, false⟩
def PO.PO_UNKNOWN : Fld := ⟨0x104, 31, 0, .rc, 0, 1, 4, false⟩
def PO.PO_FILLED : Fld := ⟨0x108, 31, 0, .rc, 0, 1, 4, false⟩
def PO.PO_BLOCKS : Fld := ⟨0x10C, 16, 0, .ro, 0, 1, 4, false⟩
def PO.all : List Fld := [PO.PO_PKTS, PO.PO_UNKNOWN, PO.PO_FILLED, PO.PO_BLOCKS]

def PMON.DAY_OFFSET : Fld := ⟨0x100, 16, 0, .rw, 0, 1, 4, false⟩
def PMON.POOL_USED : Fld := ⟨0x104, 16, 0, .ro, 0, 1, 4, false⟩
def PMON.PM_TCA_CNT : Fld := ⟨0x108, 31, 0, .rc, 0, 1, 4, false⟩
def PMON.all : List Fld := [PMON.DAY_OFFSET, PMON.POOL_USED, PMON.PM_TCA_CNT]

def CX.OWNER : Fld := ⟨0x100, 7, 0, .ro, 0, 1, 4, false⟩
def CX.IDLE : Fld := ⟨0x100, 8, 8, .ro, 1, 1, 4, false⟩
def CX.BIND : Fld := ⟨0x104, 7, 0, .rw, 0, 1, 4, true⟩
def CX.REBIND : Fld := ⟨0x104, 8, 8, .ro, 0, 1, 4, false⟩
def CX.SUSP : Fld := ⟨0x108, 2, 0, .ro, 0, 1, 4, false⟩
def CX.URGENT : Fld := ⟨0x108, 3, 3, .ro, 0, 1, 4, false⟩
def CX.ACTIVE : Fld := ⟨0x108, 6, 4, .ro, 0, 1, 4, false⟩
def CX.URG_WAIT : Fld := ⟨0x108, 15, 8, .ro, 0, 1, 4, false⟩
def CX.CX_MSGS : Fld := ⟨0x10C, 31, 0, .rc, 0, 1, 4, false⟩
def CX.CX_BLOCKS_LO : Fld := ⟨0x110, 31, 0, .rc, 0, 1, 4, false⟩
def CX.CX_BLOCKS_HI : Fld := ⟨0x114, 31, 0, .ro, 0, 1, 4, false⟩
def CX.CX_SUSPENDS : Fld := ⟨0x118, 31, 0, .rc, 0, 1, 4, false⟩
def CX.CX_MAX_WAIT : Fld := ⟨0x11C, 31, 0, .rc, 0, 1, 4, false⟩
def CX.CX_LONG_SUSPEND : Fld := ⟨0x120, 31, 0, .rc, 0, 1, 4, false⟩
def CX.CX_AUTH_FAIL : Fld := ⟨0x124, 31, 0, .rc, 0, 1, 4, false⟩
def CX.KAT_PASS : Fld := ⟨0x128, 0, 0, .ro, 0, 1, 4, false⟩
def CX.KAT_RUN : Fld := ⟨0x128, 1, 1, .ro, 0, 1, 4, false⟩
def CX.KAT_RUNS : Fld := ⟨0x128, 31, 16, .ro, 0, 1, 4, false⟩
def CX.CX_KEY_MISS : Fld := ⟨0x12C, 31, 0, .rc, 0, 1, 4, false⟩
def CX.all : List Fld := [CX.OWNER, CX.IDLE, CX.BIND, CX.REBIND, CX.SUSP, CX.URGENT, CX.ACTIVE, CX.URG_WAIT, CX.CX_MSGS, CX.CX_BLOCKS_LO, CX.CX_BLOCKS_HI, CX.CX_SUSPENDS, CX.CX_MAX_WAIT, CX.CX_LONG_SUSPEND, CX.CX_AUTH_FAIL, CX.KAT_PASS, CX.KAT_RUN, CX.KAT_RUNS, CX.CX_KEY_MISS]

def KS.IV_FIXED : Fld := ⟨0x180, 31, 0, .ro, 0, 1, 4, false⟩
def KS.FIXED_SRC : Fld := ⟨0x184, 1, 0, .ro, 0, 1, 4, false⟩
def KS.CX_NO_SCI : Fld := ⟨0x188, 31, 0, .rc, 0, 1, 4, false⟩
def KS.CX_NO_SA : Fld := ⟨0x18C, 31, 0, .rc, 0, 1, 4, false⟩
def KS.CX_BAD_HDR : Fld := ⟨0x190, 31, 0, .rc, 0, 1, 4, false⟩
def KS.CX_TX_REFUSED : Fld := ⟨0x194, 31, 0, .rc, 0, 1, 4, false⟩
def KS.CX_REISSUE : Fld := ⟨0x198, 31, 0, .rc, 0, 1, 4, false⟩
def KS.CX_FAULT_DROP : Fld := ⟨0x19C, 31, 0, .rc, 0, 1, 4, false⟩
def KS.CX_ZERO_DROP : Fld := ⟨0x1A0, 31, 0, .rc, 0, 1, 4, false⟩
def KS.CX_PON_NOKEY : Fld := ⟨0x1A4, 31, 0, .rc, 0, 1, 4, false⟩
def KS.SLOTS_USED : Fld := ⟨0x100, 16, 0, .ro, 0, 1, 4, false⟩
def KS.SLOTS_RETIRED : Fld := ⟨0x104, 16, 0, .ro, 0, 1, 4, false⟩
def KS.SPARE_LEFT : Fld := ⟨0x104, 27, 18, .ro, 512, 1, 4, false⟩
def KS.SA_USED : Fld := ⟨0x108, 16, 0, .ro, 0, 1, 4, false⟩
def KS.ZEROIZED : Fld := ⟨0x10C, 0, 0, .ro, 1, 1, 4, false⟩
def KS.VERIFY_FAIL : Fld := ⟨0x10C, 1, 1, .ro, 0, 1, 4, false⟩
def KS.CRYPTO_ERR : Fld := ⟨0x10C, 2, 2, .ro, 0, 1, 4, false⟩
def KS.FAILED_TEST : Fld := ⟨0x10C, 15, 8, .ro, 0, 1, 4, false⟩
def KS.HWM_SLOTS : Fld := ⟨0x110, 16, 0, .ro, 0, 1, 4, false⟩
def KS.KS_COMMITS : Fld := ⟨0x114, 31, 0, .rc, 0, 1, 4, false⟩
def KS.KS_UNWRAP_FAIL : Fld := ⟨0x118, 31, 0, .rc, 0, 1, 4, false⟩
def KS.KS_ROLLS : Fld := ⟨0x11C, 31, 0, .rc, 0, 1, 4, false⟩
def KS.KS_EXPIRIES : Fld := ⟨0x120, 31, 0, .rc, 0, 1, 4, false⟩
def KS.KS_FULL_CNT : Fld := ⟨0x124, 31, 0, .rc, 0, 1, 4, false⟩
def KS.KS_EXPIRED_DROP : Fld := ⟨0x128, 31, 0, .rc, 0, 1, 4, false⟩
def KS.KS_ZEROISES : Fld := ⟨0x12C, 31, 0, .rc, 0, 1, 4, false⟩
def KS.all : List Fld := [KS.IV_FIXED, KS.FIXED_SRC, KS.CX_NO_SCI, KS.CX_NO_SA, KS.CX_BAD_HDR, KS.CX_TX_REFUSED, KS.CX_REISSUE, KS.CX_FAULT_DROP, KS.CX_ZERO_DROP, KS.CX_PON_NOKEY, KS.SLOTS_USED, KS.SLOTS_RETIRED, KS.SPARE_LEFT, KS.SA_USED, KS.ZEROIZED, KS.VERIFY_FAIL, KS.CRYPTO_ERR, KS.FAILED_TEST, KS.HWM_SLOTS, KS.KS_COMMITS, KS.KS_UNWRAP_FAIL, KS.KS_ROLLS, KS.KS_EXPIRIES, KS.KS_FULL_CNT, KS.KS_EXPIRED_DROP, KS.KS_ZEROISES]

def RNG.STATE : Fld := ⟨0x100, 1, 0, .ro, 0, 1, 4, false⟩
def RNG.FAIL_TEST : Fld := ⟨0x100, 3, 2, .ro, 0, 1, 4, false⟩
def RNG.WAITING : Fld := ⟨0x104, 15, 0, .ro, 0, 1, 4, false⟩
def RNG.RNG_FAILS : Fld := ⟨0x108, 31, 0, .rc, 0, 1, 4, false⟩
def RNG.RESEEDS : Fld := ⟨0x10C, 31, 0, .rc, 0, 1, 4, false⟩
def RNG.BYTES_OUT : Fld := ⟨0x110, 31, 0, .rc, 0, 1, 4, false⟩
def RNG.DISCARDED : Fld := ⟨0x114, 31, 0, .rc, 0, 1, 4, false⟩
def RNG.APT_MAX : Fld := ⟨0x118, 8, 0, .ro, 0, 1, 4, false⟩
def RNG.all : List Fld := [RNG.STATE, RNG.FAIL_TEST, RNG.WAITING, RNG.RNG_FAILS, RNG.RESEEDS, RNG.BYTES_OUT, RNG.DISCARDED, RNG.APT_MAX]

def KW.KW_WRAPS : Fld := ⟨0x100, 31, 0, .rc, 0, 1, 4, false⟩
def KW.KW_UNWRAPS : Fld := ⟨0x104, 31, 0, .rc, 0, 1, 4, false⟩
def KW.KW_FAILS : Fld := ⟨0x108, 31, 0, .rc, 0, 1, 4, false⟩
def KW.all : List Fld := [KW.KW_WRAPS, KW.KW_UNWRAPS, KW.KW_FAILS]

def AL.AL_CAUSE : Fld := ⟨0x100, 9, 0, .w1c, 0, 1, 4, false⟩
def AL.AL_RAIL : Fld := ⟨0x104, 7, 0, .w1c, 0, 1, 4, false⟩
def AL.ZERO_COUNT : Fld := ⟨0x108, 31, 0, .ro, 0, 1, 4, false⟩
def AL.AL_NOW : Fld := ⟨0x10C, 6, 0, .ro, 0, 1, 4, false⟩
def AL.all : List Fld := [AL.AL_CAUSE, AL.AL_RAIL, AL.ZERO_COUNT, AL.AL_NOW]

def PS.DEPTH : Fld := ⟨0x100, 8, 0, .rw, 128, 1, 4, false⟩
def PS.FIRST_UP : Fld := ⟨0x104, 2, 0, .rw, 1, 1, 4, false⟩
def PS.FIRST_DN : Fld := ⟨0x104, 6, 4, .rw, 1, 1, 4, false⟩
def PS.DEF_PROG_UP : Fld := ⟨0x104, 15, 8, .rw, 255, 1, 4, false⟩
def PS.DEF_PROG_DN : Fld := ⟨0x104, 23, 16, .rw, 255, 1, 4, false⟩
def PS.PS_FRAMES : Fld := ⟨0x108, 31, 0, .rc, 0, 1, 4, false⟩
def PS.PS_TRUNC : Fld := ⟨0x10C, 31, 0, .rc, 0, 1, 4, false⟩
def PS.PS_MALFORMED : Fld := ⟨0x110, 31, 0, .rc, 0, 1, 4, false⟩
def PS.PS_LIMIT : Fld := ⟨0x114, 31, 0, .rc, 0, 1, 4, false⟩
def PS.CL_DROP_DISP : Fld := ⟨0x118, 31, 0, .rc, 0, 1, 4, false⟩
def PS.CL_DROP_SA : Fld := ⟨0x11C, 31, 0, .rc, 0, 1, 4, false⟩
def PS.CL_DROP_QUEUE : Fld := ⟨0x120, 31, 0, .rc, 0, 1, 4, false⟩
def PS.CL_DROP_LANE : Fld := ⟨0x124, 31, 0, .rc, 0, 1, 4, false⟩
def PS.CL_CLASS_FIX : Fld := ⟨0x128, 31, 0, .rc, 0, 1, 4, false⟩
def PS.EXC_DEPTH : Fld := ⟨0x12C, 10, 0, .ro, 0, 1, 4, false⟩
def PS.EXC_OVF : Fld := ⟨0x130, 31, 0, .rc, 0, 1, 4, false⟩
def PS.all : List Fld := [PS.DEPTH, PS.FIRST_UP, PS.FIRST_DN, PS.DEF_PROG_UP, PS.DEF_PROG_DN, PS.PS_FRAMES, PS.PS_TRUNC, PS.PS_MALFORMED, PS.PS_LIMIT, PS.CL_DROP_DISP, PS.CL_DROP_SA, PS.CL_DROP_QUEUE, PS.CL_DROP_LANE, PS.CL_CLASS_FIX, PS.EXC_DEPTH, PS.EXC_OVF]

def TB.KIND : Fld := ⟨0x100, 1, 0, .ro, 0, 1, 4, false⟩
def TB.KEY_LEN : Fld := ⟨0x100, 7, 2, .ro, 0, 1, 4, false⟩
def TB.ACTIVE : Fld := ⟨0x100, 8, 8, .ro, 0, 1, 4, false⟩
def TB.DIRTY : Fld := ⟨0x100, 9, 9, .ro, 0, 1, 4, false⟩
def TB.COPYING : Fld := ⟨0x100, 10, 10, .ro, 0, 1, 4, false⟩
def TB.TB_LOOKUPS : Fld := ⟨0x104, 31, 0, .rc, 0, 1, 4, false⟩
def TB.TB_HITS : Fld := ⟨0x108, 31, 0, .rc, 0, 1, 4, false⟩
def TB.ENTRIES : Fld := ⟨0x10C, 25, 0, .ro, 0, 1, 4, false⟩
def TB.all : List Fld := [TB.KIND, TB.KEY_LEN, TB.ACTIVE, TB.DIRTY, TB.COPYING, TB.TB_LOOKUPS, TB.TB_HITS, TB.ENTRIES]

def FT.FT_USED : Fld := ⟨0x180, 25, 0, .ro, 0, 1, 4, false⟩
def FT.FT_STASH_USED : Fld := ⟨0x184, 16, 0, .ro, 0, 1, 4, false⟩
def FT.FT_STASH_HWM : Fld := ⟨0x188, 16, 0, .ro, 0, 1, 4, false⟩
def FT.FT_EXHAUSTED : Fld := ⟨0x18C, 31, 0, .rc, 0, 1, 4, false⟩
def FT.FT_MOVES : Fld := ⟨0x190, 31, 0, .rc, 0, 1, 4, false⟩
def FT.all : List Fld := [FT.FT_USED, FT.FT_STASH_USED, FT.FT_STASH_HWM, FT.FT_EXHAUSTED, FT.FT_MOVES]

def AU.AU_PROGS : Fld := ⟨0x100, 31, 0, .rc, 0, 1, 4, false⟩
def AU.AU_TRAPS : Fld := ⟨0x104, 31, 0, .rc, 0, 1, 4, false⟩
def AU.AU_FAULTS : Fld := ⟨0x108, 31, 0, .rc, 0, 1, 4, false⟩
def AU.AU_PARTIAL_WAIT : Fld := ⟨0x10C, 31, 0, .rc, 0, 1, 4, false⟩
def AU.AU_ENTRY_WAIT : Fld := ⟨0x110, 31, 0, .rc, 0, 1, 4, false⟩
def AU.all : List Fld := [AU.AU_PROGS, AU.AU_TRAPS, AU.AU_FAULTS, AU.AU_PARTIAL_WAIT, AU.AU_ENTRY_WAIT]

def DP.DP_TICK : Fld := ⟨0x100, 31, 0, .ro, 0, 1, 4, false⟩
def DP.CIRC_USED : Fld := ⟨0x104, 13, 0, .ro, 0, 1, 4, false⟩
def DP.GEN_USED : Fld := ⟨0x108, 15, 0, .ro, 0, 1, 4, false⟩
def DP.P_USED : Fld := ⟨0x10C, 8, 0, .ro, 0, 1, 4, false⟩
def DP.CIRC_HWM : Fld := ⟨0x110, 13, 0, .ro, 0, 1, 4, false⟩
def DP.GEN_HWM : Fld := ⟨0x114, 15, 0, .ro, 0, 1, 4, false⟩
def DP.P_HWM : Fld := ⟨0x118, 8, 0, .ro, 0, 1, 4, false⟩
def DP.LINKS_USED : Fld := ⟨0x11C, 20, 0, .ro, 0, 1, 4, false⟩
def DP.DP_JOBS : Fld := ⟨0x120, 31, 0, .rc, 0, 1, 4, false⟩
def DP.DP_NOCTX : Fld := ⟨0x124, 31, 0, .rc, 0, 1, 4, false⟩
def DP.DP_HOLDS : Fld := ⟨0x128, 31, 0, .rc, 0, 1, 4, false⟩
def DP.DP_TIMEOUTS : Fld := ⟨0x12C, 31, 0, .rc, 0, 1, 4, false⟩
def DP.DP_LATE : Fld := ⟨0x130, 31, 0, .rc, 0, 1, 4, false⟩
def DP.DP_DEP_ERR : Fld := ⟨0x134, 31, 0, .rc, 0, 1, 4, false⟩
def DP.DP_DN_DROP : Fld := ⟨0x138, 31, 0, .rc, 0, 1, 4, false⟩
def DP.READY_DEPTH : Fld := ⟨0x140, 16, 0, .ro, 0, 16, 0x4, false⟩
def DP.DELAY_DEPTH : Fld := ⟨0x180, 16, 0, .ro, 0, 16, 0x4, false⟩
def DP.all : List Fld := [DP.DP_TICK, DP.CIRC_USED, DP.GEN_USED, DP.P_USED, DP.CIRC_HWM, DP.GEN_HWM, DP.P_HWM, DP.LINKS_USED, DP.DP_JOBS, DP.DP_NOCTX, DP.DP_HOLDS, DP.DP_TIMEOUTS, DP.DP_LATE, DP.DP_DEP_ERR, DP.DP_DN_DROP, DP.READY_DEPTH, DP.DELAY_DEPTH]

def TS.TS_QUEUES : Fld := ⟨0x100, 15, 0, .ro, 0, 1, 4, false⟩
def TS.TS_SELECTS : Fld := ⟨0x104, 31, 0, .rc, 0, 1, 4, false⟩
def TS.TS_POL_DROP : Fld := ⟨0x108, 31, 0, .rc, 0, 1, 4, false⟩
def TS.TS_LIMIT_DROP : Fld := ⟨0x10C, 31, 0, .rc, 0, 1, 4, false⟩
def TS.TS_SHAPED_IDLE : Fld := ⟨0x110, 31, 0, .rc, 0, 1, 4, false⟩
def TS.TS_CIRC_OVER : Fld := ⟨0x114, 31, 0, .rc, 0, 1, 4, false⟩
def TS.TS_BACKLOG : Fld := ⟨0x118, 31, 0, .ro, 0, 1, 4, false⟩
def TS.all : List Fld := [TS.TS_QUEUES, TS.TS_SELECTS, TS.TS_POL_DROP, TS.TS_LIMIT_DROP, TS.TS_SHAPED_IDLE, TS.TS_CIRC_OVER, TS.TS_BACKLOG]

def LN.MODE : Fld := ⟨0x100, 2, 0, .ro, 1, 1, 4, false⟩
def LN.AN : Fld := ⟨0x100, 3, 3, .ro, 1, 1, 4, false⟩
def LN.RATE : Fld := ⟨0x100, 11, 4, .ro, 1, 1, 4, false⟩
def LN.MEMBER : Fld := ⟨0x100, 13, 12, .ro, 0, 1, 4, false⟩
def LN.LOOP : Fld := ⟨0x100, 15, 14, .ro, 0, 1, 4, false⟩
def LN.LINK : Fld := ⟨0x104, 0, 0, .ro, 0, 1, 4, false⟩
def LN.LOS : Fld := ⟨0x104, 1, 1, .ro, 1, 1, 4, false⟩
def LN.SYNC : Fld := ⟨0x104, 2, 2, .ro, 0, 1, 4, false⟩
def LN.ALIGNED : Fld := ⟨0x104, 3, 3, .ro, 0, 1, 4, false⟩
def LN.RATE_NOW : Fld := ⟨0x104, 11, 4, .ro, 1, 1, 4, false⟩
def LN.CAP : Fld := ⟨0x104, 13, 12, .ro, 2, 1, 4, false⟩
def LN.EXT : Fld := ⟨0x104, 14, 14, .ro, 0, 1, 4, false⟩
def LN.TESTING : Fld := ⟨0x104, 15, 15, .ro, 0, 1, 4, false⟩
def LN.SQUELCH : Fld := ⟨0x104, 16, 16, .ro, 0, 1, 4, false⟩
def LN.LINK_CHG : Fld := ⟨0x108, 0, 0, .w1c, 0, 1, 4, false⟩
def LN.LOS_SEEN : Fld := ⟨0x108, 1, 1, .w1c, 0, 1, 4, false⟩
def LN.STEP_FAIL : Fld := ⟨0x108, 2, 2, .w1c, 0, 1, 4, false⟩
def LN.ALIGN_LOST : Fld := ⟨0x108, 3, 3, .w1c, 0, 1, 4, false⟩
def LN.QUAD_MISMATCH : Fld := ⟨0x108, 4, 4, .w1c, 0, 1, 4, false⟩
def LN.PARTNER : Fld := ⟨0x10C, 10, 0, .ro, 0, 1, 4, false⟩
def LN.PVALID : Fld := ⟨0x10C, 16, 16, .ro, 0, 1, 4, false⟩
def LN.FOM : Fld := ⟨0x110, 7, 0, .ro, 0, 1, 4, false⟩
def LN.TREND : Fld := ⟨0x110, 15, 8, .ro, 0, 1, 4, false⟩
def LN.RETIRE_FOM : Fld := ⟨0x110, 23, 16, .rw, 40, 1, 4, false⟩
def LN.STEP_FOM : Fld := ⟨0x110, 31, 24, .rw, 64, 1, 4, false⟩
def LN.CTLE : Fld := ⟨0x114, 3, 0, .ro, 0, 1, 4, false⟩
def LN.DFE : Fld := ⟨0x118, 29, 0, .ro, 0, 1, 4, false⟩
def LN.LN_CODE_ERR : Fld := ⟨0x11C, 31, 0, .rc, 0, 1, 4, false⟩
def LN.LN_LOS_CNT : Fld := ⟨0x120, 31, 0, .rc, 0, 1, 4, false⟩
def LN.LN_SYNC_LOSS : Fld := ⟨0x124, 31, 0, .rc, 0, 1, 4, false⟩
def LN.LN_ALIGN_LOSS : Fld := ⟨0x128, 31, 0, .rc, 0, 1, 4, false⟩
def LN.LN_STEP_FAIL : Fld := ⟨0x12C, 31, 0, .rc, 0, 1, 4, false⟩
def LN.PRBS_ERR : Fld := ⟨0x130, 31, 0, .rc, 0, 1, 4, false⟩
def LN.all : List Fld := [LN.MODE, LN.AN, LN.RATE, LN.MEMBER, LN.LOOP, LN.LINK, LN.LOS, LN.SYNC, LN.ALIGNED, LN.RATE_NOW, LN.CAP, LN.EXT, LN.TESTING, LN.SQUELCH, LN.LINK_CHG, LN.LOS_SEEN, LN.STEP_FAIL, LN.ALIGN_LOST, LN.QUAD_MISMATCH, LN.PARTNER, LN.PVALID, LN.FOM, LN.TREND, LN.RETIRE_FOM, LN.STEP_FOM, LN.CTLE, LN.DFE, LN.LN_CODE_ERR, LN.LN_LOS_CNT, LN.LN_SYNC_LOSS, LN.LN_ALIGN_LOSS, LN.LN_STEP_FAIL, LN.PRBS_ERR]

def MAC.MIN_FRAME : Fld := ⟨0x100, 8, 0, .rw, 64, 1, 4, false⟩
def MAC.MAX_FRAME : Fld := ⟨0x100, 29, 16, .rw, 1522, 1, 4, false⟩
def MAC.PFC_EN : Fld := ⟨0x104, 7, 0, .rw, 0, 1, 4, false⟩
def MAC.XOFF : Fld := ⟨0x104, 14, 8, .rw, 80, 1, 4, false⟩
def MAC.XON : Fld := ⟨0x104, 22, 16, .rw, 48, 1, 4, false⟩
def MAC.PFC_QUANTA : Fld := ⟨0x108, 15, 0, .rw, 65535, 1, 4, false⟩
def MAC.MAC_ADDR_LO : Fld := ⟨0x10C, 31, 0, .rw, 0, 1, 4, false⟩
def MAC.MAC_ADDR_HI : Fld := ⟨0x110, 15, 0, .rw, 0, 1, 4, false⟩
def MAC.TX_QLIMIT : Fld := ⟨0x114, 14, 0, .rw, 1024, 1, 4, false⟩
def MAC.RX_PAUSED : Fld := ⟨0x118, 7, 0, .ro, 0, 1, 4, false⟩
def MAC.TX_XOFF : Fld := ⟨0x118, 15, 8, .ro, 0, 1, 4, false⟩
def MAC.FIFO_HELD : Fld := ⟨0x118, 16, 16, .ro, 0, 1, 4, false⟩
def MAC.CNT_LO : Fld := ⟨0x140, 31, 0, .rc, 0, 32, 0x8, false⟩
def MAC.CNT_HI : Fld := ⟨0x144, 31, 0, .ro, 0, 32, 0x8, false⟩
def MAC.all : List Fld := [MAC.MIN_FRAME, MAC.MAX_FRAME, MAC.PFC_EN, MAC.XOFF, MAC.XON, MAC.PFC_QUANTA, MAC.MAC_ADDR_LO, MAC.MAC_ADDR_HI, MAC.TX_QLIMIT, MAC.RX_PAUSED, MAC.TX_XOFF, MAC.FIFO_HELD, MAC.CNT_LO, MAC.CNT_HI]

def CLK.MODEL : Fld := ⟨0x100, 0, 0, .rw, 0, 1, 4, false⟩
def CLK.SEC_CUE : Fld := ⟨0x100, 1, 1, .rw, 0, 1, 4, false⟩
def CLK.SOURCE : Fld := ⟨0x100, 5, 4, .ro, 0, 1, 4, false⟩
def CLK.STATE : Fld := ⟨0x104, 1, 0, .ro, 0, 1, 4, false⟩
def CLK.SLEW : Fld := ⟨0x104, 2, 2, .ro, 0, 1, 4, false⟩
def CLK.CLAMP : Fld := ⟨0x104, 3, 3, .ro, 0, 1, 4, false⟩
def CLK.ARMED : Fld := ⟨0x104, 4, 4, .ro, 0, 1, 4, false⟩
def CLK.STEP_THRESH : Fld := ⟨0x108, 29, 0, .rw, 1000, 1, 4, false⟩
def CLK.SETTLE : Fld := ⟨0x10C, 10, 0, .rw, 16, 1, 4, false⟩
def CLK.MAX_RATE : Fld := ⟨0x10C, 25, 16, .rw, 500, 1, 4, false⟩
def CLK.NOW_SHORT : Fld := ⟨0x110, 31, 0, .ro, 0, 1, 4, false⟩
def CLK.NOW_NS : Fld := ⟨0x114, 29, 0, .ro, 0, 1, 4, false⟩
def CLK.NOW_SEC_LO : Fld := ⟨0x118, 31, 0, .ro, 0, 1, 4, false⟩
def CLK.NOW_SEC_HI : Fld := ⟨0x11C, 15, 0, .ro, 0, 1, 4, false⟩
def CLK.RATE : Fld := ⟨0x120, 31, 0, .ro, 0, 1, 4, false⟩
def CLK.FREQ : Fld := ⟨0x124, 31, 0, .ro, 0, 1, 4, false⟩
def CLK.LAST_OFFSET_LO : Fld := ⟨0x128, 31, 0, .ro, 0, 1, 4, false⟩
def CLK.LAST_OFFSET_HI : Fld := ⟨0x12C, 31, 0, .ro, 0, 1, 4, false⟩
def CLK.INCR_FRAC : Fld := ⟨0x130, 31, 0, .ro, 1847012685, 1, 4, false⟩
def CLK.INCR_NS : Fld := ⟨0x134, 31, 0, .ro, 6, 1, 4, false⟩
def CLK.COUNT : Fld := ⟨0x138, 31, 0, .ro, 0, 3, 0x4, false⟩
def CLK.BASE : Fld := ⟨0x144, 31, 0, .ro, 0, 3, 0x4, false⟩
def CLK.OFFSET : Fld := ⟨0x150, 31, 0, .ro, 0, 3, 0x4, false⟩
def CLK.TM_STEPS : Fld := ⟨0x160, 31, 0, .rc, 0, 1, 4, false⟩
def CLK.TM_JUMPS : Fld := ⟨0x164, 31, 0, .rc, 0, 1, 4, false⟩
def CLK.TM_HOLDOVERS : Fld := ⟨0x168, 31, 0, .rc, 0, 1, 4, false⟩
def CLK.TM_SAMPLES : Fld := ⟨0x16C, 31, 0, .rc, 0, 1, 4, false⟩
def CLK.TM_IGNORED : Fld := ⟨0x170, 31, 0, .rc, 0, 1, 4, false⟩
def CLK.all : List Fld := [CLK.MODEL, CLK.SEC_CUE, CLK.SOURCE, CLK.STATE, CLK.SLEW, CLK.CLAMP, CLK.ARMED, CLK.STEP_THRESH, CLK.SETTLE, CLK.MAX_RATE, CLK.NOW_SHORT, CLK.NOW_NS, CLK.NOW_SEC_LO, CLK.NOW_SEC_HI, CLK.RATE, CLK.FREQ, CLK.LAST_OFFSET_LO, CLK.LAST_OFFSET_HI, CLK.INCR_FRAC, CLK.INCR_NS, CLK.COUNT, CLK.BASE, CLK.OFFSET, CLK.TM_STEPS, CLK.TM_JUMPS, CLK.TM_HOLDOVERS, CLK.TM_SAMPLES, CLK.TM_IGNORED]

def STQ.CLAPPER : Fld := ⟨0x100, 0, 0, .rw, 1, 1, 4, false⟩
def STQ.DEPTH : Fld := ⟨0x104, 6, 0, .ro, 0, 1, 4, false⟩
def STQ.OVF : Fld := ⟨0x104, 8, 8, .w1c, 0, 1, 4, false⟩
def STQ.PTP_PORT_EN_LO : Fld := ⟨0x108, 31, 0, .rw, 0, 1, 4, false⟩
def STQ.PTP_PORT_EN_HI : Fld := ⟨0x10C, 31, 0, .rw, 0, 1, 4, false⟩
def STQ.STQ_OVF_CNT : Fld := ⟨0x110, 31, 0, .rc, 0, 1, 4, false⟩
def STQ.PTP_RX_CNT : Fld := ⟨0x114, 31, 0, .rc, 0, 1, 4, false⟩
def STQ.PTP_TX_CNT : Fld := ⟨0x118, 31, 0, .rc, 0, 1, 4, false⟩
def STQ.CLAPPER_CNT : Fld := ⟨0x11C, 31, 0, .rc, 0, 1, 4, false⟩
def STQ.all : List Fld := [STQ.CLAPPER, STQ.DEPTH, STQ.OVF, STQ.PTP_PORT_EN_LO, STQ.PTP_PORT_EN_HI, STQ.STQ_OVF_CNT, STQ.PTP_RX_CNT, STQ.PTP_TX_CNT, STQ.CLAPPER_CNT]

def PPS.OUT_EN : Fld := ⟨0x100, 0, 0, .rw, 0, 1, 4, false⟩
def PPS.IN_EN : Fld := ⟨0x100, 1, 1, .rw, 0, 1, 4, false⟩
def PPS.IN_POL : Fld := ⟨0x100, 2, 2, .rw, 0, 1, 4, false⟩
def PPS.WIDTH : Fld := ⟨0x104, 18, 0, .rw, 100000, 1, 4, false⟩
def PPS.IN_DELAY : Fld := ⟨0x108, 23, 0, .rw, 0, 1, 4, false⟩
def PPS.IN_LAST : Fld := ⟨0x10C, 31, 0, .ro, 0, 1, 4, false⟩
def PPS.IN_PULSES : Fld := ⟨0x110, 31, 0, .rc, 0, 1, 4, false⟩
def PPS.IN_IGNORED : Fld := ⟨0x114, 31, 0, .rc, 0, 1, 4, false⟩
def PPS.all : List Fld := [PPS.OUT_EN, PPS.IN_EN, PPS.IN_POL, PPS.WIDTH, PPS.IN_DELAY, PPS.IN_LAST, PPS.IN_PULSES, PPS.IN_IGNORED]

def WK.SLEEP_SET : Fld := ⟨0x100, 15, 0, .ro, 0, 1, 4, false⟩
def WK.PSTATE : Fld := ⟨0x100, 17, 16, .ro, 0, 1, 4, false⟩
def WK.AWAKE : Fld := ⟨0x104, 15, 0, .ro, 1, 1, 4, false⟩
def WK.HELD : Fld := ⟨0x104, 31, 16, .ro, 0, 1, 4, false⟩
def WK.IDLE : Fld := ⟨0x108, 15, 0, .rw, 10, 1, 4, false⟩
def WK.WAKE_SRC : Fld := ⟨0x10C, 4, 0, .rw, 3, 1, 4, false⟩
def WK.LAST_WAKE : Fld := ⟨0x10C, 12, 8, .ro, 0, 1, 4, false⟩
def WK.GPIO_MASK : Fld := ⟨0x110, 15, 0, .rw, 0, 1, 4, false⟩
def WK.GPIO_POL : Fld := ⟨0x110, 31, 16, .rw, 0, 1, 4, false⟩
def WK.WAKE_AT_LO : Fld := ⟨0x114, 31, 0, .rw, 0, 1, 4, false⟩
def WK.WAKE_AT_HI : Fld := ⟨0x118, 15, 0, .rw, 0, 1, 4, false⟩
def WK.WK_WAKES : Fld := ⟨0x11C, 31, 0, .rc, 0, 1, 4, false⟩
def WK.WK_SLEEPS : Fld := ⟨0x120, 31, 0, .rc, 0, 1, 4, false⟩
def WK.WK_FAIL : Fld := ⟨0x124, 31, 0, .rc, 0, 1, 4, false⟩
def WK.all : List Fld := [WK.SLEEP_SET, WK.PSTATE, WK.AWAKE, WK.HELD, WK.IDLE, WK.WAKE_SRC, WK.LAST_WAKE, WK.GPIO_MASK, WK.GPIO_POL, WK.WAKE_AT_LO, WK.WAKE_AT_HI, WK.WK_WAKES, WK.WK_SLEEPS, WK.WK_FAIL]

def RST.LAST_CAUSE : Fld := ⟨0x100, 7, 0, .ro, 1, 1, 4, false⟩
def RST.LAST_SCOPE : Fld := ⟨0x100, 15, 8, .ro, 0, 1, 4, false⟩
def RST.RELEASED : Fld := ⟨0x104, 15, 0, .ro, 1, 1, 4, false⟩
def RST.WDOG_MS : Fld := ⟨0x108, 15, 0, .rw, 1000, 1, 4, false⟩
def RST.RST_COLD : Fld := ⟨0x10C, 31, 0, .rc, 0, 1, 4, false⟩
def RST.RST_WARM : Fld := ⟨0x110, 31, 0, .rc, 0, 1, 4, false⟩
def RST.RST_HOST : Fld := ⟨0x114, 31, 0, .rc, 0, 1, 4, false⟩
def RST.RST_ABSORBED : Fld := ⟨0x118, 31, 0, .rc, 0, 1, 4, false⟩
def RST.all : List Fld := [RST.LAST_CAUSE, RST.LAST_SCOPE, RST.RELEASED, RST.WDOG_MS, RST.RST_COLD, RST.RST_WARM, RST.RST_HOST, RST.RST_ABSORBED]

def TK.TAKES_A : Fld := ⟨0x100, 1, 0, .ro, 0, 1, 4, false⟩
def TK.TAKES_B : Fld := ⟨0x100, 3, 2, .ro, 0, 1, 4, false⟩
def TK.OPT_USED : Fld := ⟨0x100, 5, 4, .ro, 0, 1, 4, false⟩
def TK.RECOVERY : Fld := ⟨0x100, 6, 6, .ro, 0, 1, 4, false⟩
def TK.OPT_SEQ : Fld := ⟨0x108, 31, 0, .ro, 0, 1, 4, false⟩
def TK.TRIM_SPARE : Fld := ⟨0x10C, 7, 0, .ro, 0, 1, 4, false⟩
def TK.TRIM_DEFAULT : Fld := ⟨0x10C, 15, 8, .ro, 0, 1, 4, false⟩
def TK.TAKES_RA : Fld := ⟨0x104, 1, 0, .ro, 0, 1, 4, false⟩
def TK.TAKES_RB : Fld := ⟨0x104, 3, 2, .ro, 0, 1, 4, false⟩
def TK.REEL_LOADED : Fld := ⟨0x104, 5, 4, .ro, 0, 1, 4, false⟩
def TK.FALLBACK : Fld := ⟨0x104, 6, 6, .ro, 0, 1, 4, false⟩
def TK.FUSED : Fld := ⟨0x104, 14, 8, .ro, 0, 1, 4, true⟩
def TK.all : List Fld := [TK.TAKES_A, TK.TAKES_B, TK.OPT_USED, TK.RECOVERY, TK.OPT_SEQ, TK.TRIM_SPARE, TK.TRIM_DEFAULT, TK.TAKES_RA, TK.TAKES_RB, TK.REEL_LOADED, TK.FALLBACK, TK.FUSED]

def FW.FW_STATE : Fld := ⟨0x100, 1, 0, .ro, 0, 1, 4, false⟩
def FW.FW_VERSION : Fld := ⟨0x104, 31, 0, .ro, 0, 1, 4, false⟩
def FW.SRAM_CE : Fld := ⟨0x108, 31, 0, .rc, 0, 1, 4, false⟩
def FW.SRAM_UE : Fld := ⟨0x10C, 31, 0, .rc, 0, 1, 4, false⟩
def FW.UPTIME : Fld := ⟨0x110, 31, 0, .ro, 0, 1, 4, false⟩
def FW.all : List Fld := [FW.FW_STATE, FW.FW_VERSION, FW.SRAM_CE, FW.SRAM_UE, FW.UPTIME]

def SEN.TEMP : Fld := ⟨0x100, 15, 0, .ro, 0, 8, 0x4, false⟩
def SEN.HI_WARN : Fld := ⟨0x120, 15, 0, .rw, 1600, 1, 4, false⟩
def SEN.LO_WARN : Fld := ⟨0x120, 31, 16, .rw, 64896, 1, 4, false⟩
def SEN.RAIL : Fld := ⟨0x140, 15, 0, .ro, 0, 8, 0x4, false⟩
def SEN.WARN_PCT : Fld := ⟨0x160, 6, 0, .rw, 0, 1, 4, false⟩
def SEN.REF_PPM : Fld := ⟨0x164, 15, 0, .ro, 0, 1, 4, false⟩
def SEN.SLOW_PPM : Fld := ⟨0x164, 31, 16, .ro, 0, 1, 4, false⟩
def SEN.TEMP_WARN : Fld := ⟨0x168, 7, 0, .ro, 0, 1, 4, false⟩
def SEN.RAIL_WARN : Fld := ⟨0x168, 15, 8, .ro, 0, 1, 4, false⟩
def SEN.LOOP_OK : Fld := ⟨0x168, 16, 16, .ro, 1, 1, 4, false⟩
def SEN.all : List Fld := [SEN.TEMP, SEN.HI_WARN, SEN.LO_WARN, SEN.RAIL, SEN.WARN_PCT, SEN.REF_PPM, SEN.SLOW_PPM, SEN.TEMP_WARN, SEN.RAIL_WARN, SEN.LOOP_OK]

def I2C.SPEED : Fld := ⟨0x100, 0, 0, .rw, 0, 1, 4, false⟩
def I2C.STATE : Fld := ⟨0x104, 1, 0, .ro, 0, 1, 4, false⟩
def I2C.UNMANAGED : Fld := ⟨0x104, 2, 2, .ro, 0, 1, 4, false⟩
def I2C.RETRIES : Fld := ⟨0x104, 5, 4, .ro, 0, 1, 4, false⟩
def I2C.I2C_NACK : Fld := ⟨0x108, 31, 0, .rc, 0, 1, 4, false⟩
def I2C.I2C_RECOVERIES : Fld := ⟨0x10C, 31, 0, .rc, 0, 1, 4, false⟩
def I2C.I2C_STUCK_CNT : Fld := ⟨0x110, 31, 0, .rc, 0, 1, 4, false⟩
def I2C.I2C_STRETCH : Fld := ⟨0x114, 31, 0, .rc, 0, 1, 4, false⟩
def I2C.all : List Fld := [I2C.SPEED, I2C.STATE, I2C.UNMANAGED, I2C.RETRIES, I2C.I2C_NACK, I2C.I2C_RECOVERIES, I2C.I2C_STUCK_CNT, I2C.I2C_STRETCH]

def SPI.NOR_MIB : Fld := ⟨0x100, 15, 0, .ro, 0, 1, 4, false⟩
def SPI.SPI_ERASE_FAIL : Fld := ⟨0x104, 31, 0, .rc, 0, 1, 4, false⟩
def SPI.SPI_PROG_FAIL : Fld := ⟨0x108, 31, 0, .rc, 0, 1, 4, false⟩
def SPI.all : List Fld := [SPI.NOR_MIB, SPI.SPI_ERASE_FAIL, SPI.SPI_PROG_FAIL]

def UART.BAUD : Fld := ⟨0x100, 21, 0, .rw, 115200, 1, 4, false⟩
def UART.UART_FRAME_ERR : Fld := ⟨0x104, 31, 0, .rc, 0, 1, 4, false⟩
def UART.UART_FRAMES : Fld := ⟨0x108, 31, 0, .rc, 0, 1, 4, false⟩
def UART.all : List Fld := [UART.BAUD, UART.UART_FRAME_ERR, UART.UART_FRAMES]

def LOG.OLDEST_SEQ : Fld := ⟨0x100, 31, 0, .ro, 0, 1, 4, false⟩
def LOG.NEXT_SEQ : Fld := ⟨0x104, 31, 0, .ro, 0, 1, 4, false⟩
def LOG.CURSOR : Fld := ⟨0x108, 31, 0, .rw, 0, 1, 4, false⟩
def LOG.AUTO : Fld := ⟨0x10C, 0, 0, .rw, 0, 1, 4, false⟩
def LOG.VALID : Fld := ⟨0x10C, 1, 1, .ro, 0, 1, 4, false⟩
def LOG.OVERRUN : Fld := ⟨0x110, 31, 0, .ro, 0, 1, 4, false⟩
def LOG.HOURS : Fld := ⟨0x114, 31, 0, .ro, 0, 1, 4, false⟩
def LOG.MINSEC : Fld := ⟨0x118, 15, 0, .ro, 0, 1, 4, false⟩
def LOG.CYCLES : Fld := ⟨0x11C, 31, 0, .ro, 0, 1, 4, false⟩
def LOG.MIRRORED_SEQ : Fld := ⟨0x120, 31, 0, .ro, 0, 1, 4, false⟩
def LOG.MIRROR_FAIL : Fld := ⟨0x124, 31, 0, .rc, 0, 1, 4, false⟩
def LOG.WINDOW : Fld := ⟨0x140, 31, 0, .ro, 0, 16, 0x4, false⟩
def LOG.all : List Fld := [LOG.OLDEST_SEQ, LOG.NEXT_SEQ, LOG.CURSOR, LOG.AUTO, LOG.VALID, LOG.OVERRUN, LOG.HOURS, LOG.MINSEC, LOG.CYCLES, LOG.MIRRORED_SEQ, LOG.MIRROR_FAIL, LOG.WINDOW]

/-- An engine's number in the model: its domain, then its engine number within the domain (R17, R20). -/
def eng (domain engine : Nat) : Nat := domain * 256 + engine

/-- Domain of an engine. -/
def engDomain (e : Nat) : Nat := e / 256

/-- Engine number within its domain. -/
def engNo (e : Nat) : Nat := e % 256

/-- KIND of the engine numbered `n` in domain `d`, where the engine table has it (R20, R22). -/
def kindOf (d n : Nat) : Option Nat :=
  match d with
  | 0 => if n ≤ 4 then some (0x80 + n) else none
  | 1 => if n = 0 then some 0x70 else if n = 1 then some 0x71 else if n ≤ 3 then some 0x72 else if n = 4 then some 0x73
         else if n = 5 then some 0x74 else none
  | 2 => if n ≤ 1 then some (0x90 + n) else none
  | 3 => if n ≤ 1 then some (0xA0 + n) else none
  | 4 | 5 | 6 | 7 => if n ≤ 5 then some (n + 1) else none
  | 8 | 9 => if n ≤ 0x21 then some 0x10 else if 0x40 ≤ n ∧ n ≤ 0x61 then some 0x11 else none
  | 10 => if n ≤ 0x3F then some 0x20 else if n ≤ 0x43 then some (0x21 + (n - 0x40)) else none
  | 11 => if n = 0 then some 0x30 else if n ≤ 6 then some 0x31 else if 0x10 ≤ n ∧ n ≤ 0x2F then some 0x32 else none
  | 12 => if n ≤ 9 then some 0x40 else if 0x10 ≤ n ∧ n ≤ 0x12 then some (0x41 + (n - 0x10)) else none
  | 13 => if n ≤ 2 then some (0x50 + n) else none
  | 14 => if n ≤ 2 then some (0x60 + n) else none
  | _ => none

/-- Whether the engine table has engine `e`. -/
def present (e : Nat) : Bool := (kindOf (engDomain e) (engNo e)).isSome

/-- KIND of engine `e`; 0 where there is no such engine. -/
def kind (e : Nat) : Nat := (kindOf (engDomain e) (engNo e)).getD 0

/-- Whether engine `e` is a spare unit's own window (R20: lanes 64 to 67, their MACs, cipher engines 0x08 and 0x09). -/
def isSpareWin (e : Nat) : Bool :=
  (engDomain e = 8 || engDomain e = 9) && (engNo e = 0x20 || engNo e = 0x21 || engNo e = 0x60 || engNo e = 0x61) ||
  engDomain e = 12 && (engNo e = 8 || engNo e = 9)

/-- The engine-specific fields of engine `e`, beyond the common header. -/
def kindFlds (e : Nat) : List Fld :=
  match kind e with
  | 0x01 => PMD.all | 0x02 => FR.all | 0x03 => FEC.all | 0x04 => XG.all | 0x05 => PL.all | 0x06 => OPT.all
  | 0x10 => LN.all | 0x11 => MAC.all | 0x20 => SF.all | 0x21 => TSI.all | 0x22 => PK.all | 0x23 => PO.all | 0x24 => PMON.all
  | 0x30 => PS.all | 0x31 => if engNo e = 1 then TB.all ++ FT.all else TB.all | 0x32 => AU.all
  | 0x40 => CX.all | 0x41 => KS.all | 0x42 => RNG.all | 0x43 => KW.all
  | 0x50 => DP.all | 0x51 => TS.all | 0x52 => BD.all
  | 0x60 => CLK.all | 0x61 => STQ.all | 0x62 => PPS.all
  | 0x70 => FW.all | 0x71 => SEN.all | 0x72 => I2C.all | 0x73 => SPI.all | 0x74 => UART.all
  | 0x80 => WK.all | 0x81 => RST.all | 0x82 => AL.all | 0x83 => LOG.all | 0x84 => TK.all
  | 0x91 => VS.all
  | _ => []

/-- Every field of engine `e`. -/
def engFlds (e : Nat) : List Fld := HDR.all ++ kindFlds e

/-- Whether the field stands in the word at offset `o`, and in which of its registers. -/
def Fld.inWord (f : Fld) (o : Nat) : Bool :=
  decide (f.off ≤ o) && decide ((o - f.off) % f.stride = 0) && decide ((o - f.off) / f.stride < f.count)

/-- The fields of engine `e` that stand in the word at offset `o`. -/
def wordFlds (e o : Nat) : List Fld :=
  ((engFlds e).filter fun f => f.inWord o).map fun f => f.idx ((o - f.off) / f.stride)

end Sys2Proof.Machine
end

