-- ==== Sys2Proof/Machine/TypesCmd.lean ====
section
/-! DEFINITION. What the command channel and the engines hold beyond their registers (R44 to R85, R492 to R495; R27, R28, R489). -/
namespace Sys2Proof.Machine

/-- Roles of R67. -/
inductive Role where
  | user | officer | maintenance
deriving DecidableEq, Repr

/-- The session key and sequence value under which a verified request's reply is signed (R71). -/
structure Auth where
  key : BitVec 384
  seq : Nat
  session : Nat
deriving DecidableEq, Repr

/-- A request the part has taken, with what the checks of orders 5 and 6 of R49 found. `started`: it has started and is held
(its target wakes, is being reset, or belongs to a commit in progress). `ctx` is the dispatcher
context that a firmware command holds (R336); `unit` the unit of a staged command (R495), as its domain's number. -/
structure Taken where
  op : Nat
  req : Req
  auth : Option Auth
  role : Role
  started : Bool := false
  ctx : Option Nat := none
  unit : Nat := 0
deriving DecidableEq, Repr

/-- A whole packet waiting to be written to its carrier: a reply (`tag` held until it is written) or a cue.
`order` is the place at which it arose (R62). A cue that a command causes before its reply is ready stands `behind` that command's reply, and the
reply `answers` it, by the command's number. `holds` are the units, by domain, that stay held until a commit's reply has been written (R79). -/
structure Packet where
  order : Nat
  bytes : List Byte
  tag : Nat := 0
  holdsTag : Bool := false
  vector : Nat := 0
  ctx : Option Nat := none
  dst : BitVec 48 := 0
  behind : Option Nat := none
  answers : Option Nat := none
  holds : Nat := 0
deriving DecidableEq, Repr

/-- One session (R68 to R72). `transcript` is SHA-384 of SESSION_OPEN's request and reply payloads; `zeroAuth` marks an
officer session authenticated with A = 48 bytes of 0 (R72). -/
structure Session where
  carrier : Carrier
  maint : Bool
  authed : Bool := false
  key : BitVec 384
  seq : Nat := 0
  transcript : BitVec 384
  zeroAuth : Bool := false
deriving DecidableEq, Repr

/-- The first failure of a doomed or failed transaction (R81). -/
structure TxnFail where
  locator : Nat
  status : Nat
  detail : Nat
  index : Nat
deriving DecidableEq, Repr

/-- One open transaction (R76 to R82). `closing`: its TXN_COMMIT or TXN_ABORT has been taken. `late` gathers the cues of the part of a switch
that is done, with the places of the commands that caused them; `waitAt` is the place of a staged command that its commit waits for; `inOrder` says that removals
are switched in their places, since what follows them needs their room; `job` is the context of its table updates (R333). -/
structure Txn where
  carrier : Carrier
  staged : List Taken := []
  fail : Option TxnFail := none
  closing : Bool := false
  late : List (Nat × Nat × List Byte) := []
  waitAt : Nat := 0
  inOrder : Bool := false
  job : Option Nat := none
deriving DecidableEq, Repr

/-- A command whose reply waits for a later step: why it waits, and a number that the reason needs (a channel, a group, an
engine, a transaction). `rest`: a block write whose later words wait until the engine has come to rest after the soft reset that
the block set (R75); with `staged` its transaction has been answered. `rng`: bytes of DRBG output, once generated the bytes themselves, and whether the
window in which they were generated has passed (R273). `reissue`: CIPHER_RUN whose engine failed, with the record of that attempt (R222). -/
inductive Why where
  | softReset (e : Nat)
  | splice
  | commitSplice (txn : Nat)
  | commitTurn
  | park (ch : Nat)
  | anchor (group : Nat)
  | swap
  | rng (bytes : Nat) (out : List Byte) (passed : Bool)
  | engineRun (op : Nat)
  | reissue (record : List Byte)
  | zeroise
  | i2c (bus : Nat)
  | unit (e : Nat)
  | ptp (n : Nat)
  | rest (e : Nat) (staged : Bool)
deriving DecidableEq, Repr

/-- A command that has started and is answered later; `id` is its number among the commands (R62). -/
structure Wait where
  why : Why
  cmd : Taken
  id : Nat := 0
deriving DecidableEq, Repr

/-- What the command channel holds beyond its registers. `committing` are the units of a commit in progress, by domain; `deferred` gathers
the cues of a commit, which are raised after its reply (R79). `dueUart` and
`dueBand` say that a carrier's queue of cues has had room since it last lost one, so that CUES_LOST is next (R494). -/
structure Chan where
  taken : List Taken := []
  waits : List Wait := []
  tags : List (Carrier × Nat) := []
  order : Nat := 0
  pcieReplies : List Packet := []
  pcieCues : List Packet := []
  uartReplies : List Packet := []
  uartCues : List Packet := []
  bandReplies : List Packet := []
  bandCues : List Packet := []
  stalled : Bool := false
  lostPcie : Nat := 0
  lostUart : Nat := 0
  lostBand : Nat := 0
  dueUart : Bool := false
  dueBand : Bool := false
  cueSeq : Nat := 0
  routeUart : Bool := false
  routeBand : Bool := false
  msixHeld : List Nat := []
  msixTimer : List Nat := []
  sessions : SMap Session := []
  authFails : Nat := 0
  lockout : Bool := false
  officerA : Option (BitVec 384) := none
  maintA : Option (BitVec 384) := none
  txns : SMap Txn := []
  nextTxn : Nat := 1
  committing : Option Nat := none
  deferred : Option (List (Nat × List Byte)) := none
deriving DecidableEq, Repr

/-- What an engine holds beyond its header (R27, R28, R489): a request answered OK or DEFERRED is pending its cue; a soft
reset runs (with the state it found); an ENABLE value waits behind the reset; the engine leaves FAILED by a soft reset;
the wake was caused by POWER_STATE, which owes no cue; `driving`: its outputs have been valid since they were last clamped (R15). -/
structure EngX where
  cueDue : Bool := false
  enableAfter : Option Bool := none
  softFrom : Nat := 0
  fromFailed : Bool := false
  quiet : Bool := false
  selfTested : Bool := false
  driving : Bool := false
deriving DecidableEq, Repr

end Sys2Proof.Machine
end

