-- ==== Sys2Proof/Machine/TypesDisp.lean ====
section
/-! DEFINITION. What the buffer manager, the dispatcher and the traffic scheduler hold (R39, R42, R322 to R352). -/
namespace Sys2Proof.Machine

/-- One 256-byte page of the packet buffer (R39). A freed page keeps its colour and its bytes. -/
structure Page where
  red : Bool
  used : Bool
  data : List Byte
deriving DecidableEq, Repr

/-- Where the output of a seal or open job goes, or what its frame belongs to. -/
inductive Dest where
  /-- A sealed frame into an S1 queue. -/
  | queue (q : Nat)
  /-- An opened frame to the classifier: the channel and virtual terminal it came by. -/
  | classify (ch vt : Nat)
  /-- An opened circuit packet to the playout engine. -/
  | circuit (c : Nat)
  /-- A record and output for the firmware (CIPHER_RUN). -/
  | firmware
deriving DecidableEq, Repr

/-- The descriptor of a seal or open job (R219), and the circuit it seals for. `src` and `dst` are its input and output pages, of which SRC and
DST are the first; `arrival` is when a downstream frame was complete (R295). -/
structure CJob where
  isSeal : Bool
  cls : Nat
  sa : Nat
  src : List Nat
  dst : List Nat := []
  len : Nat
  hdr : Nat := 12
  retry : Bool := false
  mgmt : Bool := false
  ready : Nat := 0
  arrival : Nat := 0
  dest : Dest
  prio : Nat := 0
  circuit : Option Nat := none
deriving DecidableEq, Repr

/-- What a job is for (R323). `kat` is a known-answer test of a cipher engine, OP 0x05 (R219), a management task as the commands that the firmware
executes are; `key` is such a command that handles keys; `heartbeat` names its path. -/
inductive Work where
  | crypto (d : CJob)
  | kat (unit : Nat)
  | playout (circuit : Nat)
  | table
  | mgmt
  | key
  | heartbeat (pon : Bool)
deriving DecidableEq, Repr

/-- STATE of a context (R324). FREE contexts are not listed, but for those in `held`, which are taken for a frame whose job is not created yet
(R333). -/
inductive JobState where
  | held | waiting | delayed | ready | running
deriving DecidableEq, Repr

/-- One job context in use (R324). `entered` is its place among the entries into ready and delay lists (R327, R331);
`waiters` is its waiter list, as numbers of links and contexts. -/
structure Job where
  work : Work
  state : JobState
  prio : Nat
  dep : Nat := 0
  timeout : Bool := false
  depErr : Bool := false
  timed : Bool := false
  pool : Nat
  list : Nat := 0xFF
  due : Option Nat := none
  timeoutAt : Nat := 0
  waiters : List (Nat × Nat) := []
  created : Nat := 0
  entered : Nat := 0
deriving DecidableEq, Repr

/-- A downstream SDU that waits for a context (R333): the terminal it came by, its bytes, and when it was complete. -/
structure HeldSdu where
  vt : Nat
  bytes : List Byte
  arrival : Nat := 0
deriving DecidableEq, Repr

/-- The dispatcher. `jobs` by context number, `gens` each context's GEN, `dry` the pools that have raised CTX_EXHAUSTED (R337), `recovering` that the
general pool has been empty and what waits for it has not all been served (R335). -/
structure Disp where
  jobs : SMap Job := []
  gens : SMap Nat := []
  tick : Nat := 0
  entries : Nat := 0
  dry : List Nat := []
  fifosHeld : Bool := false
  recovering : Bool := false
  stage : SMap (List HeldSdu) := []
deriving DecidableEq, Repr

/-- A token bucket (R345): RATE in kb/s, BURST in bytes, tokens in 1/8,000 byte. -/
structure Bucket where
  rate : Nat := 0
  burst : Nat := 0
  tokens : Int := 0
deriving DecidableEq, Repr

/-- A frame held in a queue: `len` is its length under R343, `job` the context of its seal while it is not sealed. -/
structure QFrame where
  pages : List Nat
  bytes : Nat
  len : Nat
  sealed : Bool
  job : Nat
  circuit : Bool
deriving DecidableEq, Repr

/-- The counters of a queue number, which only QUEUE_STATS clears: they outlive the queue. -/
structure QCount where
  selFrames : Nat := 0
  selBytes : Nat := 0
  limitDrop : Nat := 0
  policeDrop : Nat := 0
deriving DecidableEq, Repr

/-- One S1 queue (R339, R352). -/
structure Queue where
  circuit : Bool
  parent : Nat
  prio : Nat
  weight : Nat
  qlimit : Nat
  frames : List QFrame := []
  start : Nat := 0
  finish : Nat := 0
  active : Bool := false
  shaper : Bucket := {}
  policer : Bucket := {}
deriving DecidableEq, Repr

/-- One node of S2 to S5 (R339, R343). -/
structure SNode where
  parent : Nat
  prio : Nat
  vt : Nat
  weight : Nat
  v : Nat := 0
  start : Nat := 0
  finish : Nat := 0
  active : Bool := false
  shaper : Bucket := {}
  policer : Bucket := {}
deriving DecidableEq, Repr

/-- The traffic scheduler: queues and their counters by number, nodes by level and number, the shapers of S6 and S7. -/
structure Sched where
  queues : SMap Queue := []
  counts : SMap QCount := []
  nodes : SMap SNode := []
  s6 : SMap Bucket := []
  s7 : Bucket := {}
deriving DecidableEq, Repr

end Sys2Proof.Machine
end

