-- ==== Sys2Proof/Machine/TypesKeys.lean ====
section
/-! DEFINITION. What the cipher complex holds: key slots, security associations, messages in the engines (R205 to R240, R260 to R269). -/
namespace Sys2Proof.Machine

/-- A replay state (R236): the highest counter accepted, and the counters accepted among the last 4,096. -/
structure Replay where
  h : Nat := 0
  seen : List Nat := []
deriving DecidableEq, Repr

/-- A key slot that holds a key (R260). `due`: SA_ROLL_DUE has been raised for it. -/
structure Slot where
  key : List Byte
  salt : List Byte
  usage : Nat
  counter : Nat := 1
  volume : Nat := 0
  accepted : Nat := 0
  repA : Replay := {}
  repB : Replay := {}
  due : Bool := false
deriving DecidableEq, Repr

/-- A format block (R231); SCIs as numbers, first byte highest. -/
structure Fmt where
  format : Nat
  dir : Nat
  sel : Nat
  sciA : Nat
  fixedA : Nat
  sciB : Nat
  fixedB : Nat
  window : Nat
  alarm : Nat
deriving DecidableEq, Repr

/-- A security association (R265). `next` is the successor slot and its MODE; `alarmSec` and `alarmCnt` count authentication
failures in one second, and `alarmCued` says that SA_AUTH_ALARM has been raised in it (R253). -/
structure Sa where
  fmt : Fmt
  mgmt : Bool
  cur : Nat
  an : Nat
  rollAt : Nat
  overlap : Nat
  next : Option (Nat × Nat) := none
  prev : Option Nat := none
  expired : Bool := false
  pkts : Nat := 0
  late : Nat := 0
  notValid : Nat := 0
  noSa : Nat := 0
  alarmSec : Nat := 0
  alarmCnt : Nat := 0
  alarmCued : Bool := false
deriving DecidableEq, Repr

/-- A transmit slot that waits for its last seal before it is erased (R267), with what its SA_ROLLED will say. -/
structure OldSlot where
  sa : Nat
  old : Nat
  new : Nat
  an : Nat
deriving DecidableEq, Repr

/-- A message given to an engine (R213 to R217): its job's context, and from its first block on the SA, slot, counter and fixed field
it uses, the bytes it will put out, how many of them are secure data, and the STATUS its tag and header give. `done`: all its blocks have
been fed; `suspTick` is DP_TICK at its suspension, and `long` says that it has counted as suspended for more than 1 ms; `sa` is none where
no SA was found. -/
structure Msg where
  ctx : Nat
  unit : Nat
  cls : Nat
  isSeal : Bool
  started : Bool := false
  done : Bool := false
  suspended : Bool := false
  susp : Nat := 0
  suspTick : Nat := 0
  long : Bool := false
  sa : Option Nat := none
  slot : Nat := 0
  counter : Nat := 0
  an : Nat := 0
  fixed : Nat := 0
  sender : Nat := 0
  start : Nat := 0
  status : Nat := 0
  data : Nat := 0
  out : List Byte := []
  macsec : Bool := true
deriving DecidableEq, Repr

/-- What takes DRBG output inside the part: the pair rank (R149), and a new unicast key of a terminal, by channel, terminal and index (R115). -/
inductive RngFor where
  | rank
  | ponKey (ch vt index : Nat)
deriving DecidableEq, Repr

/-- Output that waits in the release buffer for a consumer inside the part; empty while it has not been generated. `passed`: the window in
which it was generated has passed. -/
structure Inner where
  use : RngFor
  out : List Byte := []
  passed : Bool := false
deriving DecidableEq, Repr

/-- The DRBG beside its registers (R272, R273): generate requests since it was last seeded, conditioned samples at hand (up to the 1,024 of one
reseed), and the consumers inside the part. What commands wait for stands with their waits. -/
structure Rng where
  requests : Nat := 0
  samples : Nat := 0
  inner : List Inner := []
deriving DecidableEq, Repr

/-- The cipher complex. `zeroed` are the slots that zeroisation emptied (R264); `rows` the slots moved to a spare row; `msgs` run in the
order the engines received them; `blocks` counts fed blocks by engine; `wdog` is `elapsed` at a logical engine's last WATCHDOG (R246);
`testing` the units under a known-answer test of owner 0x06, with the logical
engine that a spare is to serve (R247); `out` the RETIRED physical units, each with the logical engine it last served; `pool` the units
0 to 7 that UNIT_RESTORE has put in SPARE (R456, R457); `cache` the key slots in each engine's key cache, oldest first (R224); `again` the
contexts of RUNNING jobs whose engine failed and that wait for another engine of their owner (R222). -/
structure Crypto where
  slots : SMap Slot := []
  zeroed : List Nat := []
  retired : List Nat := []
  rows : List Nat := []
  sas : SMap Sa := []
  olds : List OldSlot := []
  msgs : List Msg := []
  blocks : SMap Nat := []
  wdog : SMap Nat := []
  testing : List (Nat × Option Nat) := []
  out : SMap Nat := []
  pool : List Nat := []
  cache : SMap (List Nat) := []
  again : List Nat := []
  rng : Rng := {}
deriving DecidableEq, Repr

end Sys2Proof.Machine
end

