-- ==== Sys2Proof/Machine/TypesLane.lean ====
section
/-! DEFINITION. What the client lanes and MACs hold beyond their registers (R355 to R383). -/
namespace Sys2Proof.Machine

/-- A PTP_SEND frame that waits on a lane (R399, R400): its ID, whether it wants a stamp, the clapper offsets, and its bytes without FCS. -/
structure PtpOut where
  id : Nat
  stamp : Bool
  insOff : Nat
  csumOff : Nat
  bytes : List Byte
deriving DecidableEq, Repr

/-- A downstream frame in red pages that waits for its MAC (R379): bytes without FCS. -/
structure TxFrame where
  pages : List Nat
  len : Nat
deriving DecidableEq, Repr

/-- A MAC: PTP frames and, by priority, the frames that wait; its 64-bit counters by index (R383, R385); frames that a near-end loop has taken and
the receiver has not yet had (R368). -/
structure MacSt where
  ptp : List PtpOut := []
  txq : SMap (List TxFrame) := []
  counts : SMap Nat := []
  looped : List (List Byte) := []
deriving DecidableEq, Repr

/-- Where the bring-up of a lane with AN = 1 stands (R363, R365): pages and the exchange at 1.25 Gbaud; the agreed rate known and a switch
10 ms away; switched and not yet complete; a quad that waits 1 s to try again; done, or nothing to do. -/
inductive BringUp where
  | pages | switchDue (agreed : Nat) | stepping (agreed : Nat) | retry | done
deriving DecidableEq, Repr

/-- Where a substitution of a logical lane stands (R372, R374): a unit is self-checked to take over, or after a cut the freed unit is. -/
inductive SubstStep where
  | check (unit : Nat) | freed (unit : Nat)
deriving DecidableEq, Repr

/-- A substitution that runs: its cause (0 FOM trend, 1 FAILED, 2 return to the reserve), TREND at the trigger, its step, and the units that
have failed their self-check in it. -/
structure Subst where
  cause : Nat
  trend : Nat
  step : SubstStep
deriving DecidableEq, Repr

/-- A lane (logical lanes by number; spares 64 to 67 by unit). `t256` is R367's trend, `noTrend` that
no substitution for a falling trend follows until LANE_MODE (R374), `sampled` whether the link that is up has given
its first sample; `quad` is set while QUAD_MISMATCH's condition holds; `reserve` the unit held as reserve (R374); `noSpare` that LANE_SUBST with new unit 0xFF has been raised
and TREND has not risen since (R375); `ready` that the member of a quad has agreed; `checked` that the unit has passed
its first self-check since a cold or warm reset (R370). -/
structure LaneSt where
  step : BringUp := .pages
  t256 : Nat := 0
  sampled : Bool := false
  noTrend : Bool := false
  subst : Option Subst := none
  reserve : Option Nat := none
  noSpare : Bool := false
  ready : Bool := false
  checked : Bool := false
deriving DecidableEq, Repr

/-- Client lanes and MACs; `out` are the RETIRED units, each with the logical lane it last served; `pool` the units 0 to 63 that
UNIT_RESTORE has put in SPARE (R457); `checking` the idle spares whose daily self-check runs (R370). -/
structure Client where
  lanes : SMap LaneSt := []
  macs : SMap MacSt := []
  out : SMap Nat := []
  pool : List Nat := []
  checking : List Nat := []
deriving DecidableEq, Repr

end Sys2Proof.Machine
end

