-- ==== Sys2Proof/Machine/TypesOut.lean ====
section
/-! DEFINITION. What the part sends out. -/
namespace Sys2Proof.Machine

/-- Acknowledgement codes of upstream PLOAM (R98, R102, R103, R110, R111). -/
inductive AckCode where
  | ok | parameterError | unknownType
deriving DecidableEq, Repr

/-- An upstream PLOAM message (R94, R98, R102, R103, R115, R125, R144). `ack` answers the message numbered `seq`; Fennath content
is the message's 36 content bytes. -/
inductive UpMsg where
  | serialNumber (vendor : Nat) (vssn : Nat) (delay : Nat)
  | registration (regId : List Byte)
  | ack (seq : Nat) (code : AckCode)
  | keyReport (index : Nat) (wrapped : List Byte)
  | sleepRequest (awake : Bool)
  | fennath (content : List Byte)
deriving DecidableEq, Repr

/-- One XGEM payload of a burst: Port-ID, key index (0 = clear), whether it is the last piece of its SDU, the bytes as sent. -/
structure XgemOut where
  port : Nat
  key : Nat
  last : Bool
  bytes : List Byte
deriving DecidableEq, Repr

/-- One allocation of a burst (R133): its Alloc-ID, its status report where the grant asks for one, its payloads, and the bytes that idle XGEM frames
fill. -/
structure AllocOut where
  alloc : Nat
  report : Option Nat
  xgem : List XgemOut
  idle : Nat
deriving DecidableEq, Repr

/-- One upstream burst as sent (R133): preamble and delimiter, upstream rate, FS header's ONU-ID, PLOAM message with its MIC, allocations in order. -/
structure BurstOut where
  ch : Nat
  vt : Nat
  start : Nat
  shape : List Byte
  rate : Nat
  onuId : Option Nat
  ploam : Option (UpMsg × BitVec 64)
  allocs : List AllocOut
deriving DecidableEq, Repr

/-- The section overhead of a frame sent (R163), byte for byte but the pointers: J0 is the 16-byte message, B1 and B2 what the part computes; E1, F1,
D1 to D12 and E2 are 0. -/
structure SectionOut where
  a1 : Nat := 0xF6
  a2 : Nat := 0x28
  j0 : List Byte
  b1 : Nat
  b2 : List Byte
  k1 : Nat := 0
  k2 : Nat
  s1 : Nat
  m1 : Nat
  rest : Nat := 0
deriving DecidableEq, Repr

/-- The path overhead of a VC-4 that the part builds (R163): J1 is the 16-byte message, B3 what the part computes, G1's REI and RDI, the multiframe
phase in H4. -/
structure PathOhOut where
  j1 : List Byte
  b3 : Nat
  c2 : Nat := 0x02
  rei : Nat
  rdi : Bool
  h4 : Nat
  f2 : Nat := 0
  f3 : Nat := 0
  k3 : Nat := 0
  n1 : Nat := 0
deriving DecidableEq, Repr

/-- A pointer word sent (R166): an offset with or without NDF enabled, all ones, or the concatenation indication of a member of a VC-4-Xc. -/
inductive PtrOut where
  | offset (n : Nat) (ndf : Bool) | ais | conc
deriving DecidableEq, Repr

/-- What a path sent on a lane carries (R163, R168, R171, R172): the VC of a source slot, unchanged; a VC-4 that the part builds; an unequipped VC of all
zeros; the all zeros that a circuit slot without an entry, or a circuit in NONE, feeds; all ones; a part of its group's VC-4-Xc. -/
inductive VcOut where
  | carried (src : Nat) | built | unequipped | zeros | ais | member
deriving DecidableEq, Repr

/-- An output pin (R465): those of a channel, of a client lane's unit, of the host link, of a serial bus, and single ones. -/
inductive Pin where
  | ptx (ch : Nat) | pben (ch : Nat) | ctx (unit : Nat) | htx (i : Nat) | ppsOut | tmpLoopA | xtOut | spiSck | spiCsN | spiIo (i : Nat) | scl (bus : Nat)
  | sda (bus : Nat) | uartTxd
deriving DecidableEq, Repr

/-- What a pin shows: high impedance, a level, electrical idle, an open drain released, the engine's signal, or what a lane held by a warm reset sends: /I2/,
or MS-AIS (R421). -/
inductive Drive where
  | hiZ | low | high | idle | released | signal | i2 | msAis
deriving DecidableEq, Repr

/-- What a lane sends of Clause 37 and the lane-speed exchange (R362): the base page, and where NP = 1 the message code and the unformatted page. -/
structure PagesOut where
  lane : Nat
  fullDuplex : Bool := true
  halfDuplex : Bool := false
  ps1 : Bool := false
  ps2 : Bool := false
  np : Bool
  code : Nat := 0x4C5
  rates : Nat
  quad : Bool
  step : Nat
deriving DecidableEq, Repr

/-- One thing that leaves the part. -/
inductive Emit where
  /-- Bytes written to the reply ring at a byte offset (R59). -/
  | ring (offset : Nat) (bytes : List Byte)
  /-- The 32-byte write-back block (R59). -/
  | writeBack (bytes : List Byte)
  /-- An MSI-X message (R60). -/
  | msix (vector : Nat)
  /-- One UART frame as it stands on UART_TXD: flags, and between them the packet and its CRC, escaped (R83). -/
  | uart (bytes : List Byte)
  /-- One management frame on the management lane, FCS excluded (R84). -/
  | mgmt (frame : List Byte)
  /-- One whole upstream burst (R133). -/
  | burst (b : BurstOut)
  /-- A frame on a client lane, FCS excluded (R378). -/
  | laneFrame (lane : Nat) (bytes : List Byte)
  /-- Data received on a lane, sent back by a far-end loop (R368): a frame with its FCS. -/
  | echo (lane : Nat) (frame : List Byte)
  /-- An SDH frame received on a lane, sent back by a far-end loop (R368). -/
  | sdhEcho (lane : Nat) (frame : SdhIn)
  /-- The pages of auto-negotiation and the lane-speed exchange (R362). -/
  | pages (p : PagesOut)
  /-- A PFC frame on a lane (R381): source address, and the time given to each priority it names. -/
  | pfc (lane : Nat) (src : List Byte) (times : List (Nat × Nat))
  /-- A frame on a pair-link lane (R152), FCS excluded. -/
  | pairLink (lane : Nat) (bytes : List Byte)
  /-- A path sent on a lane (R166, R172): AU-4, tributary (0 = the AU-4 itself), pointer, justification, and what it carries. -/
  | sdh (lane au4 unit : Nat) (ptr : PtrOut) (just : Int) (vc : VcOut)
  /-- The section overhead of a frame sent on a lane (R163). -/
  | sdhSection (lane : Nat) (oh : SectionOut)
  /-- The path overhead of a VC-4 that the part builds (R163). -/
  | sdhPath (lane au4 : Nat) (oh : PathOhOut)
  /-- The payload of a packet, or its fill, played from a circuit toward the TSI (R189). -/
  | play (circuit : Nat) (bytes : List Byte)
  /-- An I2C transfer's bytes written (R436). -/
  | i2c (bus dev : Nat) (bytes : List Byte)
  /-- PBENn or PPS_OUT shows something new (R402, R467, R469). -/
  | pin (p : Pin) (d : Drive)
deriving DecidableEq, Repr

end Sys2Proof.Machine
end

