-- ==== Sys2Proof/Machine/TypesPon.lean ====
section
/-! DEFINITION. What the PON domains and the bonding layer hold beyond their registers (R90 to R159). -/
namespace Sys2Proof.Machine

/-- A virtual terminal (R93 to R101, R105, R125). `state` is encoded as R94 encodes it. `queue` is its upstream queue of 8,
`held` the firmware's 24; `draws` counts the random delays drawn since reset (R96); `disable` is a VT_CONFIG disable that waits for the frame boundary (R99), with its CHANNEL; `curKey` is the
index of the unicast key in force, 0 for none (R115, R242). -/
structure Vt where
  enabled : Bool := false
  channel : Nat := 0
  state : Nat := 0
  regId : List Byte := List.replicate 36 0
  onuId : Option Nat := none
  to1 : Option Nat := none
  to2 : Option Nat := none
  disable : Option Nat := none
  sleepOk : Bool := false
  wantReg : Bool := false
  queue : List UpMsg := []
  held : List UpMsg := []
  omci : List (List Byte) := []
  curKey : Nat := 0
  draws : Nat := 0
deriving DecidableEq, Repr

/-- An Alloc-ID entry (R109 to R111, R134): its terminal, whether it is the default one, and its binding (group or plain, S5 node),
and the frame of a plain binding of which some bytes have been placed (R134). -/
structure Alloc where
  vt : Nat
  dflt : Bool
  bind : Option (Option Nat × Nat) := none
  cut : Option (QFrame × Nat) := none
deriving DecidableEq, Repr

/-- An XGEM Port-ID entry (R108, R112): its terminal, KIND (3 = OMCC), KEYING. -/
structure Port where
  vt : Nat
  kind : Nat
  keying : Nat
deriving DecidableEq, Repr

/-- A burst profile (R129): its upstream rate, its preamble and delimiter. -/
structure Profile where
  rate : Nat
  shape : List Byte
deriving DecidableEq, Repr

/-- An upstream fragment (R136 to R139): BSEQ, flags, data, start of the burst it was first committed to, and the frame it is
part of: the pages it frees when it is the last, and the queue frame it came from. -/
structure UpFrag where
  bseq : Nat
  sof : Bool
  eof : Bool
  data : List Byte
  firstStart : Nat
  frame : QFrame
deriving DecidableEq, Repr

/-- A frame at the head of a group's queue, of which `cut` bytes have been placed in fragments (R137). -/
structure CutFrame where
  frame : QFrame
  cut : Nat
deriving DecidableEq, Repr

/-- A burst granted or committed on a channel (R131, R132, R138). `plain` holds the frames whose last piece it carries,
`delay` a serial-number burst's random delay, `sfc` the superframe counter of the frame that granted it; `old` marks a burst of the former parent that
completes (R147), `early` one that committed ahead of its own row, as R136 orders members of one microsecond. -/
structure Burst where
  vt : Nat
  grant : Grant
  start : Nat
  delay : Nat := 0
  old : Bool := false
  committed : Bool := false
  early : Bool := false
  sfc : Nat := 0
  ploam : Option (UpMsg × BitVec 64) := none
  frags : List (Nat × UpFrag) := []
  plain : List QFrame := []
  allocs : List AllocOut := []
deriving DecidableEq, Repr

/-- Watchful sleep (R125); `leaving`: Sleep_Request (WSleep) is queued and has not been sent yet. -/
inductive Watch where
  | active | leaving | sleep | aware
deriving DecidableEq, Repr

/-- Where a park or unpark stands (R123, R124). -/
inductive ParkStep where
  | none | parkAck | parkHold | unparkWake | unparkAck | anchorWake
deriving DecidableEq, Repr

/-- One channel (R90 to R92, R100, R104, R107, R115, R123 to R125, R129, R130). `misses` counts PSync fields that failed in a
row; `stamp` is the last PSync's stamp; each message of `rxq` has the 125 µs of its arrival (R146); `rest` is set while the rest of a downstream frame is
discarded (R107); `pben` once TX_EN has been 1 (R467). -/
structure PonCh where
  rxq : List (Nat × PloamMsg) := []
  omciIn : List (Nat × List Byte) := []
  profiles : SMap Profile := []
  misses : Nat := 0
  sfc : Nat := 0
  stamp : Nat := 0
  partials : SMap (List Byte) := []
  bursts : List Burst := []
  park : ParkStep := .none
  parked : Bool := false
  rest : Bool := false
  pben : Bool := false
  watch : Watch := .active
deriving DecidableEq, Repr

/-- A downstream fragment held for reassembly (R117, R119). -/
structure DnFrag where
  bseq : Nat
  sof : Bool
  eof : Bool
  data : List Byte
  pages : List Nat
deriving DecidableEq, Repr

/-- A bonding group (R116, R119, R120, R136 to R142): member per channel, anchor channel, downstream NEXT, held fragments in BSEQ
order, gap timer, upstream BSEQ, re-send queue, the group's queue, the members last reported as taking fragments. -/
structure Group where
  members : List (Option Nat)
  anchor : Nat
  next : Option Nat := none
  held : List DnFrag := []
  gap : Bool := false
  bseq : Nat := 0
  resend : List UpFrag := []
  queue : List CutFrame := []
  taking : Nat := 0
deriving DecidableEq, Repr

/-- A fragment handed to the bonding layer and not yet taken: terminal, SDU bytes. -/
structure FragIn where
  vt : Nat
  bytes : List Byte
deriving DecidableEq, Repr

/-- The redundancy pair (R149 to R157). `fresh`: no heartbeat acted on since PAIR_CONFIG or isolation. `clash`: R151 has been raised.
`granted`: SWAP_ACK was received. `draining`: step 3 of R156; `drained`: this part has given up its role in the swap that runs. `leaving`: when RELINQUISH was sent
by an active that leaves service (R155). `hbIn` holds heartbeats that pair-link lanes have received. -/
structure Pair where
  on : Bool := false
  pairId : Nat := 0
  cfgRank : Nat := 0
  keySlot : Nat := 0
  stbyTx : Bool := false
  initRole : Nat := 0
  hbSeq : Nat := 0
  relinquish : Bool := false
  swapReq : Bool := false
  swapAck : Bool := false
  granted : Bool := false
  draining : Bool := false
  drained : Bool := false
  leaving : Option Nat := none
  fresh : Bool := true
  clash : Bool := false
  lastRank : Option Nat := none
  seqLink : Option Nat := none
  seqPon : Option Nat := none
  seqTop : Option Nat := none
  hbIn : List (List Byte) := []
deriving DecidableEq, Repr

/-- The PON side. Virtual terminals by number; Alloc-ID entries by channel × 2^14 + Alloc-ID; Port-ID entries by channel × 2^16 +
Port-ID; groups by number; PON-layer keys by terminal or channel (`vt * 4 + index`, `1024 + ch * 4 + index`); master session
keys by terminal. `lostTimer`: R148. -/
structure Pon where
  vts : SMap Vt := []
  chs : SMap PonCh := []
  allocs : SMap Alloc := []
  ports : SMap Port := []
  groups : SMap Group := []
  bondIn : List FragIn := []
  keys : SMap (BitVec 128) := []
  msk : SMap (BitVec 128) := []
  pair : Pair := {}
  rankDone : Bool := false
deriving DecidableEq, Repr

end Sys2Proof.Machine
end

