-- ==== Sys2Proof/Machine/TypesTdm.lean ====
section
/-! DEFINITION. What the TDM domain holds beyond its registers (R160 to R200). -/
namespace Sys2Proof.Machine

/-- A circuit entry, as CIRCUIT_SET gives it (R179, R181). -/
structure Circ where
  mode : Nat
  size : Nat
  payload : Nat
  txSa : Nat
  rxSa : Nat
  txEcid : Nat
  rxEcid : Nat
  dst : List Byte
  src : List Byte
  tci : Nat
  depth : Nat
  lopsSet : Nat
  lopsClr : Nat
  queue : Nat
deriving DecidableEq, Repr

/-- A page (R173): AU-4 structures by `lane * 16 + a - 1` (STRUCT, TU12), connections by first output slot (SIZE, first source
slot), circuit entries by number. -/
structure TdmPage where
  structs : SMap (Nat × Nat) := []
  conns : SMap (Nat × Nat) := []
  circs : SMap Circ := []
deriving DecidableEq, Repr

/-- A packet held for playout: its payload, its L bit, its arrival tick, and under CEP its structure pointer. -/
structure HeldPkt where
  bytes : List Byte
  lBit : Bool
  tick : Nat
  sp : Option Nat := none
deriving DecidableEq, Repr

/-- A circuit's running state (R182 to R191). `run` is the run being acquired, newest last; `s1` and `t1` are R185's, with `t1` in 1/256 ns;
`next` is the sequence number played next; `aisOut` says that the output carries AIS; `filled` and `early` count in a row; `top` is the highest sequence number that arrived; `sp` the structure pointer of the packet played. -/
structure CircRt where
  state : Nat := 0
  txSeq : Nat := 0
  run : List (Nat × HeldPkt) := []
  s1 : Nat := 0
  t1 : Nat := 0
  next : Nat := 0
  held : SMap HeldPkt := []
  filled : Nat := 0
  earlyRun : Nat := 0
  top : Option Nat := none
  lastHeld : Option (Nat × Nat) := none
  lRx : Bool := false
  remote : Bool := false
  lTx : Bool := false
  aisOut : Bool := true
  sp : Option Nat := none
  ctx : Option Nat := none
  tx : Nat := 0
  rx : Nat := 0
  lost : Nat := 0
  late : Nat := 0
  early : Nat := 0
  dup : Nat := 0
  reordered : Nat := 0
  reprime : Nat := 0
  expiredDrop : Nat := 0
deriving DecidableEq, Repr

/-- An opened frame waiting for the playout engine (R184): the SA that opened it and its pages. -/
structure CircIn where
  sa : Nat
  pages : List Nat
  len : Nat
deriving DecidableEq, Repr

/-- A pointer interpreter (R164): state 0 NORM, 1 LOP, 2 AIS; accepted offset; frames since the last accepted change, up to 3;
a new offset and how often it came; invalid words, words with NDF enabled and AIS indications in a row. -/
structure PtrRx where
  state : Nat := 0
  off : Nat := 0
  since : Nat := 3
  newOff : Nat := 0
  newCnt : Nat := 0
  bad : Nat := 0
  ndf : Nat := 0
  ais : Nat := 0
deriving DecidableEq, Repr

/-- The H4 multiframe of a TUG-structured VC-4 (R168), and the B3 violations of its last frame. -/
structure LomRx where
  bad : Nat := 0
  good : Nat := 0
  lom : Bool := false
  b3 : Nat := 0
deriving DecidableEq, Repr

/-- A section receiver (R162, R163, R168): what came in a row. -/
structure LaneRx where
  badA : Nat := 0
  goodA : Nat := 0
  j0 : List Byte := []
  j0Cnt : Nat := 0
  j0Acc : Bool := false
  s1 : Nat := 0
  s1Cnt : Nat := 0
  ais : Nat := 0
  notAis : Nat := 0
  rdi : Nat := 0
  notRdi : Nat := 0
  b2Prev : Nat := 0
deriving DecidableEq, Repr

/-- A pointer generator (R166): the pointer sent, frames since its last justification each way, a new pointer due, and whether it
sends AIS. -/
structure PtrTx where
  off : Nat := 0
  sincePos : Nat := 4
  sinceNeg : Nat := 4
  fresh : Bool := true
  ais : Bool := false
deriving DecidableEq, Repr

/-- A PM bin (R196): counters in the order ES, SES, BBE, UAS, PJC, NJC; which TCAs it has raised; how many steps of part time came before it. -/
structure PmBin where
  start : Nat
  era : Nat := 0
  suspect : Bool := true
  unavail : Bool := false
  counts : List Nat := [0, 0, 0, 0, 0, 0]
  tca : List Nat := []
deriving DecidableEq, Repr

/-- A second that has ended and is not yet classified (R195). -/
structure PmSec where
  sec : Nat
  era : Nat := 0
  eb : Nat
  defect : Bool
deriving DecidableEq, Repr

/-- A monitor (R193 to R198): its setting, the present second, the seconds of the last 10 s, its bins with the newest first, and for
paths the trace and what came in a row (R168). `tcas` are ES, SES, BBE, UAS; `era` counts the steps of part time. -/
structure PmMon where
  on : Bool := true
  trace : Bool := false
  label : Nat := 0xFF
  tcas : List Nat := [0, 0, 0, 0]
  expTrace : List Byte := List.replicate 16 0
  eb : Nat := 0
  defect : Bool := false
  secs : List PmSec := []
  era : Nat := 0
  unavail : Bool := false
  bins : List PmBin := []
  days : List PmBin := []
  tr : List Byte := []
  trCnt : Nat := 0
  tim : Bool := false
  plm : Bool := false
  uneq : Bool := false
  rdi : Bool := false
  mis : Nat := 0
  hit : Nat := 0
  zero : Nat := 0
  live : Nat := 0
  rdi1 : Nat := 0
  rdi0 : Nat := 0
deriving DecidableEq, Repr

/-- What asked for the splice that is pending (R174, R177). -/
inductive SpliceFor where
  | command
  | txn (n : Nat)
deriving DecidableEq, Repr

/-- The TDM domain. `splicesCold` counts splices since the last cold reset; `ctxStby` holds the playout contexts of entries that are on the
standby page alone; `rx` waits for the playout engine; monitors by ENTITY. -/
structure Tdm where
  act : TdmPage := {}
  stby : TdmPage := {}
  splicesCold : Nat := 0
  splice : Option SpliceFor := none
  rt : SMap CircRt := []
  ctxStby : SMap Nat := []
  rx : List CircIn := []
  lanes : SMap LaneRx := []
  aus : SMap PtrRx := []
  loms : SMap LomRx := []
  tus : SMap PtrRx := []
  gens : SMap PtrTx := []
  mons : SMap PmMon := []
deriving DecidableEq, Repr

end Sys2Proof.Machine
end

