-- ==== Sys2Proof/Machine/TypesTime.lean ====
section
/-! DEFINITION. What the time engines, the continuity log and the model's own bookkeeping hold (R387 to R405, R440 to R447). -/
namespace Sys2Proof.Machine

/-- One entry of the transmit stamp queue (R401). -/
structure StampEntry where
  id : Nat
  lane : Nat
  discarded : Bool
  sec : Nat
  ns : Nat
deriving DecidableEq, Repr

/-- The reference a TIME_SOURCE gave (R392). -/
structure TimeRef where
  channel : Nat := 0
  sfc : Nat := 0
  seconds : Nat := 0
  nanos : Nat := 0
deriving DecidableEq, Repr

/-- The clock. Times are in units of 2^-32 ns. `count`, `base`, `offset` and `rate` are Model C's; `part` is Model I's counter;
`carried` is part time as AON carries it while the clock engine is not ON (R387); `slewLeft` is what a backward slew has still
to absorb (R389). `rate` and `freq` are in units of 2^-40. `lastSample` is `elapsed` at the previous accepted sample and
`barredNs` the part time up to which samples are ignored (R393). `secLast` is the last whole second signalled (R402), `ppsLast` is `elapsed` at
the last accepted PPS_IN edge and `ppsNext` the seconds of the next pulse. -/
structure Clock where
  count : Nat := 0
  base : Nat := 0
  offset : Int := 0
  rate : Int := 0
  freq : Int := 0
  part : Nat := 0
  carried : Option Nat := some 0
  slewLeft : Nat := 0
  clamp : Bool := false
  armed : Bool := false
  state : Nat := 0
  source : Nat := 0
  ref : TimeRef := {}
  refStale : Bool := false
  firstSample : Bool := true
  lastSample : Nat := 0
  barredNs : Int := -1
  lastOffset : Int := 0
  latchNs : Nat := 0
  latchSec : Nat := 0
  latchMid : Nat := 0
  latchHi : Nat := 0
  secLast : Nat := 0
  stamps : List StampEntry := []
  ppsHigh : Bool := false
  ppsLast : Option Nat := none
  ppsNext : Nat := 0
deriving DecidableEq, Repr

/-- One continuity-log record (R440). `lastAt` is `elapsed` at the last occurrence it counts (R442); `closed` is R445's. -/
structure LogRec where
  hours : Nat
  minsec : Nat
  cycles : Nat
  reps : Nat
  seq : Nat
  event : Nat
  severity : Nat
  domain : Nat
  locator : Nat
  sec : Nat
  data : List Byte
  lastAt : Nat
deriving DecidableEq, Repr

/-- One slate entry of NOR (R441). -/
structure Slate where
  hours : Nat
  minsec : Nat
  cycles : Nat
deriving DecidableEq, Repr

/-- The continuity log, its mirror and the operating-time count (R440 to R446). `records` runs oldest first. `mirror` is the ring of
sectors in NOR, oldest first, each with its records; `mirrorNext` is the SEQ of the next record to mirror, `norBad` how many sectors are marked
bad. `hourAt` is `elapsed` where the present operating hour began. `window` is what WINDOW reads. -/
structure LogSt where
  records : List LogRec := []
  nextSeq : Nat := 0
  overrun : Nat := 0
  hourAt : Nat := 0
  hours : Nat := 0
  cycles : Nat := 0
  mirror : List (List LogRec) := []
  mirrorNext : Nat := 0
  norBad : Nat := 0
  slates : List Slate := []
  window : List Byte := List.replicate 64 0
deriving DecidableEq, Repr

end Sys2Proof.Machine
end

