-- ==== Sys2Proof/Machine/State.lean ====
section
/-! DEFINITION. The part's whole state, as plain data, and the state right after power-on reset. -/
namespace Sys2Proof.Machine

/-- Why a step can stop with a fault. No meaning of this model raises one: every row of the table has an effect in the spec. -/
inductive Fault where
  /-- Raised by no meaning; the part has no machine check. Safe: it can only stop a run. -/
  | machineCheck
deriving DecidableEq, Repr

/-- Why a step can be refused. -/
inductive Refusal where
  /-- Raised by `exec` for a row that has no meaning yet, by the row's mnemonic. Safe: it can only stop a run. -/
  | notModelled (mnemonic : String)
deriving DecidableEq, Repr

/-- The part. -/
structure State where
  /-- Commands waiting, first in first out. -/
  pending : List Instr := []
  /-- Register fields that have been written since their last reset, by engine, offset and bit; any other holds its reset value. -/
  flds : SMap Nat := []
  /-- Engine state beyond the header. -/
  engx : SMap EngX := []
  /-- The command channel. -/
  chan : Chan := {}
  /-- The clock and the stamp queue. -/
  clk : Clock := {}
  /-- The continuity log. -/
  log : LogSt := {}
  /-- Packet-buffer pages, by page number; an unlisted page has never been allocated. -/
  pages : SMap Page := []
  /-- The dispatcher. -/
  disp : Disp := {}
  /-- The traffic scheduler. -/
  sched : Sched := {}
  /-- The PON channels, virtual terminals, bonding groups and the redundancy pair. -/
  pon : Pon := {}
  /-- The option block in force (R426). -/
  opt : OptBlock := {}
  /-- Resets, the boot path, the SPI NOR, updates, sensors. -/
  boot : Boot := {}
  /-- The cipher complex. -/
  cry : Crypto := {}
  /-- The TDM domain. -/
  tdm : Tdm := {}
  /-- The classifier. -/
  cls : Cls := {}
  /-- Client lanes and MACs. -/
  client : Client := {}
  /-- True time that has passed, in units of 2^-32 ns (the model's own; it moves with the clock tick). -/
  elapsed : Nat := 0
  /-- How many free values have been drawn (the model's own). -/
  freeCtr : Nat := 0
  /-- What the part has sent out, oldest first (the model's own). -/
  emitted : List Emit := []
deriving DecidableEq, Repr

/-- The part right after power-on reset. -/
def State.reset : State := {}

end Sys2Proof.Machine
end

