-- ==== Sys2Proof/Machine/Ops.lean ====
section
/-! DEFINITION. The named operations over registers, time, cues and the log that every meaning uses. -/
namespace Sys2Proof.Machine

/-- Addition that stops at `cap`. -/
def satAdd (cap a b : Nat) : Nat := min cap (a + b)

/-! ### Register fields -/

/-- Where a field of an engine stands in `State.flds`. -/
def fldKey (e : Nat) (f : Fld) : Nat := (e * 2 ^ 20 + f.off) * 32 + f.lo

/-- Reset value of a field in engine `e`, for the fields whose reset value depends on the engine (R21, R126, R250, R458). -/
def Fld.special (f : Fld) (e : Nat) : Nat :=
  if f = HDR.DOMAIN then engDomain e
  else if f = HDR.ENGINE then engNo e
  else if f = HDR.KIND then kind e
  else if f = HDR.STATE then (if isSpareWin e then 6 else 0)
  else if f = HDR.ENABLE then (if engDomain e ≤ 2 then 1 else 0)
  else if f = HDR.PUNIT then engNo e
  else if f = HDR.LUNIT then (if isSpareWin e then 0xFF else engNo e)
  else if f = HDR.NSUBST then (Config.nsubst e).toNat
  else if f = OPT.BUS then (if engDomain e = 4 ∨ engDomain e = 5 then 0 else 1)
  else if f = OPT.MUX_PORT then engDomain e - 4
  else if f = CX.BIND then (if engNo e ≤ 1 then 1 else if engNo e ≤ 3 then 2 else if engNo e ≤ 6 then 3 else 0)
  else if f = TK.FUSED then Config.fusedCount.toNat
  else f.reset

/-- Reset value of a field in engine `e`. -/
def Fld.resetAt (f : Fld) (e : Nat) : Nat := if f.spec then f.special e else f.reset

/-- The field's present value. -/
def State.rf (s : State) (e : Nat) (f : Fld) : Nat := (s.flds.look (fldKey e f)).getD (f.resetAt e)

/-- The field set to `v`, cut to its width. -/
def State.wf (s : State) (e : Nat) (f : Fld) (v : Nat) : State :=
  { s with flds := s.flds.put (fldKey e f) (v % 2 ^ f.width) }

/-- The field back at its reset value. -/
def State.clearFld (s : State) (e : Nat) (f : Fld) : State := { s with flds := s.flds.del (fldKey e f) }

/-- Whether a one-bit field is 1. -/
def State.on (s : State) (e : Nat) (f : Fld) : Bool := s.rf e f = 1

/-- A counter raised by `n`, saturating at the top of its field (R126). -/
def State.bumpN (s : State) (e : Nat) (f : Fld) (n : Nat) : State :=
  s.wf e f (satAdd (2 ^ f.width - 1) (s.rf e f) n)

/-- A counter raised by 1, saturating. -/
def State.bump (s : State) (e : Nat) (f : Fld) : State := s.bumpN e f 1

/-- A high-water mark raised to `v` where `v` is above it. -/
def State.raiseTo (s : State) (e : Nat) (f : Fld) (v : Nat) : State := if s.rf e f < v then s.wf e f v else s

/-- Every field of an engine at its reset value, but those that satisfy `keep`. -/
def State.resetFlds (s : State) (e : Nat) (keep : Fld → Bool) : State :=
  let held := ((engFlds e).filter keep).flatMap fun f => (List.range f.count).map fun i => fldKey e (f.idx i)
  { s with flds := s.flds.keep fun k _ => decide (k / 32 / 2 ^ 20 ≠ e) || held.contains k }

/-! ### Named engines -/

def engEndpoint : Nat := eng 2 0
def engCmd : Nat := eng 2 1
def engWake : Nat := eng 0 0
def engRst : Nat := eng 0 1
def engAlarm : Nat := eng 0 2
def engLog : Nat := eng 0 3
def engTake : Nat := eng 0 4
def engProc : Nat := eng 1 0
def engSens : Nat := eng 1 1
def engSpi : Nat := eng 1 4
def engUart : Nat := eng 1 5
def engKeys : Nat := eng 12 16
def engDrbg : Nat := eng 12 17
def engWrap : Nat := eng 12 18
def engDisp : Nat := eng 13 0
def engSched : Nat := eng 13 1
def engBond : Nat := eng 13 2
def engClk : Nat := eng 14 0
def engStq : Nat := eng 14 1
def engPps : Nat := eng 14 2
def engTsi : Nat := eng 10 64
def engPack : Nat := eng 10 65
def engPlay : Nat := eng 10 66
def engPm : Nat := eng 10 67
def engParser : Nat := eng 11 0
def engTable (t : Nat) : Nat := eng 11 t
def engPmd (ch : Nat) : Nat := eng (4 + ch) 0
def engFramer (ch : Nat) : Nat := eng (4 + ch) 1
def engFec (ch : Nat) : Nat := eng (4 + ch) 2
def engXgem (ch : Nat) : Nat := eng (4 + ch) 3
def engPloam (ch : Nat) : Nat := eng (4 + ch) 4
def engOpt (ch : Nat) : Nat := eng (4 + ch) 5
/-- Engine of lane 0 to 67 (R20). -/
def engLane (l : Nat) : Nat :=
  if l < 32 then eng 8 l else if l < 64 then eng 9 (l - 32) else if l < 66 then eng 8 (l - 64 + 32) else eng 9 (l - 66 + 32)
/-- MAC of lane 0 to 67 (R20). -/
def engMac (l : Nat) : Nat := engLane l + 0x40
def engSdh (l : Nat) : Nat := eng 10 l
def engCipher (u : Nat) : Nat := eng 12 u

/-- The locator of an engine, OFFSET = 0 (R17). -/
def locOf (e : Nat) : Nat := engDomain e * 2 ^ 28 + engNo e * 2 ^ 20

/-- The engine a locator names (R17). -/
def locEng (l : Nat) : Nat := eng (l / 2 ^ 28 % 16) (l / 2 ^ 20 % 256)

/-- The offset a locator names (R17). -/
def locOff (l : Nat) : Nat := l % 2 ^ 20

/-! ### Engine header -/

/-- STATE of an engine: 0 OFF, 1 WAKING, 2 ON, 3 DRAINING, 4 FAILED, 5 RETIRED, 6 SPARE. -/
def State.engState (s : State) (e : Nat) : Nat := s.rf e HDR.STATE

/-- Whether the engine is ON. -/
def State.isOn (s : State) (e : Nat) : Bool := s.engState e = 2

/-- Engine state beyond the header. -/
def State.ex (s : State) (e : Nat) : EngX := s.engx.get e {}

/-- Engine state beyond the header, changed. -/
def State.modEx (s : State) (e : Nat) (f : EngX → EngX) : State := { s with engx := s.engx.upd e {} f }

/-! ### Free values and emissions -/

/-- The next free value, below 2^`n`, and the state with it drawn. -/
def State.draw (s : State) (n : Nat) : Nat × State :=
  (Config.freeValue s.freeCtr % 2 ^ n, { s with freeCtr := s.freeCtr + 1 })

/-- `n` free bytes. -/
def State.drawBytes (s : State) : Nat → List Byte × State
  | 0 => ([], s)
  | n + 1 =>
    let (b, s1) := s.draw 8
    let (bs, s2) := State.drawBytes s1 n
    (byte b :: bs, s2)

/-- The part sends something out. -/
def State.emit (s : State) (x : Emit) : State := { s with emitted := s.emitted ++ [x] }

/-! ### Part time (R387 to R390) -/

/-- The nominal tick in units of 2^-32 ns (R390). -/
def nominalTick : Nat := 0x66E172D4D

/-- Part time in units of 2^-32 ns. -/
def State.partTime (s : State) : Nat :=
  match s.clk.carried with
  | some p => p
  | none =>
    if s.rf engClk CLK.MODEL = 1 then s.clk.part
    else (s.clk.offset + s.clk.count + s.clk.rate * ((s.clk.count : Int) - s.clk.base) / 2 ^ 40).toNat

/-- Part time in whole nanoseconds. -/
def State.nowNs (s : State) : Nat := s.partTime / 2 ^ 32

/-- SEC of part time. -/
def State.nowSec (s : State) : Nat := s.nowNs / 1000000000

/-- NS of part time. -/
def State.nowNsPart (s : State) : Nat := s.nowNs % 1000000000

/-- The short stamp now (R388). -/
def State.short (s : State) : Nat := s.nowNs % 2 ^ 32

/-- Microseconds as `elapsed` counts. -/
def usUnits (n : Nat) : Nat := n * 1000 * 2 ^ 32

/-! ### Cues (R46, R52, R54, R61, R62, R494) -/

/-- The four header words of a packet. -/
def header (w0 w1 w2 w3 : Nat) : List Byte := le 4 w0 ++ le 4 w1 ++ le 4 w2 ++ le 4 w3

/-- A cue packet. -/
def cueBytes (code seq stamp : Nat) (payload : List Byte) : List Byte :=
  header (0xFFFF + 2 ^ 24) (payload.length * 2 ^ 16) (code + seq % 2 ^ 16 * 2 ^ 16) stamp ++ payload

/-- Whether the reply ring takes cues now: enabled, CUE_EN, and room (R61). -/
def State.cuesFlow (s : State) : Bool :=
  s.on engCmd VS.RPL_ENABLE && s.on engCmd VS.CUE_EN && !s.on engCmd VS.RPL_FULL && !s.chan.stalled

/-- MSI-X vector of a cue (R60). -/
def cueVector (code : Nat) : Nat := if code = 0x1001 ∨ code = 0x1002 then 4 else 4 + code / 4096

/-- A cue onto the PCIe carrier: while cues do not flow, the queue holds 256 and further cues are lost (R61). -/
def Chan.cuePcie (c : Chan) (flow : Bool) (p : Packet) : Chan × Bool :=
  if flow || decide (c.pcieCues.length < 256) then ({ c with pcieCues := c.pcieCues ++ [p] }, false)
  else ({ c with lostPcie := satAdd 0xFFFF c.lostPcie 1 }, true)

/-- A cue onto the UART carrier's queue of 256 (R494). -/
def Chan.cueUart (c : Chan) (p : Packet) : Chan :=
  if c.routeUart then
    if c.uartCues.length < 256 then { c with uartCues := c.uartCues ++ [p] }
    else { c with lostUart := satAdd 0xFFFF c.lostUart 1 }
  else c

/-- A cue onto the in-band carrier's queue of 256 (R494). -/
def Chan.cueBand (c : Chan) (p : Packet) : Chan :=
  if c.routeBand then
    if c.bandCues.length < 256 then { c with bandCues := c.bandCues ++ [p] }
    else { c with lostBand := satAdd 0xFFFF c.lostBand 1 }
  else c

/-- The part raises a cue now. -/
def State.raiseCue (s : State) (code : Nat) (payload : List Byte) : State :=
  let p : Packet := { order := s.chan.order, bytes := cueBytes code s.chan.cueSeq s.short payload, vector := cueVector code }
  let (c, lost) := ({ s.chan with order := s.chan.order + 1, cueSeq := (s.chan.cueSeq + 1) % 2 ^ 16 }).cuePcie s.cuesFlow p
  let s := { s with chan := (c.cueUart p).cueBand p }
  if lost then s.bump engCmd VS.CUE_LOST else s

/-- The part raises a cue; those of a commit are kept until its reply (R79). -/
def State.cue (s : State) (code : Nat) (payload : List Byte) : State :=
  match s.chan.deferred with
  | some l => { s with chan := { s.chan with deferred := some (l ++ [(code, payload)]) } }
  | none => s.raiseCue code payload

/-! ### The continuity log (R440 to R443, R447) -/

/-- SEVERITY of an event code (R447). -/
def severityOf (event : Nat) : Nat :=
  match event with
  | 0x0001 | 0x000E | 0x0014 => 0
  | 0x0008 | 0x0009 | 0x000A | 0x000B | 0x0010 | 0x0011 => 1
  | 0x0003 | 0x0004 | 0x0005 | 0x000C | 0x000D => 2
  | _ => 3

/-- Ten seconds as `elapsed` counts. -/
def tenSeconds : Nat := usUnits 10000000

/-- A record appended: the 4,097th overwrites the oldest (R443). -/
def LogSt.push (l : LogSt) (r : LogRec) : LogSt :=
  let l := { l with nextSeq := (l.nextSeq + 1) % 2 ^ 32 }
  if l.records.length < 4096 then { l with records := l.records ++ [r] }
  else { l with records := l.records.drop 1 ++ [r], overrun := satAdd 0xFFFFFFFF l.overrun 1 }

/-- Operating seconds of the present hour (R441). -/
def State.opSeconds (s : State) : Nat := min 3599 ((s.elapsed - s.log.hourAt) / usUnits 1000000)

/-- MINSEC now (R440). -/
def State.minsec (s : State) : Nat := s.opSeconds / 60 * 64 + s.opSeconds % 60

/-- The part writes a continuity-log record, or raises the newest record's REPEAT (R442). `e` is the source engine, or none for
no engine; `domain` is then the DOMAIN byte. -/
def State.logAt (s : State) (event domain locator : Nat) (data : List Byte) : State :=
  let data := data ++ zeros (28 - data.length)
  match s.log.records.getLast? with
  | some r =>
    if r.event = event ∧ r.domain = domain ∧ r.locator = locator ∧ r.data = data ∧ s.elapsed ≤ r.lastAt + tenSeconds ∧
        r.reps < 65535 then
      { s with log := { s.log with records := s.log.records.dropLast ++ [{ r with reps := r.reps + 1, lastAt := s.elapsed }] } }
    else { s with log := s.log.push (newRec s event domain locator data) }
  | none => { s with log := s.log.push (newRec s event domain locator data) }
where
  newRec (s : State) (event domain locator : Nat) (data : List Byte) : LogRec :=
    { hours := s.log.hours, minsec := s.minsec, cycles := s.log.cycles, reps := 0,
      seq := s.log.nextSeq, event := event, severity := severityOf event, domain := domain, locator := locator,
      sec := s.nowSec, data := data, lastAt := s.elapsed }

/-- A record whose source is engine `e`. -/
def State.logEng (s : State) (event e : Nat) (data : List Byte) : State := s.logAt event (engDomain e) (locOf e) data

/-- A record with no engine as its source. -/
def State.logPart (s : State) (event : Nat) (data : List Byte) : State := s.logAt event 0xFF 0 data

/-! ### Lanes and MACs beyond their registers -/

def State.lane (s : State) (l : Nat) : LaneSt := s.client.lanes.get l {}
def State.modLane (s : State) (l : Nat) (f : LaneSt → LaneSt) : State :=
  { s with client := { s.client with lanes := s.client.lanes.upd l {} f } }
def State.mac (s : State) (l : Nat) : MacSt := s.client.macs.get l {}
def State.modMac (s : State) (l : Nat) (f : MacSt → MacSt) : State :=
  { s with client := { s.client with macs := s.client.macs.upd l {} f } }

/-- Units that a substitution is testing, to take over or once freed (R372, R374). -/
def State.unitsInTest (s : State) : List Nat :=
  s.client.lanes.filterMap fun x => x.2.subst.map fun y => match y.step with
    | .check u => u
    | .freed u => u

/-- Whether a self-check runs on a lane or spare unit (R384): LANE_TEST's own run is over within its step. -/
def State.laneTesting (s : State) (l : Nat) : Bool :=
  s.client.checking.contains l || s.unitsInTest.contains l || l < 64 && s.engState (engLane l) = 1 && !(s.lane l).checked

end Sys2Proof.Machine
end

