-- ==== Sys2Proof/Machine/Jobs.lean ====
section
/-! DEFINITION. Pages of the packet buffer (R39) and the dispatcher's contexts, ready lists, delay lists and dependence
(R322 to R338). -/
namespace Sys2Proof.Machine

/-! ### Pages (R39) -/

/-- Pages in the packet buffer (R42). -/
def pageCount : Nat := 33554432

/-- The lowest page at or above `p` that is not in use, among the next `n`. -/
def freePage (m : SMap Page) (p : Nat) : Nat → Option Nat
  | 0 => none
  | n + 1 => if ((m.look p).map (·.used)).getD false then freePage m (p + 1) n else if p < pageCount then some p else none

/-- Bytes cut into pages of 256. -/
def cutPages : Nat → List Byte → List (List Byte)
  | 0, _ => []
  | n + 1, bs => if bs.length ≤ 256 then [bs] else bs.take 256 :: cutPages n (bs.drop 256)

/-- A page taken for a colour: one of the other colour is written to zero before its tag changes; then the data is written. -/
def takePage (m : SMap Page) (p : Nat) (red : Bool) (data : List Byte) : SMap Page :=
  let old : List Byte := match m.look p with
    | some q => if q.red = red then q.data else zeros 256
    | none => zeros 256
  m.put p { red := red, used := true, data := data ++ old.drop data.length }

/-- Pages of one colour filled with the pieces, lowest free pages first; none when the buffer is full. -/
def allocPieces (m : SMap Page) (red : Bool) : List (List Byte) → Option (List Nat × SMap Page)
  | [] => some ([], m)
  | d :: ds =>
    match freePage m 0 (m.length + 1) with
    | none => none
    | some p => (allocPieces (takePage m p red d) red ds).map fun x => (p :: x.1, x.2)

/-- Bytes written to newly allocated pages of one colour. -/
def State.allocPages (s : State) (red : Bool) (bs : List Byte) : Option (List Nat × State) :=
  (allocPieces s.pages red (cutPages (bs.length / 256 + 1) bs)).map fun x => (x.1, { s with pages := x.2 })

/-- Pages freed: they keep colour and bytes (R39). -/
def State.freePages (s : State) (ps : List Nat) : State :=
  { s with pages := ps.foldl (fun m p => m.adj p fun q => { q with used := false }) s.pages }

/-- Pages of a job that ended otherwise than OK: freed, with no byte left in them (R221). -/
def State.wipePages (s : State) (ps : List Nat) : State :=
  { s with pages := ps.foldl (fun m p => m.adj p fun q => { q with used := false, data := zeros 256 }) s.pages }

/-- `n` bytes held in pages. -/
def State.readPages (s : State) (ps : List Nat) (n : Nat) : List Byte :=
  (ps.flatMap fun p => ((s.pages.look p).map (·.data)).getD (zeros 256)).take n

/-! ### Contexts (R322, R333, R337) -/

/-- First context and size of a pool: 0 circuit, 1 general, 2 class P (R322). -/
def poolRange (p : Nat) : Nat × Nat := if p = 0 then (0, 8192) else if p = 1 then (8192, 57088) else (65280, 256)

/-- Contexts of a pool in use. -/
def State.poolUsed (s : State) (p : Nat) : Nat := (s.disp.jobs.filter fun j => j.2.pool == p).length

/-- Pools that a job of a class may take, in order: circuit, datapath, class P (R322). -/
inductive JobClass where
  | circuit | datapath | classP
deriving DecidableEq, Repr

def JobClass.pools : JobClass → List Nat
  | .circuit => [0, 1]
  | .datapath => [1]
  | .classP => [1, 2]

/-- Whether a class can get a context now. -/
def State.hasCtx (s : State) (c : JobClass) : Bool := c.pools.any fun p => decide (s.poolUsed p < (poolRange p).2)

/-- Used count and high-water mark registers of a pool. -/
def poolFlds (p : Nat) : Fld × Fld :=
  if p = 0 then (DP.CIRC_USED, DP.CIRC_HWM) else if p = 1 then (DP.GEN_USED, DP.GEN_HWM) else (DP.P_USED, DP.P_HWM)

/-- The registers that follow a pool's count. -/
def State.poolNote (s : State) (p : Nat) : State :=
  let u := s.poolUsed p
  (s.wf engDisp (poolFlds p).1 u).raiseTo engDisp (poolFlds p).2 u

/-- A pool whose last context is taken raises CTX_EXHAUSTED once (R337); an empty general pool holds the input FIFOs (R334). -/
def State.poolDry (s : State) (p : Nat) : State :=
  if s.poolUsed p < (poolRange p).2 then s
  else
    let s := if p = 1 && !s.disp.fifosHeld then { s with disp := { s.disp with fifosHeld := true, recovering := true } }.bump engDisp DP.DP_HOLDS else s
    if s.disp.dry.contains p then s
    else { s with disp := { s.disp with dry := s.disp.dry ++ [p] } }.cue 0x7001 ([byte p, 0, 0, 0] ++ le 4 (s.rf engDisp DP.DP_NOCTX))

/-- A pool that was empty and has 1/16 of its size free again raises CTX_RESTORED (R337). -/
def State.poolWet (s : State) (p : Nat) : State :=
  let free := (poolRange p).2 - s.poolUsed p
  let s := if p = 1 && decide (0 < free) then { s with disp := { s.disp with fifosHeld := false } } else s
  if s.disp.dry.contains p && decide (free ≥ (poolRange p).2 / 16) then
    { s with disp := { s.disp with dry := s.disp.dry.filter (· != p) } }.cue 0x7002 ([byte p, 0, 0, 0] ++ le 4 free)
  else s

/-- The lowest free context of the first pool with one. -/
def State.pickCtx (s : State) : List Nat → Option (Nat × Nat)
  | [] => none
  | p :: ps =>
    if s.poolUsed p < (poolRange p).2 then
      (s.disp.jobs.freeFrom (poolRange p).1 (poolRange p).2).map fun c => (c, p)
    else s.pickCtx ps

/-- Links in use (R325, R328). -/
def State.links (s : State) : List Nat := s.disp.jobs.flatMap fun j => j.2.waiters.map (·.1)

def State.linksUsed (s : State) : Nat := s.links.length

/-- The lowest `n` numbers that `used` does not hold. -/
def freeNums (used : List Nat) (n : Nat) : List Nat := ((List.range (used.length + n)).filter fun k => !used.contains k).take n

/-- A context put into a state. -/
def State.putJobState (s : State) (ctx : Nat) (x : JobState) : State :=
  { s with disp := { s.disp with jobs := s.disp.jobs.adj ctx fun j => { j with state := x } } }

/-- A job enters the ready list of its PRIO, or its delay list (R326, R331). -/
def State.arm (s : State) (ctx : Nat) : State :=
  let n := s.disp.entries
  { s with disp := { s.disp with
      entries := n + 1
      jobs := s.disp.jobs.adj ctx fun j =>
        { j with state := (if j.due.isSome then .delayed else .ready), entered := n, timed := false } } }

/-- A job's context becomes FREE: GEN + 1, counts follow (R326). -/
def State.dropCtx (s : State) (ctx : Nat) : State :=
  match s.disp.jobs.look ctx with
  | none => s
  | some j =>
    let s := { s with disp := { s.disp with jobs := s.disp.jobs.del ctx, gens := s.disp.gens.upd ctx 0 fun g => (g + 1) % 256 } }
    ((s.poolNote j.pool).poolWet j.pool).wf engDisp DP.LINKS_USED s.linksUsed

/-- One waiter is told that a job has ended: DEP falls, DEP_ERR is set when the job ended not OK (R329). -/
def State.tell (s : State) (ok : Bool) (w : Nat) : State :=
  match s.disp.jobs.look w with
  | none => s
  | some j =>
    let j' := { j with dep := j.dep - 1, depErr := j.depErr || !ok }
    let s := { s with disp := { s.disp with jobs := s.disp.jobs.put w j' } }
    let s := if ok then s else s.bump engDisp DP.DP_DEP_ERR
    if j'.dep = 0 && j.state = .waiting then s.arm w else s

/-- A job ends: completed when `ok`, else cancelled or ended not OK (R326, R329, JOB_FANOUT). -/
def State.endJob (s : State) (ctx : Nat) (ok : Bool) : State :=
  match s.disp.jobs.look ctx with
  | none => s
  | some j => ((j.waiters.foldl (fun s w => s.tell ok w.2) (s.bump engDisp DP.DP_JOBS)).dropCtx ctx)

/-- How a job is asked for: its class, priority, delay list, due tick, time-out and the jobs it waits for (context, GEN). -/
structure JobAsk where
  work : Work
  cls : JobClass
  prio : Nat
  list : Nat := 0xFF
  due : Option Nat := none
  timeout : Option Nat := none
  after : List (Nat × Nat) := []

/-- The named jobs that have not completed (R328). -/
def State.incomplete (s : State) (after : List (Nat × Nat)) : List Nat :=
  (after.filter fun x => s.disp.jobs.has x.1 && s.disp.gens.get x.1 0 == x.2).map (·.1)

/-- DUE as R331 takes it: at or behind the present tick means the next tick. -/
def State.dueTick (s : State) (d : Nat) : Nat := if ahead 32 d s.disp.tick then d % 2 ^ 32 else (s.disp.tick + 1) % 2 ^ 32

/-- A context taken for a class's job from the first of its pools that has one (R322, R337). -/
def State.takeSlot (s : State) (cls : JobClass) (j : Nat → Job) : Option Nat × State :=
  match s.pickCtx cls.pools with
  | none => (none, s.bump engDisp DP.DP_NOCTX)
  | some (c, p) => (some c, (({ s with disp := { s.disp with jobs := s.disp.jobs.put c (j p) } }).poolNote p).poolDry p)

/-- The job that is asked for, with `n` jobs to wait for. -/
def State.jobFor (s : State) (a : JobAsk) (n pool : Nat) : Job :=
  { work := a.work, state := .waiting, prio := a.prio, dep := n, pool := pool, list := a.list, due := a.due.map s.dueTick,
    timed := a.timeout.isSome && decide (n > 0), timeoutAt := (s.disp.tick + a.timeout.getD 0) % 2 ^ 32, created := s.short }

/-- One link for each job of `deps` to context `c`, on the lowest free numbers (R328, log entry 158). -/
def State.linkTo (s : State) (c : Nat) (deps : List Nat) : State :=
  let m := (deps.zip (freeNums s.links deps.length)).foldl (fun m x => m.adj x.1 fun j => { j with waiters := j.waiters ++ [(x.2, c)] }) s.disp.jobs
  let s := { s with disp := { s.disp with jobs := m } }
  s.wf engDisp DP.LINKS_USED s.linksUsed

/-- Whether a time-out can be asked for (R332). -/
def JobAsk.timeoutOk (a : JobAsk) : Bool :=
  match a.timeout with
  | none => true
  | some t => a.cls = .classP && 1 ≤ t && t ≤ 16777215

/-- A job created: a status when refused (R328, R332), or its context. -/
def State.newJob (s : State) (a : JobAsk) : Except Nat Nat × State :=
  let deps := s.incomplete a.after
  if deps.length > 255 || !a.timeoutOk then (.error 0x0103, s)
  else if s.linksUsed + deps.length > 1048576 then (.error 0x0107, s)
  else
    match s.takeSlot a.cls (s.jobFor a deps.length) with
    | (none, s) => (.error 0x0105, s)
    | (some c, s) =>
      let s := s.linkTo c deps
      (.ok c, if deps.isEmpty then s.arm c else s)

/-- The oldest READY job of the highest priority among those that `p` picks (R327). -/
def State.oldestReady (s : State) (p : Nat → Job → Bool) : Option (Nat × Job) :=
  (s.disp.jobs.filter fun x => x.2.state = .ready && p x.1 x.2).foldl
    (fun best x => match best with
      | none => some x
      | some b => if x.2.prio > b.2.prio || x.2.prio = b.2.prio && x.2.entered < b.2.entered then some x else some b) none

/-- Jobs in ready list `p`. -/
def State.readyDepth (s : State) (p : Nat) : Nat := (s.disp.jobs.filter fun x => x.2.state = .ready && x.2.prio = p).length

/-- Jobs or time-outs on delay list `l`. -/
def State.delayDepth (s : State) (l : Nat) : Nat :=
  (s.disp.jobs.filter fun x => x.2.state = .delayed && x.2.list = l || l = 15 && x.2.state = .waiting && x.2.timed).length

/-- Every job whose work `p` picks is cancelled (R326). -/
def State.cancelJobs (s : State) (p : Work → Bool) : State :=
  (s.disp.jobs.filter fun x => p x.2.work).foldl (fun s x => s.endJob x.1 false) s

/-- Ready priority of a seal or open job (R323). -/
def CJob.readyPrio (d : CJob) : Nat :=
  if d.cls = 3 then 14 else if d.cls = 2 then 12 else if d.cls = 1 then 11 else if d.isSeal then d.prio else 3

/-- Class of a seal or open job (R323). -/
def CJob.jobClass (d : CJob) : JobClass := if d.cls = 3 then .circuit else .datapath

/-- A seal or open job created (R219). -/
def State.newCrypto (s : State) (d : CJob) : Except Nat Nat × State :=
  s.newJob { work := .crypto { d with ready := s.short }, cls := d.jobClass, prio := d.readyPrio }

/-! ### Time-outs (R332) -/

/-- The time-out of a job's wait is served: its links go, TIMEOUT is set, and it is READY. -/
def State.timeOut (s : State) (ctx : Nat) : State :=
  let jobs := (s.disp.jobs.each fun _ x => { x with waiters := x.waiters.filter (·.2 != ctx) }).adj ctx fun j =>
    { j with timeout := true, timed := false, dep := 0, due := none }
  let s := { s with disp := { s.disp with jobs := jobs } }
  ((s.wf engDisp DP.LINKS_USED s.linksUsed).arm ctx).bump engDisp DP.DP_TIMEOUTS

/-! ### Jobs that their consumer runs at once (R327, R333) -/

/-- A job of class P for which the firmware stands ready: RUNNING from its creation; none without a context. -/
def State.runJob (s : State) (a : JobAsk) : Option Nat × State :=
  match s.newJob a with
  | (.ok c, s) => (some c, s.putJobState c .running)
  | (.error _, s) => (none, s)

/-- A table update's job, which the CLS domain runs (R322, R323). -/
def tableAsk : JobAsk := { work := .table, cls := .datapath, prio := 9, list := 12 }

/-! ### The image of a context, and the overflow region (R219, R324, R325) -/

/-- KIND and OP of a job: codes of R323 and R219. -/
def Work.code : Work → Nat
  | .crypto d => if d.isSeal then 1 else 2
  | .playout _ => 3
  | .table => 4
  | .mgmt => 5
  | .kat _ => 5
  | .key => 6
  | .heartbeat _ => 7

/-- STATE's code (R324). -/
def JobState.code : JobState → Nat
  | .held => 0
  | .waiting => 1
  | .delayed => 2
  | .ready => 3
  | .running => 4

/-- Bytes 0 to 31 of a job's image: the descriptor of R219 for seals and opens; for other kinds no chapter lays it out, so that its bytes are free, but
for OP and JOB of a known-answer test (log entry 158). -/
def Work.descriptor (w : Work) (ctx : Nat) : List Byte :=
  let free : List Byte := (List.range 32).map fun i => Config.jobByte w.code ctx i
  match w with
  | .crypto d =>
    [byte (if d.isSeal then 1 else 2), byte d.cls] ++ le 2 d.sa ++ le 4 (d.src.headD 0) ++ le 4 (d.dst.headD 0) ++ le 2 d.len ++
      [byte d.hdr, byte (bit d.retry + 2 * bit d.mgmt)] ++ le 4 ctx ++ le 4 d.ready ++ zeros 8
  | .kat _ => [5] ++ part free 1 15 ++ le 4 ctx ++ part free 20 4 ++ zeros 8
  | _ => free

/-- Bytes 32 to 63: the dispatcher record. -/
def Job.record (j : Job) (gen : Nat) : List Byte :=
  [byte j.work.code, byte j.state.code, byte j.prio, byte j.dep, byte (bit j.timeout + 2 * bit j.depErr + 4 * bit j.timed), byte j.pool, byte gen, byte j.list] ++
    le 4 (j.due.getD 0) ++ le 4 j.timeoutAt ++ le 4 ((j.waiters.head?.map (·.1)).getD 0xFFFFFFFF) ++ le 4 j.created ++ zeros 8

/-- The 64-byte image of a context in use (R324). -/
def State.jobImage (s : State) (ctx : Nat) : Option (List Byte) :=
  (s.disp.jobs.look ctx).map fun j => j.work.descriptor ctx ++ j.record (s.disp.gens.get ctx 0)

/-- Where an address of the dispatcher overflow region lies (R325): which byte of an image or of a link, or in the span that is not used. -/
inductive RegionPlace where
  | image (ctx off : Nat)
  | link (n off : Nat)
  | unused
deriving DecidableEq, Repr

/-- The place of an address; none outside the region. -/
def regionPlace (a : Nat) : Option RegionPlace :=
  if a < 0x2B0000000 || 0x2B3FFFFFF < a then none
  else if a < 0x2B0400000 then some (.image ((a - 0x2B0000000) / 64) ((a - 0x2B0000000) % 64))
  else if a < 0x2B0C00000 then some (.link ((a - 0x2B0400000) / 8) ((a - 0x2B0400000) % 8))
  else some .unused

/-- Whether a context's image is always cached on chip (R325): the circuit and class P pools. A general context may have to be fetched as it becomes
READY, which only takes time. -/
def alwaysCached (ctx : Nat) : Bool := decide (ctx < 8192) || decide (65280 ≤ ctx && ctx < 65536)

end Sys2Proof.Machine
end

