-- ==== Sys2Proof/Machine/Command.lean ====
section
/-! DEFINITION. The request pipeline: the ordered checks of R49, staging, the start order of R64, replies. Every host command
is one `Cmd`; its meaning is `runCmd` of it. -/
namespace Sys2Proof.Machine

/-! ### Status codes (R53) -/

def St.ok : Nat := 0x0000
def St.deferred : Nat := 0x0001
def St.noChange : Nat := 0x0002
def St.badOpcode : Nat := 0x0100
def St.badLength : Nat := 0x0101
def St.badLocator : Nat := 0x0102
def St.badParam : Nat := 0x0103
def St.roleDenied : Nat := 0x0104
def St.busy : Nat := 0x0105
def St.collision : Nat := 0x0106
def St.exhausted : Nat := 0x0107
def St.timeout : Nat := 0x0108
def St.rngFail : Nat := 0x0109
def St.zeroized : Nat := 0x010A
def St.txnAborted : Nat := 0x010B
def St.unitFailed : Nat := 0x010C
def St.staleEpoch : Nat := 0x010D
def St.notReady : Nat := 0x010E
def St.integrity : Nat := 0x010F

/-- A check's failure: status and DETAIL; none where the check passes. -/
abbrev Chk := Option (Nat × Nat)

/-- The first failure of two checks made in order. -/
def Chk.andThen (a : Chk) (b : Chk) : Chk :=
  match a with
  | some x => some x
  | none => b

/-- The first failure of checks made in order. -/
def checks : List Chk → Chk
  | [] => none
  | c :: cs => Chk.andThen c (checks cs)

/-- BAD_PARAM at a payload offset unless `ok` (R50). -/
def param (ok : Bool) (off : Nat) : Chk := if ok then none else some (St.badParam, off)

/-- A status unless `ok`. -/
def need (ok : Bool) (status : Nat) (detail : Nat := 0) : Chk := if ok then none else some (status, detail)

/-- Reserved payload bytes must be 0 (R493). -/
def resv (p : List Byte) (off n : Nat) : Chk := (firstNonzero p off n).map fun o => (St.badParam, o)

/-- What a command did: the state, and its answer, or why the answer waits; `holds` as in `Packet`. -/
structure Act where
  st : State
  status : Nat := St.ok
  detail : Nat := 0
  payload : List Byte := []
  wait : Option Why := none
  holds : Nat := 0

/-- An answer with no payload. -/
def Act.say (s : State) (status : Nat) (detail : Nat := 0) : Act := { st := s, status := status, detail := detail }

/-- A failed check's answer. -/
def Act.fail (s : State) (c : Nat × Nat) : Act := { st := s, status := c.1, detail := c.2 }

/-- One host command of the opcode ranges (R51): its code, whether it must carry OFFICER (order 5), lowest role (order 6),
accepted lengths (order 7) and length fields of the payload (`fits`, of the same order), whether it can be staged (order 8), the checks of TARGET (order 9) and of the payload (order 10), the engines whose state answers it first (R491),
the domains it needs awake, what its refusal
before it is taken leaves behind, and what it does from order 11 on. -/
structure Cmd where
  op : Nat
  signed : Bool := false
  role : Role := .user
  len : Nat → Bool
  fits : Req → State → Chk := fun _ _ => none
  stage : Bool := false
  target : Req → State → Chk := fun r _ => if r.target = 0 then none else some (St.badLocator, 0)
  params : Role → Req → State → Chk := fun _ _ _ => none
  recovery : Bool := false
  needs : Req → List Nat := fun _ => []
  domains : Req → State → List Nat := fun _ _ => []
  refused : Nat → State → State := fun _ s => s
  act : Role → Req → State → Act

/-! ### Flags of a request (R47) -/

def Req.inTxn (r : Req) : Bool := r.flags.getLsbD 0
def Req.noReply (r : Req) : Bool := r.flags.getLsbD 1
def Req.officer (r : Req) : Bool := r.flags.getLsbD 2
def Req.urgent (r : Req) : Bool := r.flags.getLsbD 3

/-- The 16-byte header of a request (R46). -/
def Req.header (r : Req) (op : Nat) : List Byte :=
  Machine.header (op + r.flags.toNat * 2 ^ 16 + 2 ^ 24) (r.tag.toNat + r.payload.length * 2 ^ 16)
    (r.txn.toNat + r.session.toNat * 2 ^ 16) r.target.toNat

/-- The engine that TARGET names. -/
def Req.eng (r : Req) : Nat := locEng r.target.toNat

/-- Priority of the carrier's commands (R44). -/
def Carrier.priority : Carrier → Nat
  | .ring p => p.val
  | .uart => 3
  | .inband => 1

/-- Tags a carrier can have outstanding (R44); the four rings share theirs. -/
def Carrier.tagLimit : Carrier → Nat
  | .ring _ => 4096
  | .uart => 16
  | .inband => 64

/-- Whether two requests share a tag space (R44). -/
def Carrier.sameSpace : Carrier → Carrier → Bool
  | .ring _, .ring _ => true
  | .uart, .uart => true
  | .inband, .inband => true
  | _, _ => false

/-! ### Replies (R46, R47, R71) -/

/-- HMAC-SHA-384 of a packet under a session key and sequence value (R71). -/
def Auth.sign (a : Auth) (hdr payload : List Byte) : BitVec 384 := Config.hmac384 (be 48 a.key.toNat) (le 8 a.seq ++ hdr ++ payload)

/-- A reply packet. OFFICER stands in it only with a trailer. -/
def replyBytes (t : Taken) (auth : Option Auth) (status detail : Nat) (payload : List Byte) : List Byte :=
  let flags := (t.req.flags &&& 0xF1#8).toNat + (if auth.isSome then 4 else 0)
  let hdr := header (t.op % 2 ^ 15 + 2 ^ 15 + flags * 2 ^ 16 + 2 ^ 24) (t.req.tag.toNat + payload.length * 2 ^ 16)
    (status + detail % 2 ^ 16 * 2 ^ 16) t.req.target.toNat
  match auth with
  | none => hdr ++ payload
  | some a => hdr ++ payload ++ be 48 (a.sign hdr payload).toNat

/-- The commands that the hardware command engine executes (R63; the hardware commands of the classifier chapter). -/
def hwOp (op : Nat) : Bool := [0x0001, 0x0002, 0x0100, 0x0101, 0x0102, 0x0501, 0x0502, 0x0503, 0x0504, 0x0508].contains op

/-- Commands that take no dispatcher context (R336): hardware commands, the session commands and ZEROIZE. -/
def noCtx (op : Nat) : Bool := hwOp op || [0x0020, 0x0021, 0x0022, 0x062A].contains op

/-- A context freed with the reply that held it (R336). -/
def State.endCtx (s : State) (c : Option Nat) : State :=
  match c with
  | some c => s.endJob c true
  | none => s

/-- Commands that load, make, erase, assign or roll keys: key handling (R323, log entry 159). -/
def handlesKeys (op : Nat) : Bool := op = 0x0023 || 0x0620 ≤ op && op ≤ 0x0626

/-- The class P job of a firmware command: key handling, or a management task (R323). -/
def commandAsk (op : Nat) : JobAsk :=
  if handlesKeys op then { work := .key, cls := .classP, prio := 10, list := 13 } else { work := .mgmt, cls := .classP, prio := 8, list := 12 }

/-- A firmware command takes one class P context (R336); none free means BUSY with DETAIL 0x0003. -/
def State.takeCtx (s : State) (op : Nat) : Option (Option Nat) × State :=
  if noCtx op then (some none, s)
  else
    match s.runJob (commandAsk op) with
    | (some c, s) => (some (some c), s)
    | (none, s) => (none, s)

/-- No command holds a context any more: the dispatcher has cancelled every job (R338). -/
def Chan.noCtxs (c : Chan) : Chan :=
  let off (p : Packet) : Packet := { p with ctx := none }
  { c with
    taken := c.taken.map fun t => { t with ctx := none }
    waits := c.waits.map fun w => { w with cmd := { w.cmd with ctx := none } }
    pcieReplies := c.pcieReplies.map off
    uartReplies := c.uartReplies.map off
    bandReplies := c.bandReplies.map off
    txns := c.txns.each fun _ x => { x with job := none } }

/-- A change to a table as its job, which takes a general context (R322, R333); BUSY without one. A refused or waiting command issues no job. -/
def issueTable (act : State → Act) (s : State) : Act :=
  if (act s).wait.isSome || (act s).status ≠ St.ok then act s
  else
    match s.runJob tableAsk with
    | (none, s) => .say s St.busy 3
    | (some c, s) =>
      let a := act s
      { a with st := a.st.endJob c true }

/-- A tag freed (R45). -/
def Chan.freeTag (c : Chan) (k : Carrier) (tag : Nat) : Chan :=
  { c with tags := c.tags.filter fun x => !(x.1.sameSpace k && x.2 == tag) }

/-- A packet queued on its carrier. -/
def Chan.queueReply (c : Chan) (k : Carrier) (p : Packet) : Chan :=
  match k with
  | .ring _ => { c with pcieReplies := c.pcieReplies ++ [p] }
  | .uart => { c with uartReplies := c.uartReplies ++ [p] }
  | .inband => { c with bandReplies := c.bandReplies ++ [p] }

/-- MSI-X vector of a carrier's replies (R60). -/
def Carrier.vector : Carrier → Nat
  | .ring p => p.val
  | _ => 0

/-- The session under which a reply is signed is still open, or SESSION_CLOSE closes it (R71, R282). -/
def State.signs (s : State) (t : Taken) : Option Auth :=
  match t.auth with
  | some a => if t.op = 0x22 || s.chan.sessions.has a.session then some a else none
  | none => none

/-- A reply, as one that arose at `order`; NO_REPLY suppresses OK and NO_CHANGE and frees the tag (R47). `id` is the number of a command that
waited, and `holds` what a commit's reply holds until it is written. -/
def State.reply (s : State) (t : Taken) (order status detail : Nat) (payload : List Byte) (holdsTag : Bool := true) (id : Option Nat := none)
    (holds : Nat := 0) : State :=
  if t.req.noReply && (status = St.ok || status = St.noChange) then
    { s with chan := s.chan.freeTag t.req.carrier t.req.tag.toNat }.endCtx t.ctx
  else
    let p : Packet :=
      { order := order, bytes := replyBytes t (s.signs t) status detail payload, tag := t.req.tag.toNat,
        holdsTag := holdsTag, vector := t.req.carrier.vector, ctx := t.ctx, dst := t.req.src, answers := id, holds := holds }
    { s with chan := s.chan.queueReply t.req.carrier p }

/-- A reply that arises now. -/
def State.replyNow (s : State) (t : Taken) (status : Nat) (detail : Nat := 0) (payload : List Byte := []) : State :=
  { s with chan := { s.chan with order := s.chan.order + 1 } }.reply t s.chan.order status detail payload

/-- A reply to a command that waited, which arises now. -/
def State.replyWait (s : State) (w : Wait) (status : Nat) (detail : Nat := 0) (payload : List Byte := []) : State :=
  { s with chan := { s.chan with order := s.chan.order + 1 } }.reply w.cmd s.chan.order status detail payload true (some w.id)

/-- The cues that arose since `order` stand behind the reply of command `id` (R62). -/
def Chan.cuesBehind (c : Chan) (order id : Nat) : Chan :=
  let mark (p : Packet) : Packet := if order < p.order && p.behind.isNone then { p with behind := some id } else p
  { c with pcieCues := c.pcieCues.map mark, uartCues := c.uartCues.map mark, bandCues := c.bandCues.map mark }

/-- A command that started at `order` waits for its answer. -/
def State.awaits (s : State) (order : Nat) (why : Why) (cmd : Taken) : State :=
  let c := s.chan.cuesBehind order (order + 1)
  { s with chan := { c with waits := c.waits ++ [{ why := why, cmd := cmd, id := order + 1 }] } }

/-- The payload of a TXN_ABORTED reply (R81). -/
def TxnFail.payload (f : TxnFail) : List Byte := le 4 f.locator ++ le 2 f.status ++ le 2 f.detail ++ le 2 f.index ++ zeros 2

/-- A waiting TXN_COMMIT ended by what ends the staged SA_CREATE that it waits for: TXN_ABORTED (R81). -/
def State.abortWait (s : State) (w : Wait) (status detail : Nat) : State :=
  let n := w.cmd.req.txn.toNat
  let i := ((s.chan.txns.look n).map (·.waitAt)).getD 0
  let at_ := (((s.chan.txns.look n).bind fun t => t.staged[i]?).map fun u => u.req.target.toNat).getD 0
  let f := ((s.chan.txns.look n).bind (·.fail)).getD { locator := at_, status := status, detail := detail, index := i }
  let job := (s.chan.txns.look n).bind (·.job)
  ({ s with chan := { s.chan with txns := s.chan.txns.del n, committing := none } }.endCtx job).replyWait w St.txnAborted 0 f.payload

/-- A wait that is over. -/
def State.dropWait (s : State) (w : Wait) : State := { s with chan := { s.chan with waits := s.chan.waits.filter fun x => !(x == w) } }

/-- The waiting commands that `p` picks are answered and wait no longer. -/
def State.answer (s : State) (p : Why → Bool) (status : Nat) (detail : Nat := 0) (payload : List Byte := []) : State :=
  let go := s.chan.waits.filter fun w => p w.why
  let s := { s with chan := { s.chan with waits := s.chan.waits.filter fun w => !p w.why } }
  go.foldl (fun s w => if w.cmd.op = 0x0111 then s.abortWait w status detail else s.replyWait w status detail payload) s

/-! ### Sessions' part in the checks (R67 to R73) -/

/-- An update ends with the session that it belongs to (R453). -/
def State.dropUpdate (s : State) (id : Nat) : State :=
  if (s.boot.update.map (·.session)) = some id then { s with boot := { s.boot with update := none } } else s

/-- The session closes, with a cue for an authenticated one (R68, R74). Reasons: 1 idle, 2 integrity, 3 zeroisation, 4 maintenance. -/
def State.closeSession (s : State) (id : Nat) (reason : Nat) : State :=
  match s.chan.sessions.look id with
  | none => s
  | some x =>
    let s := { s with chan := { s.chan with sessions := s.chan.sessions.del id } }.dropUpdate id
    if x.authed then s.cue 0x1003 (le 2 id ++ [byte reason, 0]) else s

/-- Code of a carrier in event 0x0013: its place in the table of R44 (log entry 12). -/
def Carrier.code : Carrier → Nat
  | .ring _ => 0
  | .uart => 1
  | .inband => 2

/-- A SESSION_AUTH fails (R73): it counts, the third starts 60 s of lockout, and a record is written (R447). -/
def State.authFailed (s : State) (role : Nat) (k : Carrier) : State :=
  let n := s.chan.authFails + 1
  let s := s.logEng 0x0013 engCmd [byte role, byte k.code]
  if n ≥ 3 then { s with chan := { s.chan with authFails := 0, lockout := true } }
  else { s with chan := { s.chan with authFails := n } }

/-- What order 5 of R49 finds: the session's key and role, or a failure. -/
inductive AuthCheck where
  | pass (auth : Option Auth) (role : Role) (only : Bool)
  | fail (status : Nat)

/-- Order 5 of R49 (R71): OFFICER, SESSION and trailer. A trailer that verifies consumes its SEQ; the session of one that does not is closed after
the reply (R62), and a SESSION_AUTH that fails so counts (R73). -/
def State.checkAuth (s : State) (op : Nat) (r : Req) : AuthCheck × State :=
  if !r.officer then (.pass none .user false, s)
  else
    match s.chan.sessions.look r.session.toNat with
    | none => (.fail St.roleDenied, s)
    | some x =>
      if x.carrier ≠ r.carrier then (.fail St.roleDenied, s)
      else
        let a : Auth := { key := x.key, seq := x.seq, session := r.session.toNat }
        if a.sign (r.header op) r.payload = r.trailer then
          ((.pass (some a) (if !x.authed then .user else if x.maint then .maintenance else .officer) (x.authed && x.zeroAuth)),
           { s with chan := { s.chan with sessions := s.chan.sessions.put r.session.toNat { x with seq := x.seq + 1 } } })
        else
          (.fail St.integrity, if op = 0x21 then s.authFailed (if x.maint then 2 else 1) r.carrier else s)

/-- Whether a role satisfies what a command needs (R67). -/
def Role.meets (have_ needed : Role) : Bool := needed = .user || have_ = needed

/-! ### Transactions' part in the checks (R76 to R81) -/

/-- The open transaction that a request names on its own carrier (R77). -/
def State.txnOf (s : State) (r : Req) : Option Txn :=
  match s.chan.txns.look r.txn.toNat with
  | some t => if t.carrier = r.carrier && !t.closing then some t else none
  | none => none

/-- A failed check dooms the transaction a request was to be staged in; the first failure is kept (R80, R81). -/
def State.doom (s : State) (r : Req) (status detail off : Nat) : State :=
  match s.txnOf r with
  | none => s
  | some t =>
    match t.fail with
    | some _ => s
    | none =>
      let f : TxnFail := { locator := r.target.toNat + off, status := status, detail := detail, index := t.staged.length }
      { s with chan := { s.chan with txns := s.chan.txns.put r.txn.toNat { t with fail := some f } } }

/-- Order 8 of R49: IN_TXN and TXN (R76, R77, R80). -/
def State.checkTxn (s : State) (op : Nat) (stageable : Bool) (r : Req) : Chk :=
  if r.inTxn then
    match s.txnOf r with
    | none => some (St.badParam, 2)
    | some t =>
      if t.fail.isSome then some (St.txnAborted, 0)
      else if !stageable then some (St.badParam, 2)
      else none
  else if r.txn ≠ 0 && op ≠ 0x111 && op ≠ 0x112 then some (St.badParam, 2)
  else none

/-- Offset, from TARGET, of the word at which a block write failed a check of orders 9 and 10 (R81): ROLE_DENIED is that of ENG_CTRL (R31). -/
def failOffset (op : Nat) (r : Req) (status detail : Nat) : Nat :=
  if op = 0x101 then
    (if status = St.badLocator then 4 * detail else if status = St.badParam then detail / 4 * 4
     else if status = St.roleDenied then 8 - locOff r.target.toNat else 0)
  else 0

/-! ### Taking a request (R45, R49 orders 2 to 10, R64, R78) -/

/-- A request refused by its checks: a request to be staged dooms its transaction (R80), and the refusal is answered. -/
def State.refuse (s : State) (t : Taken) (status detail : Nat) (payload : List Byte := []) (off : Nat := 0) : State :=
  let order := s.chan.order
  let s := { s with chan := { s.chan with order := order + 1 } }
  let s := if t.req.inTxn && status ≠ St.txnAborted then s.doom t.req status detail off else s
  s.reply t order status detail payload

/-- The unit of a staged command (R495), as its domain's number. -/
def State.stagedUnit (s : State) (op : Nat) (r : Req) : Nat :=
  match op with
  | 0x0101 | 0x0102 => engDomain r.eng
  | 0x0601 | 0x0623 | 0x0624 | 0x0626 => 12
  | 0x0700 | 0x0701 | 0x0702 | 0x0703 | 0x0220 | 0x0204 | 0x0222 | 0x0225 => 13
  | 0x0400 | 0x0401 | 0x0404 => 10
  | 0x0203 => 4 + ((s.pon.vts.look (fld r.payload 1 1)).map (·.channel)).getD 0
  | 0x0300 => if fld r.payload 0 1 < 32 then 8 else 9
  | _ => 11

/-- A transaction closes to staging when its commit or abort is taken (R77). -/
def State.closeStaging (s : State) (op : Nat) (r : Req) : State :=
  if op = 0x111 || op = 0x112 then
    match s.txnOf r with
    | some t => { s with chan := { s.chan with txns := s.chan.txns.put r.txn.toNat { t with closing := true } } }
    | none => s
  else s

/-- Orders 5 to 10 of R49 for a command; the request is staged, taken to start later, or refused. -/
def State.judge (c : Cmd) (r : Req) (s : State) : State :=
  let turn (s : State) (t : Taken) (st d : Nat) (payload : List Byte := []) (off : Nat := 0) : State :=
    c.refused st (s.refuse t st d payload off)
  match s.checkAuth c.op r with
  | (.fail st, s1) =>
    let s2 := turn s1 { op := c.op, req := r, auth := none, role := .user } st 0
    if st = St.integrity then s2.closeSession r.session.toNat 2 else s2
  | (.pass auth role only, s1) =>
    let t : Taken := { op := c.op, req := r, auth := auth, role := role }
    if c.signed && !r.officer then turn s1 t St.roleDenied 0
    else if only && c.op ≠ 0x22 && c.op ≠ 0x23 then turn s1 t St.roleDenied 0
    else if !role.meets c.role then turn s1 t St.roleDenied 0
    else if !c.len r.payload.length then turn s1 t St.badLength 0
    else
      match Chk.andThen (c.fits r s1) (s1.checkTxn c.op c.stage r) with
      | some (st, d) =>
        turn s1 t st d (if st = St.txnAborted then (((s1.txnOf r).bind (·.fail)).map (·.payload)).getD [] else [])
      | none =>
        match Chk.andThen (c.target r s1) (c.params role r s1) with
        | some (st, d) => turn s1 t st d [] (failOffset c.op r st d)
        | none =>
          if r.inTxn then
            match s1.txnOf r with
            | none => turn s1 t St.badParam 2
            | some x =>
              if x.staged.length ≥ 1024 then turn s1 t St.exhausted 0
              else
                let t := { t with unit := s1.stagedUnit c.op r }
                { s1 with chan := { s1.chan with txns := s1.chan.txns.put r.txn.toNat { x with staged := x.staged ++ [t] } } }.replyNow
                  t St.ok
          else
            match s1.takeCtx c.op with
            | (none, s2) => turn s2 t St.busy 3
            | (some k, s2) => { s2 with chan := { s2.chan with taken := s2.chan.taken ++ [{ t with ctx := k }] } }.closeStaging c.op r

/-- Tags outstanding on a request's carrier (R45). -/
def State.tagsOut (s : State) (k : Carrier) : List Nat := (s.chan.tags.filter fun x => x.1.sameSpace k).map (·.2)

/-- `State.doom` for a request that was to be staged. -/
def State.doomIf (s : State) (t : Taken) (status detail : Nat) : State :=
  if t.req.inTxn then s.doom t.req status detail 0 else s

/-- Orders 2 and 3 of R49, then `go` with the tag held; BUSY, TAG 0 and COLLISION replies hold no tag (R45). -/
def State.takeTag (s : State) (op : Nat) (r : Req) (off : Nat → State → State) (go : State → State) : State :=
  let t : Taken := { op := op, req := r, auth := none, role := .user }
  let order := s.chan.order
  let bump := { s with chan := { s.chan with order := order + 1 } }
  if (s.tagsOut r.carrier).length ≥ r.carrier.tagLimit then
    off St.busy ((bump.doomIf t St.busy 1).reply t order St.busy 1 [] false)
  else if r.tag = 0 then off St.badParam ((bump.doomIf t St.badParam 2).reply t order St.badParam 2 [] false)
  else if (s.tagsOut r.carrier).contains r.tag.toNat then 
    off St.collision ((bump.doomIf t St.collision 0).reply t order St.collision 0 [] false)
  else
    let s := { s with chan := { s.chan with tags := s.chan.tags ++ [(r.carrier, r.tag.toNat)] } }
    if r.flags &&& 0xF0#8 ≠ 0 then off St.badParam (s.refuse t St.badParam 2) else go s

/-- The part takes a request for command `c`, where the command engine takes packets (R49, VS_STATUS.READY). -/
def State.take (c : Cmd) (r : Req) (s : State) : State :=
  if s.on engCmd VS.READY then s.takeTag c.op r c.refused fun s => State.judge c r s else s

/-! ### Starting (R63, R64) -/

/-- Two commands whose take order is kept (R64). -/
def Req.conflicts (a b : Req) : Bool := a.target = 0 || b.target = 0 || a.eng == b.eng

/-- The request's record among those taken. -/
def State.findTaken (s : State) (op : Nat) (r : Req) : Option Taken :=
  s.chan.taken.find? fun t => t.op == op && t.req == r

/-- The records taken before `t`. -/
def takenBefore (ts : List Taken) (t : Taken) : List Taken := ts.takeWhile fun u => !(u == t)

/-- Whether a command that waits has not taken effect yet: it waits for the DRBG, for an engine, for a copy, for its turn or boundary, or for the
engine to which the later words of its block go. -/
def Why.pends : Why → Bool
  | .commitSplice _ | .commitTurn | .rng _ _ _ | .engineRun _ | .reissue _ | .unit _ => true
  | .rest _ staged => !staged
  | _ => false

/-- No earlier command of its own ring or carrier must take effect first (R64), nor an earlier TXN_COMMIT of any (R79). -/
def State.unblocked (s : State) (t : Taken) : Bool :=
  let first (u : Taken) : Bool := u.req.carrier == t.req.carrier && u.req.conflicts t.req || u.op = 0x0111 && t.op = 0x0111
  ((takenBefore s.chan.taken t).all fun u => !first u) && s.chan.waits.all fun w => !(w.why.pends && first w.cmd && !(w.cmd.op = 0x0111 && t.op = 0x0111))

/-- `a` starts ahead of `b` when both may start (R64): urgent, then carrier priority; equal ones in take order. -/
def Taken.outranks (a b : Taken) : Bool :=
  a.req.urgent && !b.req.urgent ||
    a.req.urgent == b.req.urgent && decide (b.req.carrier.priority < a.req.carrier.priority)

/-- Whether `t` is the next command its executor starts (R64). -/
def State.isNext (s : State) (t : Taken) : Bool :=
  s.unblocked t &&
    (s.chan.taken.all fun u =>
      u == t || u.started || hwOp u.op != hwOp t.op || !s.unblocked u ||
        !(u.outranks t || (!t.outranks u && (takenBefore s.chan.taken t).contains u)))

/-- Whether domain `d` is asleep: not awake, and released from reset, or left asleep at the release until its first access
(R25, R414, R422). In recovery state no other domain than AON, MGT and HOST is released (R429). -/
def State.asleep (s : State) (d : Nat) : Bool :=
  !bitOf (s.rf engWake WK.AWAKE) d && d < 15 && !(d = 2 && s.boot.hostHeld) &&
    (bitOf (s.rf engRst RST.RELEASED) d || (s.boot.phase = .up && !s.on engTake TK.RECOVERY))

/-- Whether the firmware answers nothing: an SRAM error stopped it, or MGT is asleep (R412, R432). -/
def State.fwStops (s : State) : Bool := s.boot.fwDead || s.asleep 1

/-- The units of a commit in progress, and of those whose reply has not been written (R79), by domain. -/
def State.heldUnits (s : State) : Nat :=
  (s.chan.pcieReplies ++ s.chan.uartReplies ++ s.chan.bandReplies).foldl (fun m p => m ||| p.holds) (s.chan.committing.getD 0)

/-- The domain that a command waits for: asleep, or named by a commit in progress (R25, R79). The command engine needs HOST, and
firmware MGT. -/
def State.heldBy (s : State) (c : Cmd) (r : Req) : Option Nat :=
  let ds := 2 :: (if hwOp c.op then [] else [1]) ++ c.domains r s
  match ds.find? fun d => s.asleep d with
  | some d => some d
  | none =>
    if c.op = 0x0111 then none else (c.domains r s).find? fun d => bitOf s.heldUnits d

/-- Whether a request reads nothing but ENG_ID and ENG_STATE, which neither a soft reset nor a sleeping domain holds up (R25, R29). -/
def Req.readsState (r : Req) (op : Nat) : Bool := op = 0x0100 && decide (locOff r.target.toNat + 4 * fld r.payload 0 2 ≤ 8)

/-- Whether the target engine is in a soft reset, so that the access waits (R29). -/
def State.inSoftReset (s : State) (op : Nat) (r : Req) : Bool := r.target ≠ 0 && !r.readsState op && s.on r.eng HDR.SRST

/-- Answer by the state of an engine that the command needs (R491). -/
def State.needEngine (s : State) (op e : Nat) : Chk :=
  if s.engState e = 2 then none
  else if s.engState e = 1 || s.engState e = 3 then some (St.busy, 2)
  else if s.engState e = 4 || s.engState e = 5 then some (St.unitFailed, 0)
  else if e = engDrbg && op ≠ 0x0629 then some (St.rngFail, 0)
  else some (St.notReady, 0)

/-- Whether the error state refuses the command (R285). -/
def errorDenied (op : Nat) : Bool :=
  [0x0020, 0x0021, 0x0022, 0x0023, 0x0620, 0x0621, 0x0623, 0x0624, 0x0625, 0x0626, 0x0601, 0x0622, 0x0602, 0x0628, 0x0629].contains op

/-- What every command meets first at order 11: recovery state (R66), the engines it needs (R491), the error state (R285). -/
def Cmd.first (c : Cmd) (r : Req) (s : State) : Chk :=
  checks
    [need (!(s.on engCmd VS.RECOVERY && !c.recovery)) St.notReady,
     checks ((c.needs r).map fun e => s.needEngine c.op e),
     need (!(s.on engKeys KS.CRYPTO_ERR && errorDenied c.op)) St.unitFailed]

/-- What a command does at order 11 and after. -/
def Cmd.run (c : Cmd) (role : Role) (r : Req) (s : State) : Act :=
  match c.first r s with
  | some f => Act.fail (c.refused f.1 s) f
  | none => c.act role r s

/-- A command that may start is carried out and answered, or its answer waits. Its reply precedes the cues it causes (R62). -/
def State.start (c : Cmd) (t : Taken) (s : State) : State :=
  let order := s.chan.order
  let s := { s with chan := { s.chan with order := order + 1, taken := s.chan.taken.filter fun u => !(u == t) } }
  let a := c.run t.role t.req s
  match a.wait with
  | some w => a.st.awaits order w t
  | none => a.st.reply t order a.status a.detail a.payload true none a.holds

/-- A waiting command tried again: it is answered, ahead of the cues it causes (R62), or waits on for the reason it gives. -/
def State.retry (s : State) (w : Wait) (act : State → Act) : State :=
  let order := s.chan.order
  let a := act { s with chan := { s.chan with order := order + 1 } }
  match a.wait with
  | some y =>
    let c := a.st.chan.cuesBehind order w.id
    { a.st with chan := { c with waits := c.waits.map fun x => if x == w then { x with why := y } else x } }
  | none =>
    { a.st with chan := { a.st.chan with waits := a.st.chan.waits.filter fun x => !(x == w) } }.reply w.cmd order a.status a.detail a.payload
      true (some w.id) a.holds

/-- The meaning of a host command. The request is first taken, where it has not been; it starts when it is next (R64) and
neither a sleeping domain (R25), a soft reset of its target (R29), a commit (R79) nor stopped firmware (R432) holds it. -/
def runCmd (c : Cmd) (r : Req) (s : State) : State :=
  let s := match s.findTaken c.op r with
    | some _ => s
    | none => State.take c r s
  match s.findTaken c.op r with
  | none => s
  | some t =>
    if !t.started && !s.isNext t then s
    else
      let hold (s : State) : State :=
        { s with chan := { s.chan with taken := s.chan.taken.map fun u => if u == t then { u with started := true } else u } }
      if s.boot.fwDead && !hwOp c.op then hold s
      else
      match s.heldBy c r with
      | some _ => hold s
      | none => if s.inSoftReset c.op r then hold s else State.start c t s

end Sys2Proof.Machine
end

