-- ==== Sys2Proof/Machine/Engine.lean ====
section
/-! DEFINITION. The engine state machine (R16, R21 to R33, R489): requests, soft resets, failures, and the cues of an engine
that comes to rest. -/
namespace Sys2Proof.Machine

/-- Whether an engine sleeps with its domain: the PCIe endpoint does not sleep while HOST does (R41). -/
def State.sleeping (s : State) (e : Nat) : Bool := s.asleep (engDomain e) && e ≠ engEndpoint

/-- ENG_STATE as a word; ASLEEP reads 1 while the domain sleeps (R21, R25). -/
def State.engStateWord (s : State) (e : Nat) : Nat :=
  s.engState e + 256 * s.rf e HDR.REARM + 512 * s.rf e HDR.PEND_OFF + 1024 * bit (s.sleeping e)

/-- ENG_FAULT as a word. -/
def State.engFaultWord (s : State) (e : Nat) : Nat :=
  s.rf e HDR.ECC_UE + 2 * s.rf e HDR.ECC_TREND + 4 * s.rf e HDR.SELFTEST + 8 * s.rf e HDR.WATCHDOG +
    16 * s.rf e HDR.WAKE_FAIL + 256 * s.rf e HDR.KIND_FAULT

/-- The clock leaves ON: AON carries part time from here (R387). -/
def State.clockOff (s : State) : State :=
  match s.clk.carried with
  | some _ => s
  | none => { s with clk := { s.clk with carried := some s.partTime } }

/-- The clock returns to ON and takes up part time from AON's count (R387); LOCKED becomes HOLDOVER (R394). -/
def State.clockOn (s : State) : State :=
  match s.clk.carried with
  | none => s
  | some p =>
    let s := { s with clk := { s.clk with carried := none, base := s.clk.count, offset := (p : Int) - s.clk.count, part := p } }
    if s.clk.state = 1 then
      let s := { s with clk := { s.clk with state := 2 } }.bump engClk CLK.TM_HOLDOVERS
      s.cue 0x8002 ([3, byte s.clk.source, 0, 0] ++ le 4 (unsigned 32 s.clk.rate))
    else s

/-- STATE of an engine set; its outputs are clamped from FAILED on, and released in ON (R15, R27). A cipher engine that wakes untested is held by the self-test
(R244). -/
def State.setEng (s : State) (e st : Nat) : State :=
  let was := s.engState e
  let s := if e = engClk && was = 2 && st ≠ 2 then s.clockOff else s
  let s := s.wf e HDR.STATE st
  let s := if st = 1 && kind e = 0x40 && !(s.ex e).selfTested then s.wf e CX.OWNER 6 else s
  let s := if st = 2 then s.modEx e fun x => { x with driving := true } else if st = 4 then s.modEx e fun x => { x with driving := false } else s
  if e = engClk && st = 2 then s.clockOn else s

/-- Payload of ENGINE_ON and ENGINE_OFF (R33). -/
def State.engCue (s : State) (e : Nat) : List Byte := le 4 (locOf e) ++ le 4 (s.engStateWord e)

/-- An engine comes to rest in ON or OFF: one cue where a request, or a soft reset out of FAILED, owes one (R28, R489). -/
def State.restIn (s : State) (e st : Nat) : State :=
  let s := s.setEng e st
  let x := s.ex e
  let s' := s.modEx e fun x => { x with cueDue := false, fromFailed := false, quiet := false, softFrom := 0 }
  if (x.cueDue || x.fromFailed) && !x.quiet then s'.cue (if st = 2 then 0x1010 else 0x1011) (s'.engCue e) else s'

/-- Initialisation of a WAKING engine is complete (R27): ON, or with PEND_OFF DRAINING. -/
def State.initDone (s : State) (e : Nat) : State :=
  if s.on e HDR.PEND_OFF then (s.wf e HDR.PEND_OFF 0).setEng e 3 else s.restIn e 2

/-- A request of ENABLE, by the table of R27 and the replies of R28. -/
def State.requestEnable (s : State) (e : Nat) (on : Bool) : Nat × State :=
  let due (s : State) : State := s.modEx e fun x => { x with cueDue := true }
  let en (s : State) : State := s.wf e HDR.ENABLE (bit on)
  match s.engState e with
  | 0 => if on then (St.ok, due ((en s).setEng e 1)) else (St.noChange, en s)
  | 1 =>
    if s.on e HDR.PEND_OFF then
      if on then (St.deferred, due ((en s).wf e HDR.PEND_OFF 0)) else (St.ok, due (en s))
    else if on then (St.ok, due (en s)) else (St.deferred, due ((en s).wf e HDR.PEND_OFF 1))
  | 2 => if on then (St.noChange, en s) else (St.ok, due ((en s).setEng e 3))
  | 3 =>
    if s.on e HDR.REARM then
      if on then (St.ok, due (en s)) else (St.deferred, due ((en s).wf e HDR.REARM 0))
    else if on then (St.deferred, due ((en s).wf e HDR.REARM 1)) else (St.ok, due (en s))
  | _ => (St.unitFailed, s)

/-- Fields that a soft reset leaves (R24). STATE, REARM, PEND_OFF and SRST are the state machine's own. -/
def softKeeps (s : State) (e : Nat) (f : Fld) : Bool :=
  f = HDR.ENABLE || f.off = 0x0C || f.off = 0x10 || f.off = 0x14 || f.off = 0x04 && f.lo ≤ 9 || f = HDR.SRST ||
    kind e = 0x42 && f = RNG.STATE && s.rf e RNG.STATE = 3

/-- A soft reset begins (R24, R489): the fields return to their reset values, SRST reads 1, and an engine in ON or WAKING
reads WAKING. What the engine was working on is the owning family's to discard. -/
def State.beginSoftReset (s : State) (e : Nat) : State :=
  let s := (s.resetFlds e (softKeeps s e)).wf e HDR.SRST 1
  let st := s.engState e
  if st = 1 || st = 2 then
    ((s.wf e HDR.PEND_OFF 0).setEng e 1).modEx e fun x => { x with softFrom := 1 }
  else s

/-- An engine enters FAILED (R27): outputs clamped, cue ENGINE_FAILED (R33), record 0x0003 (R447). -/
def State.failEngine (s : State) (e : Nat) : State :=
  if s.engState e = 5 || s.engState e = 4 then s
  else
    let s := (((s.wf e HDR.REARM 0).wf e HDR.PEND_OFF 0).setEng e 4).modEx e fun x =>
      { x with cueDue := false, softFrom := 0, fromFailed := false, quiet := false }
    (s.cue 0x1012 (s.engCue e ++ le 4 (s.engFaultWord e))).logEng 0x0003 e (le 4 (s.engFaultWord e))

/-- The bit of ENG_FAULT that a cause sets (R21). -/
def State.setFault (s : State) (e : Nat) (c : FaultCause) : State :=
  match c with
  | .eccUe => s.wf e HDR.ECC_UE 1
  | .eccTrend => s.wf e HDR.ECC_TREND 1
  | .selftest => s.wf e HDR.SELFTEST 1
  | .wakeFail => s.wf e HDR.WAKE_FAIL 1
  | .kindSpecific b => s.wf e HDR.KIND_FAULT (s.rf e HDR.KIND_FAULT ||| b.toNat)

/-- Whether a unit's own window refuses writes: an idle spare, or a spare that serves a logical engine (R23). -/
def State.spareLocked (s : State) (e : Nat) : Bool :=
  isSpareWin e && (s.engState e = 6 || s.rf e HDR.LUNIT ≠ 0xFF)

/-- Whether an engine accepts datapath work (R30): ON, in a domain that is awake. -/
def State.works (s : State) (e : Nat) : Bool := s.isOn e && !s.sleeping e

/-- The physical unit that serves a logical engine, by engine number (R21). -/
def State.punit (s : State) (e : Nat) : Nat := s.rf e HDR.PUNIT

end Sys2Proof.Machine
end

