-- ==== Sys2Proof/Machine/Pins.lean ====
section
/-! DEFINITION. The pins that follow the state at once: PBENn and PPS_OUT (R15, R402, R465, R467, R469). -/
namespace Sys2Proof.Machine

/-- What an LVCMOS output of 1.8 V shows: its level, or high impedance while VDD_IO is below its operating range (R469). -/
def State.ioDrive (s : State) (level : Bool) : Drive := if s.boot.ioLow then .hiZ else if level then .high else .low

/-- PBENn (R467): high impedance until TX_EN is first 1, then inactive as PBEN_POL says except during a burst; inactive while its PMD's clamp holds
(R15). -/
def State.pbenDrive (s : State) (ch : Nat) : Drive :=
  if !((s.pon.chs.get ch {}).pben) then .hiZ
  else s.ioDrive ((s.on (engPmd ch) PMD.TX_BURST && (s.ex (engPmd ch)).driving) != s.on (engPmd ch) PMD.PBEN_POL)

/-- PPS_OUT (R402). -/
def State.ppsDrive (s : State) : Drive := s.ioDrive s.clk.ppsHigh

/-- A change from `s` shows on PBENn and PPS_OUT. -/
def State.pins (s t : State) : State :=
  let t := (List.range 4).foldl (fun t ch => if t.pbenDrive ch = s.pbenDrive ch then t else t.emit (.pin (.pben ch) (t.pbenDrive ch))) t
  if t.ppsDrive = s.ppsDrive then t else t.emit (.pin .ppsOut t.ppsDrive)

/-- PPS_OUT's level. -/
def State.setPps (s : State) (high : Bool) : State := s.pins { s with clk := { s.clk with ppsHigh := high } }

/-! ### Balls of the client lanes (R461, R466) -/

/-- The letters of row index `r`, 1 to 51 (R461). -/
def rowName (r : Nat) : String :=
  let ls := ["A", "B", "C", "D", "E", "F", "G", "H", "J", "K", "L", "M", "N", "P", "T", "U", "V", "W", "Y"]
  let x := ls.getD ((r - 1) % 19) ""
  if r ≤ 19 then x else if r ≤ 38 then "A" ++ x else "B" ++ x

/-- The slot of lane `n` (R466). -/
def laneSlot (n : Nat) : Nat :=
  if n < 32 then n else if n < 64 then n + 2 else if n < 66 then n - 32 else n

/-- Row index and column of CTXPn, CTXNn, CRXPn and CRXNn (R466). -/
def laneBalls (n : Nat) : List (Nat × Nat) :=
  let k := laneSlot n
  let c := 30 + 5 * (k / 17)
  let r := 1 + 3 * (k % 17)
  [(r, c), (r, c + 1), (r + 1, c + 2), (r + 1, c + 3)]

/-- The name of a ball (R461). -/
def ballName (b : Nat × Nat) : String := rowName b.1 ++ toString b.2

end Sys2Proof.Machine
end

