-- ==== Sys2Proof/Machine/TimeBase.lean ====
section
/-! DEFINITION. How part time runs, and the clock's state machine (R387 to R394). -/
namespace Sys2Proof.Machine

/-! ### Part time runs (R387, R389, R390) -/

/-- The period of SLOWCLK, 30,517.578125 ns, in units of 2^-32 ns. -/
def slowPeriod : Nat := 131072000000000

/-- INCR of Model I: the nominal tick with the rate, rounded to 2^-32 ns (R390). -/
def Clock.incr (c : Clock) : Nat := (((nominalTick : Int) * (2 ^ 40 + c.rate) + 2 ^ 39) / 2 ^ 40).toNat

/-- `n` periods as true time: REFCLK ticks, or SLOWCLK periods while AON carries part time. -/
def Clock.period (c : Clock) : Nat := if c.carried.isSome then slowPeriod else nominalTick

/-- How far part time runs in one period, but for a slew. -/
def State.periodRated (s : State) : Nat :=
  match s.clk.carried with
  | some _ => (((slowPeriod : Int) * (2 ^ 40 + s.clk.rate)) / 2 ^ 40).toNat
  | none => s.clk.incr

/-- Part time moved by `d` units beside its ticks: OFFSET in Model C, the counter in Model I (R390). -/
def State.shiftPart (s : State) (d : Int) : State :=
  let c := s.clk
  match c.carried with
  | some p => { s with clk := { c with carried := some (p + d).toNat } }
  | none =>
    if s.rf engClk CLK.MODEL = 1 then { s with clk := { c with part := (c.part + d).toNat } }
    else { s with clk := { c with offset := c.offset + d } }

/-- `n` periods tick by. -/
def State.ticks (s : State) (n : Nat) : State :=
  let c := s.clk
  let s := { s with elapsed := s.elapsed + n * c.period }
  match c.carried with
  | some p => { s with clk := { c with carried := some (p + n * s.periodRated) } }
  | none =>
    let c := { c with count := c.count + n * nominalTick }
    { s with clk := if s.rf engClk CLK.MODEL = 1 then { c with part := c.part + n * c.incr } else c }

/-- `n` periods pass. A slew absorbs half of what part time would gain (R389); no sample measured before its end is used (R393). -/
def State.pass (s : State) (n : Nat) : State :=
  let left := s.clk.slewLeft
  let ends : Int := ((s.partTime + left) / 2 ^ 32 : Nat) - 1
  let cut := min left (n * s.periodRated / 2)
  let s := (s.ticks n).shiftPart (-cut)
  let s := { s with clk := { s.clk with slewLeft := left - cut } }
  if left ≠ 0 && cut = left then { s with clk := { s.clk with barredNs := ends } } else s

/-- Periods that bring part time forward by `d` units, `rated` units in each. -/
def periodsFor (d rated : Nat) : Nat := (d + rated - 1) / rated

/-- Periods until part time reaches `t`, with what a slew still absorbs. -/
def State.periodsTo (s : State) (t : Nat) : Nat :=
  let d := t - s.partTime
  periodsFor (d + min s.clk.slewLeft d) s.periodRated

/-- The rate changed: Model C folds the old one into OFFSET and sets BASE to COUNT (R390). -/
def State.setRate (s : State) (rate : Int) : State :=
  let c := s.clk
  if s.rf engClk CLK.MODEL = 1 then { s with clk := { c with rate := rate } }
  else { s with clk := { c with offset := c.offset + c.rate * ((c.count : Int) - c.base) / 2 ^ 40, base := c.count, rate := rate } }

/-! ### The clock's state machine (R392 to R394) -/

/-- Into HOLDOVER, with the rate in force held and cue TIME_HOLDOVER. -/
def State.toHoldover (s : State) (cause : Nat) : State :=
  let s := { s with clk := { s.clk with state := 2, armed := false } }.bump engClk CLK.TM_HOLDOVERS
  s.cue 0x8002 ([byte cause, byte s.clk.source, 0, 0] ++ le 4 (unsigned 32 s.clk.rate))

/-- The source changes (R392): LOCKED and JUMPED become HOLDOVER. -/
def State.sourceChanged (s : State) (cause : Nat) : State :=
  let s := { s with clk := { s.clk with firstSample := true } }
  if s.clk.state = 1 || s.clk.state = 3 then s.toHoldover cause else s

/-- The active parent switches while SOURCE = PON: no PON sample until TIME_SOURCE gives the new parent's reference (R392). -/
def State.parentSwitched (s : State) : State :=
  if s.clk.source = 1 then ({ s with clk := { s.clk with refStale := true } }).sourceChanged 2 else s

end Sys2Proof.Machine
end

