-- ==== Sys2Proof/Machine/Log.lean ====
section
/-! DEFINITION. The continuity log's window, mirror and slate (R440 to R446). -/
namespace Sys2Proof.Machine

/-- A record's 64 bytes (R440). -/
def LogRec.bytes (r : LogRec) : List Byte :=
  let b := le 4 r.hours ++ le 2 r.minsec ++ le 4 r.cycles ++ le 2 r.reps ++ le 4 r.seq ++ le 2 r.event ++ [byte r.severity, byte r.domain] ++
    le 4 r.locator ++ le 6 r.sec ++ [0, 0] ++ (r.data ++ zeros 28).take 28
  b ++ le 4 (crc32 b).toNat

/-! ### The window (R444) -/

/-- A SEQ written to CURSOR, or reached with AUTO: the record is copied into WINDOW. -/
def State.setCursor (s : State) (v : Nat) : State :=
  let r := s.log.records.find? fun r => r.seq = v % 2 ^ 32
  ({ s with log := { s.log with window := (r.map LogRec.bytes).getD (zeros 64) } }.wf engLog LOG.CURSOR v).wf engLog LOG.VALID (bit r.isSome)

/-- CURSOR_WRITE (R444). -/
def execCursorWrite (v : Word) (s : State) : Host.Outcome State Fault Refusal := .next (s.setCursor v.toNat)

/-- A read of the last WINDOW word. -/
def State.windowRead (s : State) : State := if s.on engLog LOG.AUTO then s.setCursor (s.rf engLog LOG.CURSOR + 1) else s

/-- WINDOW_AUTO_READ (R444). -/
def execWindowAutoRead (s : State) : Host.Outcome State Fault Refusal := .next s.windowRead

/-! ### The mirror (R445) -/

/-- Records not yet mirrored, oldest first. -/
def LogSt.unmirrored (l : LogSt) : List LogRec := l.records.filter fun r => !ahead 32 l.mirrorNext r.seq

/-- Of those, the closed ones. -/
def State.closedRecs (s : State) : List LogRec :=
  s.log.unmirrored.filter fun r => r.seq + 1 ≠ s.log.nextSeq || decide (r.lastAt + tenSeconds ≤ s.elapsed)

/-- The ring of sectors cut to the good ones of its 65. -/
def ringCut (bad : Nat) (m : List (List LogRec)) : List (List LogRec) := m.drop (m.length - (65 - bad))

/-- One record into the mirror: a new sector, erased first, after 64. -/
def mirrorPut (bad : Nat) (m : List (List LogRec)) (r : LogRec) : List (List LogRec) :=
  match m.getLast? with
  | some t => if t.length < 64 then m.dropLast ++ [t ++ [r]] else ringCut bad (m ++ [[r]])
  | none => [[r]]

/-- Records written to the mirror; `fails` sectors failed their erase or program and were skipped. -/
def State.mirror (s : State) (rs : List LogRec) (fails : Nat) : State :=
  let l := s.log
  let bad := min 64 (l.norBad + fails)
  let m := rs.foldl (mirrorPut bad) (ringCut bad l.mirror)
  let next := (rs.getLast?.map fun r => (r.seq + 1) % 2 ^ 32).getD l.mirrorNext
  { s with log := { l with mirror := m, mirrorNext := next, norBad := bad } }.bumpN engLog LOG.MIRROR_FAIL fails

/-- LOG_MIRROR_WRITE (R445): 64 closed records wait. `fails` as in `State.mirror`. -/
def execLogMirrorWrite (fails : Fin 65) (s : State) : Host.Outcome State Fault Refusal :=
  let rs := s.closedRecs
  if rs.length < 64 || s.fwStops then .next s else .next (s.mirror rs fails.val)

/-! ### Operating time (R441) -/

/-- One operating hour as `elapsed` counts. -/
def oneHour : Nat := usUnits 3600000000

/-- A slate entry appended; a full sector erases the other one and goes on there. -/
def State.slate (s : State) : State :=
  let l := s.log
  let x : Slate := { hours := l.hours, minsec := s.minsec, cycles := l.cycles }
  { s with log := { l with slates := (if l.slates.length ≥ 512 then l.slates.drop 256 else l.slates) ++ [x] } }

/-- HOURLY_SLATE (R441): time passes up to the whole hour where it has not. -/
def execHourlySlate (s : State) : Host.Outcome State Fault Refusal :=
  let left := s.log.hourAt + oneHour - s.elapsed
  let s := if left = 0 then s else s.pass ((left + s.clk.period - 1) / s.clk.period)
  .next ({ s with log := { s.log with hours := satAdd 0xFFFFFFFF s.log.hours 1, hourAt := s.log.hourAt + oneHour } }.slate)

/-- An orderly power-down (R441, R445): every record mirrored, a slate entry appended. -/
def State.orderlyDown (s : State) : State := (s.mirror s.log.unmirrored 0).slate

/-- The log and the slate at power-on (R441, R445): rebuilt from NOR, one more power cycle. -/
def State.rebuildLog (s : State) : State :=
  let l := s.log
  let rs := l.mirror.flatMap id
  let rs := rs.drop (rs.length - 4096)
  let next := (rs.getLast?.map fun r => (r.seq + 1) % 2 ^ 32).getD 0
  let (h, c) := (l.slates.getLast?.map fun x => (x.hours, x.cycles)).getD (0, 0)
  { s with log := { mirror := l.mirror, norBad := l.norBad, slates := l.slates, records := rs, nextSeq := next, mirrorNext := next,
                    hours := h, cycles := satAdd 0xFFFFFFFF c 1, hourAt := s.elapsed } }

/-- LOG_CLEAR (R446). -/
def logClearCmd : Cmd where
  op := 0x0A04
  role := .officer
  len := fun n => n = 0
  act := fun _ r s =>
    if s.boot.update.isSome then .say s St.busy 9
    else
      let s := { s with log := { s.log with records := [], overrun := 0, mirror := [], mirrorNext := s.log.nextSeq } }
      .say (s.logEng 0x0012 engLog (le 2 r.session.toNat)) St.ok

/-- LOG_CLEAR (R446). -/
def execLogClear (r : Req) (s : State) : Host.Outcome State Fault Refusal := .next (runCmd logClearCmd r s)

end Sys2Proof.Machine
end

