-- ==== Sys2Proof/Machine/Parser.lean ====
section
/-! DEFINITION. The parser: the headers it recognises, layers and tunnels, the parse window, the parse record (R292 to R295). -/
namespace Sys2Proof.Machine

/-- What the parser has found: FLAGS and STOP, tunnel layers, the 12 offsets (0xFF absent), the L3 and L4 types by layer, the special header, the tags of
layer 0, the MPLS labels of all layers, PCP. -/
structure Parse where
  flags : Nat := 0
  stop : Nat := 0
  layers : Nat := 0
  offs : List Nat := List.replicate 12 0xFF
  l3 : List Nat := [0, 0, 0]
  l4 : List Nat := [0, 0, 0]
  special : Nat := 0
  offSpecial : Nat := 0xFF
  tags : Nat := 0
  labels : Nat := 0
  pcp : Nat := 0
deriving DecidableEq, Repr

/-- A frame with FCS, the bytes of its window, and its bytes without FCS. -/
structure PWin where
  frame : List Byte
  win : Nat
  body : Nat

/-- Big-endian field of the frame. -/
def PWin.be (w : PWin) (off n : Nat) : Nat := beVal (part w.frame off n)

/-- Whether `n` bytes at `off` end within the window. -/
def PWin.has (w : PWin) (off n : Nat) : Bool := decide (off + n ≤ w.win)

/-- What the parser looks at next. -/
inductive PStage where
  | eth (layer off : Nat)
  | etherType (layer off n : Nat)
  | mpls (layer off n : Nat)
  | ipv4 (layer off : Nat)
  | ipv6 (layer off : Nat)
  | ext (layer next off n : Nat)
  | l4 (layer proto off : Nat)
  | fin

/-- Bits of FLAGS (R295). -/
def PF.trunc : Nat := 0
def PF.malformed : Nat := 1
def PF.deep : Nat := 2
def PF.tagLimit : Nat := 3
def PF.labelLimit : Nat := 4
def PF.extLimit : Nat := 5
def PF.ipFrag : Nat := 6
def PF.ipOpt : Nat := 7
def PF.group : Nat := 8
def PF.down : Nat := 9

def Parse.flag (p : Parse) (i : Nat) : Parse := { p with flags := p.flags ||| 2 ^ i }

/-- The parse stops at the window (R294). -/
def Parse.atWindow (p : Parse) : Parse × PStage := ({ p.flag PF.trunc with stop := 1 }, .fin)

/-- The parse stops at a header that breaks its length rules (R294). -/
def Parse.broken (p : Parse) : Parse × PStage := ({ p.flag PF.malformed with stop := 2 }, .fin)

/-- The parse stops at a limit. -/
def Parse.limit (p : Parse) (i : Nat) : Parse × PStage := ({ p.flag i with stop := 3 }, .fin)

/-- An offset recorded: `k` is 0 Ethernet, 1 L3, 2 L4, 3 tunnel. An offset past 254 has no code and stays absent. -/
def Parse.mark (p : Parse) (layer k off : Nat) : Parse := if off < 0xFF then { p with offs := p.offs.set (4 * layer + k) off } else p

def Parse.setL3 (p : Parse) (layer t off : Nat) : Parse := { p.mark layer 1 off with l3 := p.l3.set layer t }
def Parse.setL4 (p : Parse) (layer t off : Nat) : Parse := { p.mark layer 2 off with l4 := p.l4.set layer t }

/-- SPECIAL recorded. -/
def Parse.mkSpecial (p : Parse) (code off : Nat) : Parse := { p with special := code, offSpecial := if off < 0xFF then off else 0xFF }

/-- A special header of `n` bytes, which ends the parse; it too must end within the window (R292, R294). -/
def PWin.special (w : PWin) (p : Parse) (code off n : Nat) : Parse × PStage :=
  if w.has off n then (p.mkSpecial code off, .fin) else (p.mkSpecial code off).atWindow

/-- Bytes of a SecTAG after its EtherType: the SCI is there when SC is set (R233). -/
def PWin.secTagLen (w : PWin) (off : Nat) : Nat := if bitOf (w.be off 1) 5 then 14 else 6

/-- Bytes of a PTP header. PRESUMED: IEEE 1588 (log entry 70). -/
def ptpHeaderLen : Nat := 34

/-- The header after an EtherType (R292). The CES control word stands behind the ECID word (R181). -/
def PWin.after (w : PWin) (p : Parse) (layer t off : Nat) : Parse × PStage :=
  match t with
  | 0x8847 => (p, .mpls layer off 0)
  | 0x8848 => (p, .mpls layer off 0)
  | 0x0800 => (p, .ipv4 layer off)
  | 0x86DD => (p, .ipv6 layer off)
  | 0x88E5 => w.special p 1 off (w.secTagLen off)
  | 0x88B6 => w.special p 2 off 12
  | 0x88F7 => w.special p 3 off ptpHeaderLen
  | 0x88D8 => w.special p 4 (off + 4) 4
  | _ => (p, .fin)

/-- What a tunnel carries: the next layer begins there (R293). -/
def Parse.descend (p : Parse) (layer t off : Nat) : Parse × PStage :=
  let q := { p with layers := layer + 1 }
  match t with
  | 0x6558 => (q, .eth (layer + 1) off)
  | 0x0800 => (q, .ipv4 (layer + 1) off)
  | 0x86DD => (q, .ipv6 (layer + 1) off)
  | _ => (p, .fin)

/-- A tunnel header of type `t` in a layer; in layer 2 it sets DEEP (R293). -/
def Parse.tunnel (p : Parse) (layer t off : Nat) (go : Parse → Parse × PStage) : Parse × PStage :=
  let p := { p.mark layer 3 off with l4 := p.l4.set layer t }
  if layer = 2 then p.limit PF.deep else go p

/-- An Ethernet header. -/
def PWin.eth (w : PWin) (p : Parse) (layer off : Nat) : Parse × PStage :=
  let p := p.mark layer 0 off
  if !w.has off 14 then p.atWindow
  else (if layer = 0 && bitOf (w.be off 1) 0 then p.flag PF.group else p, .etherType layer (off + 12) 0)

/-- The EtherType at `off` behind `n` tags. -/
def PWin.etherType (w : PWin) (p : Parse) (layer off n : Nat) : Parse × PStage :=
  let t := w.be off 2
  if t = 0x8100 || t = 0x88A8 then
    if n = 4 then p.limit PF.tagLimit
    else if !w.has off 6 then p.atWindow
    else
      let p := if layer = 0 then { p with tags := n + 1, pcp := if n = 0 then w.be (off + 2) 1 / 32 else p.pcp } else p
      (p, .etherType layer (off + 4) (n + 1))
  else w.after p layer t (off + 2)

/-- An MPLS label behind `n` others. The L3 offset is the first label's until an IP header is found below the bottom label. -/
def PWin.mpls (w : PWin) (p : Parse) (layer off n : Nat) : Parse × PStage :=
  let p := if n = 0 then p.setL3 layer 3 off else p
  if n = 8 then p.limit PF.labelLimit
  else if !w.has off 4 then p.atWindow
  else
    let p := { p with labels := p.labels + 1 }
    if !bitOf (w.be (off + 2) 1) 0 then (p, .mpls layer (off + 4) (n + 1))
    else if off + 4 ≥ w.body then (p, .fin)
    else if !w.has (off + 4) 1 then p.atWindow
    else
      match w.be (off + 4) 1 / 16 with
      | 4 => (p, .ipv4 layer (off + 4))
      | 6 => (p, .ipv6 layer (off + 4))
      | _ => (p, .fin)

/-- An IPv4 header. -/
def PWin.ipv4 (w : PWin) (p : Parse) (layer off : Nat) : Parse × PStage :=
  let p := p.setL3 layer 1 off
  let ihl := w.be off 1 % 16 * 4
  if !w.has off 1 then p.atWindow
  else if w.be off 1 / 16 ≠ 4 || ihl < 20 then p.broken
  else if !w.has off 4 then p.atWindow
  else if off + w.be (off + 2) 2 > w.body then p.broken
  else if !w.has off ihl then p.atWindow
  else
    let p := if ihl > 20 then p.flag PF.ipOpt else p
    if w.be (off + 6) 2 % 2 ^ 13 ≠ 0 then (p.flag PF.ipFrag, .fin) else (p, .l4 layer (w.be (off + 9) 1) (off + ihl))

/-- An IPv6 header. -/
def PWin.ipv6 (w : PWin) (p : Parse) (layer off : Nat) : Parse × PStage :=
  let p := p.setL3 layer 2 off
  if !w.has off 1 then p.atWindow
  else if w.be off 1 / 16 ≠ 6 then p.broken
  else if !w.has off 40 then p.atWindow
  else if off + 40 + w.be (off + 4) 2 > w.body then p.broken
  else (p, .ext layer (w.be (off + 6) 1) (off + 40) 0)

/-- The header that an IPv6 next-header value names, behind `n` extension headers. -/
def PWin.ext (w : PWin) (p : Parse) (layer next off n : Nat) : Parse × PStage :=
  if next = 0 || next = 43 || next = 44 || next = 60 then
    if n = 3 then p.limit PF.extLimit
    else
      let p := p.flag PF.ipOpt
      let len := if next = 44 then 8 else (w.be (off + 1) 1 + 1) * 8
      if !w.has off 2 then p.atWindow
      else if off + len > w.body then p.broken
      else if !w.has off len then p.atWindow
      else if next = 44 && w.be (off + 2) 2 / 8 ≠ 0 then (p.flag PF.ipFrag, .fin)
      else (p, .ext layer (w.be off 1) (off + len) (n + 1))
  else (p, .l4 layer next off)

/-- A Geneve header. -/
def PWin.geneve (w : PWin) (p : Parse) (layer off : Nat) : Parse × PStage :=
  let len := 8 + w.be off 1 % 64 * 4
  if !w.has off 8 then p.atWindow
  else if off + len > w.body then p.broken
  else if !w.has off len then p.atWindow
  else p.descend layer (w.be (off + 2) 2) (off + len)

/-- A UDP header, and what its destination port names. -/
def PWin.udp (w : PWin) (p : Parse) (layer off : Nat) : Parse × PStage :=
  let p := p.setL4 layer 1 off
  let pay := off + 8
  if !w.has off 8 then p.atWindow
  else if off + w.be (off + 4) 2 > w.body then p.broken
  else
    match w.be (off + 2) 2 with
    | 319 => w.special p 3 pay ptpHeaderLen
    | 320 => w.special p 3 pay ptpHeaderLen
    | 4789 => p.tunnel layer 3 pay fun p => if w.has pay 8 then p.descend layer 0x6558 (pay + 8) else p.atWindow
    | 6081 => p.tunnel layer 4 pay fun p => w.geneve p layer pay
    | _ => (p, .fin)

/-- A GRE header: it is the layer's L4 header and its tunnel header. -/
def PWin.gre (w : PWin) (p : Parse) (layer off : Nat) : Parse × PStage :=
  (p.mark layer 2 off).tunnel layer 2 off fun p =>
    let f := w.be off 1
    let len := 4 + 4 * (bit (bitOf f 7) + bit (bitOf f 5) + bit (bitOf f 4))
    if w.has off 4 && w.has off len then p.descend layer (w.be (off + 2) 2) (off + len) else p.atWindow

/-- One header. -/
def PWin.step (w : PWin) (p : Parse) (g : PStage) : Parse × PStage :=
  match g with
  | .eth l o => w.eth p l o
  | .etherType l o n => w.etherType p l o n
  | .mpls l o n => w.mpls p l o n
  | .ipv4 l o => w.ipv4 p l o
  | .ipv6 l o => w.ipv6 p l o
  | .ext l x o n => w.ext p l x o n
  | .l4 l proto o => if proto = 17 then w.udp p l o else if proto = 47 then w.gre p l o else (p.setL4 l 5 o, .fin)
  | .fin => (p, .fin)

/-- Headers one after the other; the limits keep them under 80. -/
def PWin.run (w : PWin) : Nat → Parse → PStage → Parse
  | 0, p, _ => p
  | n + 1, p, g =>
    match w.step p g with
    | (p, .fin) => p
    | (p, g) => w.run n p g

/-- The window of a frame under DEPTH (R294). -/
def pwin (bytes : List Byte) (depth : Nat) : PWin :=
  let f := bytes ++ le 4 (crc32 bytes).toNat
  { frame := f, win := min depth f.length, body := bytes.length }

/-- A frame parsed. -/
def parseFrame (w : PWin) (down : Bool) : Parse := w.run 80 (if down then ({} : Parse).flag PF.down else {}) (.eth 0 0)

/-- The parse record (R295). -/
def Parse.record (p : Parse) (lane len arrival : Nat) : List Byte :=
  le 2 p.flags ++ [byte p.layers, byte p.stop] ++ p.offs.map byte ++ (p.l3.zip p.l4).map (fun t => byte (t.1 + 16 * t.2)) ++
    [byte p.special, byte p.offSpecial, byte (min 15 p.tags + 16 * min 15 p.labels), byte p.pcp, byte lane] ++ le 2 len ++ zeros 2 ++ le 4 arrival

end Sys2Proof.Machine
end

