-- ==== Sys2Proof/Machine/CipherBase.lean ====
section
/-! DEFINITION. Cipher engines as their owners see them: messages, blocks fed, the key cache, owners and borrowers (R202 to R210, R218, R224,
R248, R250). -/
namespace Sys2Proof.Machine

def State.modCry (s : State) (f : Crypto → Crypto) : State := { s with cry := f s.cry }

/-- Messages of an engine. -/
def State.msgsOf (s : State) (u : Nat) : List Msg := s.cry.msgs.filter fun m => m.unit == u

/-- IDLE (R207). -/
def State.cxIdle (s : State) (u : Nat) : Bool := (s.msgsOf u).isEmpty

/-- Blocks of 16 bytes that `n` bytes take. -/
def cipherBlocks (n : Nat) : Nat := (n + 15) / 16

/-- Blocks fed to an engine (CX_BLOCKS, R250). -/
def State.addBlocks (s : State) (u n : Nat) : State :=
  s.modCry fun c => { c with blocks := c.blocks.upd u 0 fun k => satAdd (2 ^ 64 - 1) k n }

/-! ### The key cache (R224) -/

/-- Key slots that an engine's cache holds. -/
def cacheSize : Nat := 16

/-- An engine needs a slot's key: one that is not cached is fetched, and takes a place that a free value picks where none is left. -/
def State.touchKey (s : State) (u slot : Nat) : State :=
  let held := s.cry.cache.get u []
  if held.contains slot then s
  else
    let (v, s) := s.draw 16
    let rest := if held.length < cacheSize then held else held.eraseIdx (v % cacheSize)
    (s.modCry fun c => { c with cache := c.cache.put u (rest ++ [slot]) }).bump (engCipher u) CX.CX_KEY_MISS

/-- A slot's entry is invalid in every engine, since the slot changes. -/
def State.uncache (s : State) (slot : Nat) : State :=
  s.modCry fun c => { c with cache := c.cache.each fun _ l => l.filter (· != slot) }

/-- An engine's cache emptied. -/
def State.dropCache (s : State) (u : Nat) : State := s.modCry fun c => { c with cache := c.cache.del u }

/-! ### Owners and borrowers (R202 to R210) -/

/-- The window that shows a physical unit: the logical engine it serves, or an unused spare's own. -/
def State.unitWindow (s : State) (u : Nat) : Option Nat :=
  match (List.range 8).find? fun n => s.punit (engCipher n) = u with
  | some n => some n
  | none => if u ≥ 8 && s.rf (engCipher u) HDR.LUNIT = 0xFF then some u else none

/-- Whether a SELFTEST_RUN waits for an engine: its owner gives it nothing more (R210). -/
def State.testAsked (s : State) (u : Nat) : Bool :=
  s.chan.waits.any fun w => w.why = .engineRun 0x0603 && s.unitWindow (fld w.cmd.req.payload 0 1) = some u

/-- Engines in service that an owner holds and gives work to, in engine order (R203 to R205, R210). -/
def State.enginesOf (s : State) (o : Nat) : List Nat :=
  (List.range 8).filter fun u =>
    s.works (engCipher u) && s.rf (engCipher u) CX.OWNER = o && !s.on (engCipher u) CX.REBIND && !s.testAsked u

/-- The engine that an owner 0x04 to 0x06 borrows now (R210): an unlocked pool engine, or with no pool engine ON the highest ON
engine bound to owner 0x03. A rebinding of the latter and its return lie within the operation (log entry 146). -/
def State.borrow (s : State) : Option Nat :=
  let pool := (List.range 8).filter fun u => s.works (engCipher u) && s.rf (engCipher u) CX.BIND = 0
  match pool.find? fun u => s.rf (engCipher u) CX.OWNER = 0 && s.cxIdle u with
  | some u => some u
  | none =>
    if pool.isEmpty then (((List.range 8).filter fun u => s.works (engCipher u) && s.rf (engCipher u) CX.BIND = 3).getLast?) else none

/-- A key-wrap operation on `n` semiblocks, on a borrowed engine: AES-KW feeds six blocks for each (R202). `slot` is the key slot whose
key it runs under, if one does. -/
def State.kwUse (s : State) (u : Nat) (slot : Option Nat) (n : Nat) : State :=
  let s := match slot with
    | some k => s.touchKey u k
    | none => s
  (s.addBlocks u (6 * n)).bump (engCipher u) CX.CX_MSGS

/-- The engine of owner 0x03 that carries a channel's payloads: the channels take the engines it holds in turn (R241, log entry 147). -/
def State.ponEngine (s : State) (ch : Nat) : Option Nat :=
  let es := s.enginesOf 3
  es[ch % es.length]?

/-- A payload of `n` bytes carried for a channel. -/
def State.ponBlocks (s : State) (ch n : Nat) : State :=
  match s.ponEngine ch with
  | some u => s.addBlocks u (cipherBlocks n)
  | none => s

/-! ### Known-answer tests as jobs (R219, R323) -/

/-- A known-answer test begins as a management task, which the firmware runs. Where the dispatcher is not up or has no context the test runs without
one (log entry 148). -/
def State.katBegin (s : State) (u : Nat) : State :=
  if s.asleep 13 then s
  else
    match s.runJob { work := .kat u, cls := .classP, prio := 8, list := 12 } with
    | (some _, s) => s
    | (none, _) => s

/-- The known-answer tests of a unit are over. -/
def State.katEnd (s : State) (u : Nat) (ok : Bool) : State :=
  (s.disp.jobs.filter fun x => x.2.work = .kat u).foldl (fun s x => s.endJob x.1 ok) s

end Sys2Proof.Machine
end

