-- ==== Sys2Proof/Machine/Sched.lean ====
section
/-! DEFINITION. The traffic scheduler: levels, eligibility, choice, start tags, shapers and policers (R339 to R352). -/
namespace Sys2Proof.Machine

/-- A node's place in `Sched.nodes`. -/
def nodeKey (level n : Nat) : Nat := level * 65536 + n

/-- Node numbers of a level (R339). -/
def levelSize (level : Nat) : Nat :=
  match level with
  | 1 => 32768
  | 2 => 8192
  | 3 => 2048
  | 4 => 256
  | 5 => 1024
  | 6 => 4
  | 7 => 1
  | _ => 0

/-- A shaper allows its node while its tokens are 0 or more (R346). -/
def Bucket.allows (b : Bucket) : Bool := b.rate = 0 || decide (b.tokens ≥ 0)

/-- Tokens taken for `n` bytes (R346, R347). -/
def Bucket.charge (b : Bucket) (n : Nat) : Bucket := if b.rate = 0 then b else { b with tokens := b.tokens - n * 8000 }

/-- A tick's refill (R345). -/
def Bucket.refill (b : Bucket) : Bucket :=
  if b.rate = 0 then b else { b with tokens := min ((b.burst : Int) * 8000) (b.tokens + b.rate) }

/-- Whether tag `a` is lower than `b` (R343): 64-bit serial arithmetic; at exactly 2^63 apart the lower unsigned value. -/
def tagLower (a b : Nat) : Bool :=
  if (a % 2 ^ 64 + 2 ^ 64 - b % 2 ^ 64) % 2 ^ 64 = 2 ^ 63 then decide (a % 2 ^ 64 < b % 2 ^ 64) else behind 64 a b

/-- The later of two tags. -/
def tagMax (a b : Nat) : Nat := if tagLower a b then b else a

/-- Nodes of level `level` (2 to 5) under a parent. -/
def Sched.kids (c : Sched) (level parent : Nat) : List (Nat × SNode) :=
  (c.nodes.filter fun x => x.1 / 65536 == level && x.2.parent == parent).map fun x => (x.1 % 65536, x.2)

/-- Queues under an S2 node. -/
def Sched.queuesOf (c : Sched) (n : Nat) : SMap Queue := c.queues.filter fun x => x.2.parent == n

/-- A queue whose head frame can be placed: it holds a sealed frame at its head. -/
def Queue.ready (q : Queue) : Bool :=
  match q.frames with
  | f :: _ => f.sealed
  | [] => false

/-- Whether a queue is eligible (R341, R346): circuit data passes a shaper that is below 0. -/
def Queue.eligible (q : Queue) : Bool := q.ready && (q.circuit || q.shaper.allows)

/-- Whether circuit data stands eligible under a node of level 1 + `k` (`k` = 0: the queue itself). -/
def Sched.circUnder (c : Sched) : Nat → Nat → Bool
  | 0, n => ((c.queues.look n).map fun q => q.circuit && q.ready).getD false
  | 1, n => (c.queuesOf n).any fun x => x.2.circuit && x.2.ready
  | k + 2, n => (c.kids (k + 2) n).any fun x => c.circUnder (k + 1) x.1

/-- Whether a node of level 1 + `k` is eligible (R341). -/
def Sched.eligible (c : Sched) : Nat → Nat → Bool
  | 0, n => ((c.queues.look n).map (·.eligible)).getD false
  | 1, n =>
    let ok := ((c.nodes.look (nodeKey 2 n)).map (·.shaper.allows)).getD false
    (c.queuesOf n).any fun x => x.2.eligible && (ok || x.2.circuit)
  | k + 2, n =>
    let ok := ((c.nodes.look (nodeKey (k + 3) n)).map (·.shaper.allows)).getD false
    (c.kids (k + 2) n).any fun x => c.eligible (k + 1) x.1 && (ok || c.circUnder (k + 1) x.1)

/-- Whether a node of level 1 + `k` has any frame beneath it (R341). -/
def Sched.hasData (c : Sched) : Nat → Nat → Bool
  | 0, n => ((c.queues.look n).map fun q => !q.frames.isEmpty).getD false
  | 1, n => (c.queuesOf n).any fun x => !x.2.frames.isEmpty
  | k + 2, n => (c.kids (k + 2) n).any fun x => c.hasData (k + 1) x.1

/-- Whether a circuit queue beneath a node of level 1 + `k` holds a frame (R342). -/
def Sched.circData (c : Sched) : Nat → Nat → Bool
  | 0, n => ((c.queues.look n).map fun q => q.circuit).getD false
  | 1, n => (c.queuesOf n).any fun x => x.2.circuit && !x.2.frames.isEmpty
  | k + 2, n => (c.kids (k + 2) n).any fun x => c.circData (k + 1) x.1

/-- Bytes held beneath a node of level 1 + `k` (R343, R350). -/
def Sched.backlog (c : Sched) : Nat → Nat → Nat
  | 0, n => ((c.queues.look n).map fun q => (q.frames.map (·.len)).sum).getD 0
  | 1, n => ((c.queuesOf n).map fun x => (x.2.frames.map (·.len)).sum).sum
  | k + 2, n => ((c.kids (k + 2) n).map fun x => c.backlog (k + 1) x.1).sum

/-- A child's activity brought up to date with its eligibility (R344): a child that becomes active takes the later of V and
its last finish tag, which is that of the last frame it gave. -/
def tagsFollow (active eligible : Bool) (v start finish : Nat) : Bool × Nat × Nat :=
  if eligible && !active then (true, tagMax v finish, finish)
  else if !eligible && active then (false, start, finish)
  else (active, start, finish)

/-- Every child's activity brought up to date. -/
def Sched.refresh (c : Sched) : Sched :=
  let vOf (level n : Nat) : Nat := ((c.nodes.look (nodeKey level n)).map (·.v)).getD 0
  { c with
    queues := c.queues.each fun _ q =>
      let t := tagsFollow q.active q.eligible (vOf 2 q.parent) q.start q.finish
      { q with active := t.1, start := t.2.1, finish := t.2.2 }
    nodes := c.nodes.each fun k x =>
      let t := tagsFollow x.active (c.eligible (k / 65536 - 1) (k % 65536)) (vOf (k / 65536 + 1) x.parent) x.start x.finish
      { x with active := t.1, start := t.2.1, finish := t.2.2 } }

/-- Which of two children is chosen (R341): number, effective priority, start tag. -/
def betterChild (a b : Nat × Nat × Nat) : Bool := decide (b.2.1 < a.2.1) || a.2.1 = b.2.1 && tagLower a.2.2 b.2.2

/-- The child chosen among those given in number order; ties go to the lower number. -/
def bestChild (xs : List (Nat × Nat × Nat)) : Option Nat :=
  (xs.foldl (fun best x => match best with
    | none => some x
    | some b => if betterChild x b then some x else some b) none).map (·.1)

/-- The eligible children of a node of level 2 + `k`, with effective priority and start tag; `only`: circuit data alone. -/
def Sched.choices (c : Sched) (only : Bool) (k n : Nat) : List (Nat × Nat × Nat) :=
  let ok := !only && ((c.nodes.look (nodeKey (k + 2) n)).map (·.shaper.allows)).getD false
  if k = 0 then
    ((c.queuesOf n).filter fun x => x.2.eligible && (ok || x.2.circuit)).map fun x =>
      (x.1, if x.2.circuit then 8 else x.2.prio, x.2.start)
  else
    ((c.kids (k + 1) n).filter fun x => c.eligible k x.1 && (ok || c.circUnder k x.1)).map fun x =>
      (x.1, if c.circData k x.1 then 8 else x.2.prio, x.2.start)

/-- The path chosen from a node of level 2 + `k` down to a queue (R341): (level, number) from the node's child to the queue. -/
def Sched.path (c : Sched) (only : Bool) : Nat → Nat → Option (List (Nat × Nat))
  | 0, n => (bestChild (c.choices only 0 n)).map fun q => [(1, q)]
  | k + 1, n =>
    match bestChild (c.choices only (k + 1) n) with
    | none => none
    | some m =>
      let held := !(((c.nodes.look (nodeKey (k + 3) n)).map (·.shaper.allows)).getD false)
      (c.path (only || held) k m).map fun p => (k + 2, m) :: p

/-- The finish tag of a frame of `len` bytes from start tag `s` (R343). -/
def finishTag (s len weight : Nat) : Nat := (s + (len * 65536 + weight - 1) / weight) % 2 ^ 64

/-- A node's virtual time set. -/
def Sched.setV (c : Sched) (level n v : Nat) : Sched :=
  { c with nodes := c.nodes.adj (nodeKey level n) fun x => { x with v := v } }

/-- One step of a chosen path: the child gave `len` bytes to its parent, which takes the child's start tag as V (R343). -/
def Sched.stepTags (c : Sched) (len level n : Nat) : Sched :=
  if level = 1 then
    match c.queues.look n with
    | none => c
    | some q =>
      let f := finishTag q.start len q.weight
      let q' := if q.frames.isEmpty then { q with finish := f, active := false } else { q with start := f, finish := f }
      { c with queues := c.queues.put n { q' with shaper := q.shaper.charge len } }.setV 2 q.parent q.start
  else
    match c.nodes.look (nodeKey level n) with
    | none => c
    | some x =>
      let f := finishTag x.start len x.weight
      let x' := if c.hasData (level - 1) n then { x with start := f, finish := f } else { x with finish := f, active := false }
      { c with nodes := c.nodes.put (nodeKey level n) { x' with shaper := x.shaper.charge len } }.setV (level + 1) x.parent x.start

/-- Whether some shaper on a path is below 0 (TS_CIRC_OVER, R346). -/
def Sched.pathBlocked (c : Sched) (s5 : Nat) (p : List (Nat × Nat)) : Bool :=
  (p.any fun x =>
    if x.1 = 1 then ((c.queues.look x.2).map fun q => !q.shaper.allows).getD false
    else ((c.nodes.look (nodeKey x.1 x.2)).map fun n => !n.shaper.allows).getD false) ||
    ((c.nodes.look (nodeKey 5 s5)).map fun n => !n.shaper.allows).getD false

/-- Counters of a queue number changed. -/
def Sched.count (c : Sched) (q : Nat) (f : QCount → QCount) : Sched := { c with counts := c.counts.upd q {} f }

/-- The frame chosen for an S5 node on a channel (R341, R346, R350), with the scheduler after it. -/
def State.choose (s : State) (s5 ch : Nat) : Option (Nat × QFrame × State) :=
  let c := s.sched.refresh
  let s6 := c.s6.get ch {}
  let only := !(s6.allows && c.s7.allows)
  match c.path only 3 s5 with
  | none => none
  | some p =>
    match p.getLast? with
    | none => none
    | some (_, qn) =>
      match c.queues.look qn with
      | none => none
      | some q =>
        match q.frames with
        | [] => none
        | f :: fs =>
          let excess := f.circuit && (c.pathBlocked s5 p || only)
          let c1 := { c with queues := c.queues.put qn { q with frames := fs } }.count qn fun x =>
            { x with selFrames := satAdd (2 ^ 64 - 1) x.selFrames 1, selBytes := satAdd (2 ^ 64 - 1) x.selBytes f.len }
          let c2 := p.reverse.foldl (fun c x => c.stepTags f.len x.1 x.2) c1
          let c3 := { c2 with
            nodes := c2.nodes.adj (nodeKey 5 s5) fun x => { x with shaper := x.shaper.charge f.len }
            s6 := c2.s6.upd ch {} fun b => b.charge f.len
            s7 := c2.s7.charge f.len }
          let s := { s with sched := c3.refresh }.bump engSched TS.TS_SELECTS
          some (qn, f, if excess then s.bump engSched TS.TS_CIRC_OVER else s)

/-- A frame joins a queue (R352), whose activity follows (R344). -/
def State.enqueue (s : State) (q : Nat) (f : QFrame) : State :=
  { s with sched := { s.sched with queues := s.sched.queues.adj q fun x => { x with frames := x.frames ++ [f] } }.refresh }

/-- Bytes a frame not yet sealed counts at: its length with FCS and its format's overhead (R343). -/
def frameCost (bytes overhead : Nat) : Nat := bytes + 4 + overhead

/-- The queue limit (R352): false, with the drop counted, when the frame does not fit. -/
def State.underLimit (s : State) (q len : Nat) : Bool × State :=
  match s.sched.queues.look q with
  | none => (false, s)
  | some x =>
    if (x.frames.map (·.len)).sum + len ≤ x.qlimit then (true, s)
    else
      (false, { s with sched := s.sched.count q fun n => { n with limitDrop := satAdd (2 ^ 64 - 1) n.limitDrop 1 } }.bump engSched TS.TS_LIMIT_DROP)

/-- The policers of a queue and of its S3 node (R347): both conform and are charged, or the frame is discarded. -/
def State.police (s : State) (q bytes : Nat) : Bool × State :=
  match s.sched.queues.look q with
  | none => (true, s)
  | some x =>
    let s3 := ((s.sched.nodes.look (nodeKey 2 x.parent)).map (·.parent)).getD 0
    let p3 := ((s.sched.nodes.look (nodeKey 3 s3)).map (·.policer)).getD {}
    let holds (b : Bucket) : Bool := b.rate = 0 || decide (b.tokens ≥ bytes * 8000)
    if holds x.policer && holds p3 then
      (true, { s with sched := { s.sched with
        queues := s.sched.queues.put q { x with policer := x.policer.charge bytes }
        nodes := s.sched.nodes.adj (nodeKey 3 s3) fun n => { n with policer := n.policer.charge bytes } } })
    else
      (false, { s with sched := s.sched.count q fun n => { n with policeDrop := satAdd (2 ^ 64 - 1) n.policeDrop 1 } }.bump engSched TS.TS_POL_DROP)

/-- The virtual terminal of the S4 node above a queue (R300, R339). -/
def State.queueVt (s : State) (q : Nat) : Option Nat :=
  match s.sched.queues.look q with
  | none => none
  | some x =>
    match s.sched.nodes.look (nodeKey 2 x.parent) with
    | none => none
    | some n2 =>
      match s.sched.nodes.look (nodeKey 3 n2.parent) with
      | none => none
      | some n3 => (s.sched.nodes.look (nodeKey 4 n3.parent)).map (·.vt)

/-- Every bucket refilled for one tick (R345). -/
def Sched.tick (c : Sched) : Sched :=
  let d : Sched :=
    { c with
      queues := c.queues.each fun _ q => { q with shaper := q.shaper.refill, policer := q.policer.refill }
      nodes := c.nodes.each fun _ n => { n with shaper := n.shaper.refill, policer := n.policer.refill }
      s6 := c.s6.each fun _ b => b.refill
      s7 := c.s7.refill }
  d.refresh

end Sys2Proof.Machine
end

