-- ==== Sys2Proof/Machine/Sleep.lean ====
section
/-! DEFINITION. Domains going to sleep and waking: what the retention supply keeps (R26, R32, R409, R411, R414). -/
namespace Sys2Proof.Machine

/-- Engines of a domain. -/
def domainEngines (d : Nat) : List Nat := ((List.range 256).map fun n => eng d n).filter present

/-- Fields that report the present state of a line, link, lock or signal: not retained while asleep (R26). -/
def liveFlds (e : Nat) : List Fld :=
  match kind e with
  | 0x01 => [PMD.SD, PMD.CDR_LOCK, PMD.TX_BURST]
  | 0x02 => [FR.SYNC, FR.LOS, FR.LODS]
  | 0x10 => [LN.LINK, LN.LOS, LN.SYNC, LN.ALIGNED, LN.RATE_NOW, LN.TESTING, LN.SQUELCH, LN.PARTNER, LN.PVALID]
  | 0x11 => [MAC.RX_PAUSED, MAC.TX_XOFF, MAC.FIFO_HELD]
  | 0x20 => [SF.OOF, SF.LOF, SF.RS_TIM, SF.MS_AIS, SF.MS_RDI]
  | 0x40 => [CX.OWNER, CX.IDLE, CX.SUSP, CX.URGENT, CX.ACTIVE, CX.URG_WAIT]
  | _ => []

/-- Whether the retention supply keeps a field (R26). -/
def retained (e : Nat) (f : Fld) : Bool :=
  match f.acc with
  | .rc | .w1c => false
  | _ => !(liveFlds e).contains f

/-- Whether domain `d` is awake (WK_AWAKE). -/
def State.setAwake (s : State) (d : Nat) (on : Bool) : State :=
  let a := s.rf engWake WK.AWAKE
  s.wf engWake WK.AWAKE (if on then a ||| 2 ^ d else if bitOf a d then a - 2 ^ d else a)

/-- An engine goes OFF with its domain, its outputs clamped (R15, R32, R409). -/
def State.sleepEngine (s : State) (e : Nat) : State :=
  let s := ((s.wf e HDR.REARM 0).wf e HDR.PEND_OFF 0).modEx e fun x => { x with driving := false }
  let st := s.engState e
  if isSpareWin e then s
  else if st = 1 || st = 2 || st = 3 then
    (s.setEng e 0).modEx e fun x => { x with cueDue := false, fromFailed := false, quiet := false, softFrom := 0 }
  else s

/-- An engine's fields after a wake: what is not retained reads its reset value (R26). -/
def State.wakeFlds (s : State) (e : Nat) : State := s.resetFlds e (retained e)

/-- A domain goes to sleep (R409), but for the PCIe endpoint (R41). What is not retained is gone from here on; nothing reads it before the wake (R26). -/
def State.sleepDomain (s : State) (d : Nat) : State :=
  if s.asleep d then s
  else s.pins (((((domainEngines d).filter (· ≠ engEndpoint)).foldl (fun s e => (s.sleepEngine e).wakeFlds e) s).setAwake d false).bump engWake WK.WK_SLEEPS)

end Sys2Proof.Machine
end

