-- ==== Sys2Proof/Machine/PonBase.lean ====
section
/-! DEFINITION. Virtual terminals, channels, groups and the operations that PON commands share (R91, R94, R98, R101, R109, R120,
R136, R138, R142, R145). -/
namespace Sys2Proof.Machine

def State.vt (s : State) (v : Nat) : Vt := s.pon.vts.get v {}
def State.modVt (s : State) (v : Nat) (f : Vt → Vt) : State := { s with pon := { s.pon with vts := s.pon.vts.upd v {} f } }
def State.chn (s : State) (c : Nat) : PonCh := s.pon.chs.get c {}
def State.modCh (s : State) (c : Nat) (f : PonCh → PonCh) : State := { s with pon := { s.pon with chs := s.pon.chs.upd c {} f } }
def State.modGroup (s : State) (g : Nat) (f : Group → Group) : State := { s with pon := { s.pon with groups := s.pon.groups.adj g f } }
def State.modPair (s : State) (f : Pair → Pair) : State := { s with pon := { s.pon with pair := f s.pon.pair } }

def allocKey (ch a : Nat) : Nat := ch * 2 ^ 14 + a
def portKey (ch p : Nat) : Nat := ch * 2 ^ 16 + p
/-- Place of a terminal's unicast key of an index (1, 2). -/
def uniKey (v i : Nat) : Nat := v * 4 + i
/-- Place of a channel's broadcast key of an index (1, 2). -/
def bcastKey (ch i : Nat) : Nat := 1024 + ch * 4 + i

/-- Terminals on a channel, lowest first. -/
def State.vtsOn (s : State) (ch : Nat) : List Nat := ((s.pon.vts.filter fun x => x.2.channel == ch).map (·.1))

/-- The lowest terminal in O5 on a channel. -/
def State.talker (s : State) (ch : Nat) : Option Nat := (s.vtsOn ch).find? fun v => (s.vt v).state = 5

/-- Alarms now active on a channel (R128): LOS, LODS, ROGUE, TX_FAULT. -/
def State.alarms (s : State) (ch : Nat) : Nat :=
  s.rf (engFramer ch) FR.LOS + 2 * s.rf (engFramer ch) FR.LODS + 4 * s.rf (engPmd ch) PMD.ROGUE + 8 * s.rf (engPmd ch) PMD.TX_FAULT

/-- CHANNEL_ALARM for the alarms that changed (R91, R128). -/
def State.alarmCue (s : State) (ch changed : Nat) : State := s.cue 0x2004 [byte ch, byte changed, byte (s.alarms ch), 0]

/-- An upstream PLOAM message put in the terminal's queue of 8, then among the firmware's 24, then PL_DROP (R101). -/
def State.putUp (s : State) (v : Nat) (m : UpMsg) : State :=
  let t := s.vt v
  if t.queue.length < 8 then s.modVt v fun t => { t with queue := t.queue ++ [m] }
  else if t.held.length < 24 then s.modVt v fun t => { t with held := t.held ++ [m] }
  else s.bump (engPloam t.channel) PL.PL_DROP

/-- Watchful sleep ends: Sleep_Request (Awake) from each terminal in O5 (R125). -/
def State.wsEnd (s : State) (ch : Nat) : State :=
  if (s.chn ch).watch = .active then s
  else
    ((s.vtsOn ch).filter fun v => (s.vt v).state = 5).foldl (fun s v => s.putUp v (.sleepRequest true))
      (s.modCh ch fun c => { c with watch := .active })

/-- An upstream PLOAM message of a terminal; as work that is queued it ends its channel's watchful sleep (R125). -/
def State.sendUp (s : State) (v : Nat) (m : UpMsg) : State := (s.putUp v m).wsEnd (s.vt v).channel

/-- The 36 content bytes of a Fennath message (R103). -/
def fennath (sub : Nat) (fields : List Byte) : List Byte :=
  [0x46, 0x4E, byte sub, 0] ++ fields ++ zeros (32 - fields.length)

/-- A Fennath message on the lowest terminal in O5 of a channel. -/
def State.sendOn (s : State) (ch sub : Nat) (fields : List Byte) : State :=
  match s.talker ch with
  | some v => s.sendUp v (.fennath (fennath sub fields))
  | none => s

/-! ### Parents (R145) -/

/-- The parent a channel belongs to: 1 = A, 2 = B. -/
def State.parentOf (s : State) (ch : Nat) : Nat := if bitOf (s.rf engBond BD.PA_MAP) ch then 2 else 1

/-- Whether a channel is fenced. -/
def State.fenced (s : State) (ch : Nat) : Bool :=
  s.rf engBond BD.PA_MAP ≠ 0 && s.parentOf ch ≠ s.rf engBond BD.ACTIVE

/-- The lowest channel of a parent with a terminal in O5. -/
def State.parentTalks (s : State) (p : Nat) : Option Nat :=
  (List.range 4).find? fun ch => s.parentOf ch = p && (s.talker ch).isSome

/-! ### Groups (R116, R136, R141, R142) -/

/-- The group a terminal is a member of. -/
def State.groupOf (s : State) (v : Nat) : Option Nat := (s.pon.groups.find? fun g => g.2.members.contains (some v)).map (·.1)

/-- The member of a group on a channel. -/
def Group.member (g : Group) (ch : Nat) : Option Nat := (g.members.getD ch none)

/-- Whether a park is in progress on a channel. -/
def State.parking (s : State) (ch : Nat) : Bool := (s.chn ch).park = .parkAck || (s.chn ch).park = .parkHold

/-- Whether a group's member on a channel takes fragments (R134, R136). -/
def State.takes (s : State) (gi : Nat) (g : Group) (ch : Nat) : Bool :=
  match g.member ch with
  | none => false
  | some v =>
    (s.vt v).state = 5 && !(s.chn ch).parked && !s.parking ch && !s.fenced ch && s.rf (engPmd ch) PMD.MODE ≠ 1 &&
      s.pon.allocs.any fun a => a.2.vt = v && (match a.2.bind with
        | some (some gj, _) => gj = gi
        | _ => false)

/-- The members of a group that take fragments, bit n = CHn. -/
def State.takingSet (s : State) (gi : Nat) (g : Group) : Nat :=
  ((List.range 4).map fun ch => if s.takes gi g ch then 2 ^ ch else 0).sum

/-- BOND_DEGRADED where a group's set of members taking fragments has changed (R141). -/
def State.noteTaking (s : State) (gi : Nat) : State :=
  match s.pon.groups.look gi with
  | none => s
  | some g =>
    let m := s.takingSet gi g
    if m = g.taking then s
    else (s.modGroup gi fun g => { g with taking := m }).cue 0x2020 [byte gi, byte m, byte g.anchor, 0]

/-- Every group's set looked at. -/
def State.noteAllTaking (s : State) : State := s.pon.groups.foldl (fun s g => s.noteTaking g.1) s

/-- Whether a group's member on a channel may become the anchor (R142). -/
def State.canAnchor (s : State) (g : Group) (ch : Nat) : Bool :=
  match g.member ch with
  | none => false
  | some v => (s.vt v).state = 5 && !(s.chn ch).parked && !s.parking ch && !s.fenced ch

/-- The anchor moved to a channel: ANCHOR_MOVE there, cue ANCHOR_MOVED (R142, R144, R159). -/
def State.setAnchor (s : State) (gi ch cause : Nat) : State :=
  match s.pon.groups.look gi with
  | none => s
  | some g =>
    let s := s.modGroup gi fun g => { g with anchor := ch }
    let s := match g.member ch with
      | some v => s.sendUp v (.fennath (fennath 0x14 [byte gi, byte g.anchor, byte ch]))
      | none => s
    s.cue 0x2021 [byte gi, byte g.anchor, byte ch, byte cause]

/-- The anchor moves when its member is not in O5 or its channel is fenced (R142). -/
def State.fixAnchor (s : State) (cause gi : Nat) : State :=
  match s.pon.groups.look gi with
  | none => s
  | some g =>
    let bad := s.fenced g.anchor || (match g.member g.anchor with
      | some v => (s.vt v).state ≠ 5
      | none => true)
    if bad then
      match (List.range 4).find? fun ch => s.canAnchor g ch with
      | some ch => if ch = g.anchor then s else s.setAnchor gi ch cause
      | none => s
    else s

/-! ### Downstream reassembly's flush (R120) -/

/-- How many frames a discard of fragments counts: those with SOF, or 1 if none (R120). -/
def gapCount (fs : List DnFrag) : Nat := max 1 (fs.filter (·.sof)).length

/-- A group flushed: held fragments discarded under BD_DROP_GAP, NEXT unset. -/
def State.flushGroup (s : State) (gi : Nat) : State :=
  match s.pon.groups.look gi with
  | none => s
  | some g =>
    let s := s.freePages (g.held.flatMap (·.pages))
    (s.modGroup gi fun g => { g with held := [], next := none, gap := false }).bumpN engBond BD.BD_DROP_GAP (if g.held.isEmpty then 0 else gapCount g.held)

/-- Whether every member's channel is in LODS, LOS or PARKED (R120). -/
def State.groupDark (s : State) (g : Group) : Bool :=
  (List.range 4).all fun ch => (g.member ch).isNone || s.on (engFramer ch) FR.LOS || s.on (engFramer ch) FR.LODS || (s.chn ch).parked

/-- Groups whose every member is dark are flushed. -/
def State.flushDark (s : State) : State :=
  s.pon.groups.foldl (fun s g => if s.groupDark g.2 then s.flushGroup g.1 else s) s

/-! ### Frames in pieces (R140) -/

/-- Whether a piece of a frame is not sent: in a group's queue or re-send queue, or in a committed burst. -/
def State.unsent (s : State) (x : QFrame) : Bool :=
  (s.pon.groups.any fun g => (g.2.queue.any fun c => c.frame = x) || g.2.resend.any fun f => f.frame = x) ||
    s.pon.chs.any fun c => c.2.bursts.any fun b => b.frags.any fun f => f.2.frame = x

/-- Frames of which nothing is left to send free their pages. -/
def State.endFrames (s : State) (xs : List QFrame) : State :=
  xs.eraseDups.foldl (fun s x => if s.unsent x then s else s.freePages x.pages) s

/-- The frames of which a group holds pieces. -/
def Group.frames (g : Group) : List QFrame := ((g.queue.map (·.frame)) ++ g.resend.map (·.frame)).eraseDups

/-! ### Abandoning bursts (R138, R139) -/

/-- A fragment placed in a re-send queue, which is kept in BSEQ order. -/
def insertFrag (f : UpFrag) : List UpFrag → List UpFrag
  | [] => [f]
  | x :: xs => if behind 24 f.bseq x.bseq then f :: x :: xs else x :: insertFrag f xs

/-- A committed burst abandoned: its fragments become unsent, plain SDUs in it are lost, and it counts in US_ABANDONED. A frame
that a burst of the former parent carried a piece of returns whole (R147). -/
def State.abandonOne (s : State) (ch : Nat) (b : Burst) : State :=
  let s := b.frags.foldl (fun s f => s.modGroup f.1 fun g =>
    if !b.old then { g with resend := insertFrag f.2 g.resend }
    else if g.queue.any fun c => c.frame = f.2.frame then g
    else { g with queue := { frame := f.2.frame, cut := 0 } :: g.queue }) s
  let s := b.plain.foldl (fun s f => s.freePages f.pages) s
  (s.endFrames (b.frags.map (·.2.frame))).bump engBond (BD.US_ABANDONED.idx ch)

/-- A grant dropped (R130). -/
def State.grantDrop (s : State) (ch n : Nat) : State := s.bumpN engBond (BD.US_GRANT_DROP.idx ch) n

/-- TX_BURST shows whether a committed burst is there to be sent, and PBENn follows it (R126, R132, R467). -/
def State.noteBurst (s : State) (ch : Nat) : State :=
  s.pins (s.wf (engPmd ch) PMD.TX_BURST (bit ((s.chn ch).bursts.any fun b => b.committed)))

/-- Every committed burst of a channel that `p` picks is abandoned; grants not committed that `p` picks are dropped and counted, as their terminal can
no longer send them (R130, log entry 130). -/
def State.abandon (s : State) (ch : Nat) (p : Burst → Bool) : State :=
  let bs := (s.chn ch).bursts
  let s := s.modCh ch fun c => { c with bursts := bs.filter fun b => !p b }
  let s := (bs.filter fun b => p b && b.committed).foldl (fun s b => s.abandonOne ch b) s
  (s.grantDrop ch (bs.filter fun b => p b && !b.committed).length).noteBurst ch

/-! ### A virtual terminal's states (R94, R98) -/

/-- VT_STATE (R128). -/
def State.vtCue (s : State) (v old new cause : Nat) : State :=
  s.cue 0x2001 ([byte v, byte (s.vt v).channel, byte old, byte new] ++ le 2 ((s.vt v).onuId.getD 0xFFFF) ++ [byte cause, 0])

/-- EQD and VALID are cleared when the channel's last terminal leaves O4, O5, O6 and PARKED (R98). -/
def State.dropEqd (s : State) (ch : Nat) : State :=
  if (s.vtsOn ch).any fun v => (s.vt v).state = 4 || (s.vt v).state = 5 || (s.vt v).state = 6 || (s.vt v).state = 8 then s
  else (s.clearFld (engFramer ch) FR.EQD).clearFld (engFramer ch) FR.EQD_VALID

/-- Frames of which a plain binding has placed a piece are discarded with the entries that `p` picks (R140). -/
def State.freeCuts (s : State) (p : Alloc → Bool) : State :=
  (s.pon.allocs.filter fun a => p a.2).foldl (fun s a => match a.2.cut with
    | some (q, _) => s.freePages q.pages
    | none => s) s

/-- A terminal's entries, keys, ONU-ID and queued messages released (R94, R101). -/
def State.releaseVt (s : State) (v : Nat) : State :=
  let s := s.freeCuts fun a => a.vt = v
  { s with pon := { s.pon with
      allocs := s.pon.allocs.filter fun a => a.2.vt ≠ v
      ports := s.pon.ports.filter fun p => p.2.vt ≠ v
      keys := s.pon.keys.filter fun k => k.1 / 4 ≠ v }}.modVt v fun t =>
    { t with onuId := none, to1 := none, to2 := none, sleepOk := false, wantReg := false, queue := [], held := [], omci := [], curKey := 0 }

/-- A terminal changes state: VT_STATE, and what follows from leaving or entering O5 (R94, R98, R138, R141, R142, R148). -/
def State.setVt (s : State) (v new cause : Nat) : State :=
  let t := s.vt v
  if t.state = new then s
  else
    let s := (s.modVt v fun t => { t with state := new }).vtCue v t.state new cause
    let s := s.dropEqd t.channel
    if t.state = 5 then
      let s := (s.abandon t.channel fun b => b.vt = v).wsEnd t.channel
      match s.groupOf v with
      | some g => (s.fixAnchor 0 g).noteTaking g
      | none => s
    else if new = 5 && s.on engBond BD.LOST && !s.fenced t.channel then s.wf engBond BD.LOST 0
    else s

/-- O5 to O6 on LOS or LODS: TO2 starts with the channel's value (R94, R95). -/
def State.toO6 (s : State) (ch v : Nat) : State :=
  if (s.vt v).state = 5 then
    (s.modVt v fun t => { t with to2 := some (s.rf (engPloam ch) PL.TO2) }).setVt v 6 6
  else s

/-- Every terminal in O5 on a channel to O6 (R91). Where no LOS or LODS is behind it, the cue's cause is this one too (log entry 125). -/
def State.allToO6 (s : State) (ch : Nat) : State := (s.vtsOn ch).foldl (fun s v => s.toO6 ch v) s

/-- Sync is lost on a channel: committed bursts abandoned, O5 to O6, dark groups flushed (R91, R120, R138). -/
def State.lostSync (s : State) (ch : Nat) : State := ((s.abandon ch fun b => b.committed).allToO6 ch).flushDark

/-- A channel's framer has come into sync: O6 to O5 while TO2 runs, O1 to O2-3 once a profile is held (R94); the cue's cause is 0x00 (log entry 124). -/
def State.inSync (s : State) (ch : Nat) : State :=
  (s.vtsOn ch).foldl (fun s v =>
    let t := s.vt v
    if t.state = 6 && t.to2.isSome then (s.modVt v fun t => { t with to2 := none }).setVt v 5 0
    else if t.state = 1 && s.on (engFramer ch) FR.PROFILE then s.setVt v 2 0
    else s) s

/-- A terminal's entries released, then its state changes: the cue shows no ONU-ID (R94). -/
def State.releaseTo (s : State) (v new cause : Nat) : State :=
  let s := s.abandon (s.vt v).channel fun b => b.vt = v
  (s.releaseVt v).setVt v new cause

/-- A VT_CONFIG disable takes effect: OFF, and bound to `ch` from here (R94, R99). -/
def State.disableVt (s : State) (v ch : Nat) : State :=
  (s.releaseTo v 0 5).modVt v fun t => { t with enabled := false, disable := none, channel := ch }

/-- Terminals in O1 whose channel is in sync with a profile go to O2-3, and those in O6 whose TO2 runs to O5 (R94). -/
def State.settle (s : State) (ch : Nat) : State := if s.rf (engFramer ch) FR.SYNC = 2 then s.inSync ch else s

/-- The channel's first five engines are all ON: it carries traffic (R88). -/
def State.chWorks (s : State) (ch : Nat) : Bool :=
  (List.range 5).all fun e => s.works (eng (4 + ch) e)

/-- Explicit entries in use: those beyond each terminal's default Alloc-ID or OMCC Port-ID (R109). -/
def State.allocExplicit (s : State) : Nat := (s.pon.allocs.filter fun a => !a.2.dflt).length
def State.portExplicit (s : State) : Nat := (s.pon.ports.filter fun p => p.2.kind ≠ 3).length

/-- PON_TABLE_FULL (R128). -/
def State.tableFull (s : State) (table v source id : Nat) : State :=
  s.cue 0x2003 ([byte table, byte v, byte (s.vt v).channel, byte source] ++ le 2 id ++ [0, 0])

end Sys2Proof.Machine
end

