-- ==== Sys2Proof/Machine/Carrier.lean ====
section
/-! DEFINITION. The carriers: rings, doorbells, the reply ring, MSI-X, and the frames of the UART and the management lane
(R44, R45, R55 to R62, R83, R84, R494). -/
namespace Sys2Proof.Machine

/-- A packet's length in the ring, padded to 16-byte units (R48). -/
def pad16 (n : Nat) : Nat := (n + 15) / 16 * 16

/-- Size of the reply ring in bytes. -/
def State.rplSize (s : State) : Nat := 2 ^ s.rf engCmd VS.RPL_SIZE_LOG2

/-- Bytes that the reply ring still takes: its size less 16, less what the host has not consumed (R56). -/
def State.rplRoom (s : State) : Nat :=
  let used := (s.rf engCmd VS.RPL_TAIL + s.rplSize - s.rf engCmd VS.RPL_HEAD % s.rplSize) % s.rplSize
  s.rplSize - 16 - used

/-- Whether the reply ring has room for a packet of `n` bytes. -/
def State.rplFits (s : State) (n : Nat) : Bool := decide (pad16 n ≤ s.rplRoom)

/-- A packet written at RPL_TAIL, padding as 0 (R48, R59). -/
def State.rplPut (s : State) (bytes : List Byte) : State :=
  let n := pad16 bytes.length
  (s.emit (.ring (s.rf engCmd VS.RPL_TAIL) (bytes ++ zeros (n - bytes.length)))).wf engCmd VS.RPL_TAIL
    ((s.rf engCmd VS.RPL_TAIL + n) % s.rplSize)

/-- VS_STATUS as a word (R55). -/
def State.vsStatus (s : State) : Nat :=
  s.rf engCmd VS.READY + 2 * s.rf engCmd VS.RECOVERY + 16 * s.rf engCmd VS.HALT + 256 * s.rf engCmd VS.RPL_FULL

/-- The write-back block (R59). -/
def State.wbBlock (s : State) : List Byte :=
  le 4 (s.rf engCmd VS.RPL_TAIL) ++ ((List.range 4).flatMap fun p => le 4 (s.rf engCmd (VS.CMD_HEAD.idx p))) ++
    le 4 s.vsStatus ++ zeros 8

/-- A vector is signalled, or held back while its hold-off runs (R60). -/
def State.signal (s : State) (v : Nat) : State :=
  if s.rf engCmd VS.HOLDOFF = 0 then s.emit (.msix v)
  else if s.chan.msixTimer.contains v then
    if s.chan.msixHeld.contains v then s else { s with chan := { s.chan with msixHeld := s.chan.msixHeld ++ [v] } }
  else { s with chan := { s.chan with msixTimer := s.chan.msixTimer ++ [v] } }.emit (.msix v)

/-- The next packet for the reply ring, and the channel without it. In ordinary flow packets go in the order they arose
(R62); after a stop, replies first, then CUES_LOST, then cues (R61). -/
inductive RplNext where
  | reply (p : Packet) (rest : List Packet)
  | cue (p : Packet) (rest : List Packet)
  | lost
  | nothing

/-- Whether the reply of command `id` has still to be given or written. -/
def Chan.unanswered (c : Chan) (id : Nat) : Bool :=
  (c.waits.any fun w => w.id = id) || (c.pcieReplies ++ c.uartReplies ++ c.bandReplies).any fun p => p.answers = some id

/-- The cues of a carrier that may go: none while the first stands behind a reply that has not been written (R62). -/
def Chan.cuesFree (c : Chan) (cues : List Packet) : List Packet :=
  match cues with
  | p :: _ => if (p.behind.map c.unanswered).getD false then [] else cues
  | [] => []

/-- Which packet the reply ring takes next. -/
def State.rplNext (s : State) : RplNext :=
  let cueOn := s.on engCmd VS.CUE_EN
  match s.chan.pcieReplies, (if cueOn then s.chan.cuesFree s.chan.pcieCues else []) with
  | p :: ps, c :: cs =>
    if s.chan.stalled || decide (p.order < c.order) then .reply p ps
    else .cue c cs
  | p :: ps, [] => .reply p ps
  | [], c :: cs => if s.chan.lostPcie > 0 then .lost else .cue c cs
  | [], [] => if cueOn && decide (s.chan.lostPcie > 0) then .lost else .nothing

/-- The reply ring has no room: RPL_FULL, and the order of R61 from here on. -/
def State.rplStop (s : State) : State :=
  { s with chan := { s.chan with stalled := true } }.wf engCmd VS.RPL_FULL 1

/-- Waiting packets written while there is room; the vectors to signal are gathered. -/
def State.rplDrain (s : State) : Nat → List Nat → State × List Nat
  | 0, vs => (s, vs)
  | n + 1, vs =>
    match s.rplNext with
    | .nothing => ({ s with chan := { s.chan with stalled := false } }.wf engCmd VS.RPL_FULL 0, vs)
    | .reply p ps =>
      if s.rplFits p.bytes.length then
        let s := { s with chan := { s.chan with pcieReplies := ps } }.rplPut p.bytes
        let s := if p.holdsTag then { s with chan := s.chan.freeTag (.ring 0) p.tag } else s
        (s.endCtx p.ctx).rplDrain n (vs ++ [p.vector])
      else (s.rplStop, vs)
    | .cue c cs =>
      if s.rplFits c.bytes.length then
        ({ s with chan := { s.chan with pcieCues := cs } }.rplPut c.bytes).rplDrain n (vs ++ [c.vector])
      else (s.rplStop, vs)
    | .lost =>
      if s.rplFits 18 then
        let b := cueBytes 0x1001 s.chan.cueSeq s.short (le 2 s.chan.lostPcie)
        let s := { s with chan := { s.chan with cueSeq := (s.chan.cueSeq + 1) % 2 ^ 16, lostPcie := 0 } }
        (s.rplPut b).rplDrain n (vs ++ [4])
      else (s.rplStop, vs)

/-- Waiting replies and cues are written, then the write-back block, then MSI-X (R59 to R62). -/
def State.rplWrite (s : State) : State :=
  if s.on engCmd VS.RPL_ENABLE then
    let (s, vs) := s.rplDrain (s.chan.pcieReplies.length + s.chan.pcieCues.length + 2) []
    match vs with
    | [] => s
    | _ =>
      let s := if s.rf engCmd VS.WB_LO = 0 && s.rf engCmd VS.WB_HI = 0 then s else s.emit (.writeBack s.wbBlock)
      vs.eraseDups.foldl State.signal s
  else s

/-- MSIX_HOLDOFF_EXPIRY (R60): a held message is sent and covers what was written meanwhile. -/
def execMsixHoldoffExpiry (vector : Fin 32) (s : State) : Host.Outcome State Fault Refusal :=
  let v := vector.val
  if s.chan.msixTimer.contains v then
    if s.chan.msixHeld.contains v then
      .next ({ s with chan := { s.chan with msixHeld := s.chan.msixHeld.filter (· != v) } }.emit (.msix v))
    else .next { s with chan := { s.chan with msixTimer := s.chan.msixTimer.filter (· != v) } }
  else .next s

/-- CMD_TAIL_WRITE (R55, R56): the doorbell holds the tail; the part judges it when it fetches (R57). -/
def State.writeTail (s : State) (p v : Nat) : State := s.wf engCmd (VS.CMD_TAIL.idx p) v

/-- CMD_TAIL_WRITE (R56). -/
def execCmdTailWrite (p : Fin 4) (v : Word) (s : State) : Host.Outcome State Fault Refusal := .next (s.writeTail p.val v.toNat)

/-- RPL_HEAD_WRITE (R56, R61): RPL_FULL reads 0 again once the next packet fits. -/
def State.writeRplHead (s : State) (v : Nat) : State :=
  let s := s.wf engCmd VS.RPL_HEAD v
  let fits := match s.rplNext with
    | .reply p _ => s.rplFits p.bytes.length
    | .cue p _ => s.rplFits p.bytes.length
    | .lost => s.rplFits 18
    | .nothing => true
  if s.on engCmd VS.RPL_FULL && fits then s.wf engCmd VS.RPL_FULL 0 else s

/-- RPL_HEAD_WRITE (R61). -/
def execRplHeadWrite (v : Word) (s : State) : Host.Outcome State Fault Refusal := .next (s.writeRplHead v.toNat)

/-- A bit of VS_STATUS.HALT. -/
def State.setHalt (s : State) (p : Nat) (on : Bool) : State :=
  let h := s.rf engCmd VS.HALT
  s.wf engCmd VS.HALT (if on then h ||| 2 ^ p else if bitOf h p then h - 2 ^ p else h)

/-- A write of a command ring's ENABLE (R56). -/
def State.writeCmdEnable (s : State) (p : Nat) (on : Bool) : State :=
  if on then
    if !s.on engCmd VS.RPL_ENABLE || s.on engCmd (VS.CMD_ENABLE.idx p) then s
    else
      ((((s.wf engCmd (VS.CMD_ENABLE.idx p) 1).wf engCmd (VS.CMD_HEAD.idx p) 0).wf engCmd (VS.CMD_TAIL.idx p) 0).wf engCmd
        (VS.HALT_CAUSE.idx p) 0).setHalt p false
  else s.wf engCmd (VS.CMD_ENABLE.idx p) 0

/-- CMD_RING_ENABLE_WRITE (R56). -/
def execCmdRingEnableWrite (p : Fin 4) (on : Bool) (s : State) : Host.Outcome State Fault Refusal :=
  .next (s.writeCmdEnable p.val on)

/-- A write of the reply ring's ENABLE (R56, R61). -/
def State.writeRplEnable (s : State) (on : Bool) : State :=
  if on then
    if s.on engCmd VS.RPL_ENABLE then s
    else
      { ((s.wf engCmd VS.RPL_ENABLE 1).wf engCmd VS.RPL_TAIL 0).wf engCmd VS.RPL_HEAD 0 with
        chan := { s.chan with stalled := true } }
  else
    let s := (List.range 4).foldl (fun s p => s.wf engCmd (VS.CMD_ENABLE.idx p) 0) s
    { (s.wf engCmd VS.RPL_ENABLE 0).wf engCmd VS.RPL_FULL 0 with chan := { s.chan with stalled := true } }

/-- RPL_RING_ENABLE_WRITE (R56). -/
def execRplRingEnableWrite (on : Bool) (s : State) : Host.Outcome State Fault Refusal := .next (s.writeRplEnable on)

/-- A write of RPL_CFG.CUE_EN (R61): queued cues are then written in the order of R61. -/
def State.writeCueEn (s : State) (on : Bool) : State :=
  let s' := s.wf engCmd VS.CUE_EN (bit on)
  if on && !s.on engCmd VS.CUE_EN then { s' with chan := { s'.chan with stalled := true } } else s'

/-- RPL_CUE_EN_WRITE (R61). -/
def execRplCueEnWrite (on : Bool) (s : State) : Host.Outcome State Fault Refusal := .next (s.writeCueEn on)

/-- The next packet of the UART or the management lane: replies and cues in the order they arose, CUES_LOST ahead of the
queued cues once the queue has room (R62, R494). -/
def laneNext (replies cues : List Packet) (lost : Nat) (due : Bool) : RplNext :=
  match replies, cues with
  | p :: ps, c :: cs => if p.order < c.order then .reply p ps else if lost > 0 && due then .lost else .cue c cs
  | p :: ps, [] => if lost > 0 && due then .lost else .reply p ps
  | [], c :: cs => if lost > 0 && due then .lost else .cue c cs
  | [], [] => if lost > 0 && due then .lost else .nothing

/-- The next packet of the UART. -/
def Chan.uartNext (c : Chan) : RplNext := laneNext c.uartReplies (c.cuesFree c.uartCues) c.lostUart c.dueUart

/-- The next packet of the management lane. -/
def Chan.bandNext (c : Chan) : RplNext := laneNext c.bandReplies (c.cuesFree c.bandCues) c.lostBand c.dueBand

/-- The flag that opens and closes a UART frame, the escape byte, and what an escaped byte is XORed with (R83). -/
def uartFlag : Byte := 0x7E
def uartEsc : Byte := 0x7D
def uartFlip : Byte := 0x20

/-- Bytes as they stand inside a UART frame: the flag and the escape byte are escaped (R83). -/
def uartEscape (bs : List Byte) : List Byte := bs.flatMap fun b => if b = uartFlag || b = uartEsc then [uartEsc, b ^^^ uartFlip] else [b]

/-- What the bytes inside a UART frame stand for; an escape byte with nothing behind it stands for nothing. -/
def uartUnescape : List Byte → List Byte
  | [] => []
  | b :: bs =>
    if b = uartEsc then
      match bs with
      | [] => []
      | c :: cs => (c ^^^ uartFlip) :: uartUnescape cs
    else b :: uartUnescape bs

/-- A packet's frame on the UART: flags, and between them the packet and its CRC, escaped (R83). -/
def uartFrame (b : List Byte) : List Byte := uartFlag :: uartEscape (b ++ le 4 (crc32 b).toNat) ++ [uartFlag]

/-- A management frame without FCS (R84): addresses, EtherType 0x88B5, subtype, count, packet, padding to the 64-byte minimum frame. -/
def mgmtBytes (dst src : BitVec 48) (b : List Byte) : List Byte :=
  let f := be 6 dst.toNat ++ be 6 src.toNat ++ be 2 0x88B5 ++ be 2 0x5655 ++ be 2 b.length ++ b
  f ++ zeros (60 - f.length)

/-- The last byte of the next UART frame leaves UART_TXD (R45, R83). -/
def State.uartSent (s : State) : State :=
  let out (s : State) (b : List Byte) : State := s.emit (.uart (uartFrame b))
  match s.chan.uartNext with
  | .nothing => s
  | .reply p ps =>
    let c := { s.chan with uartReplies := ps }
    (out { s with chan := if p.holdsTag then c.freeTag .uart p.tag else c } p.bytes).endCtx p.ctx
  | .cue c cs => out { s with chan := { s.chan with uartCues := cs, dueUart := decide (s.chan.lostUart > 0) } } c.bytes
  | .lost =>
    let b := cueBytes 0x1001 s.chan.cueSeq s.short (le 2 s.chan.lostUart)
    out { s with chan := { s.chan with cueSeq := (s.chan.cueSeq + 1) % 2 ^ 16, lostUart := 0, dueUart := false } } b

/-- The packet that leaves next on the management lane, and where it goes: a reply to its request's source, a cue to the option block's host
(R84). -/
def State.bandPacket (s : State) : Option (BitVec 48 × List Byte) :=
  match s.chan.bandNext with
  | .nothing => none
  | .reply p _ => some (p.dst, p.bytes)
  | .cue c _ => some (s.opt.cueHost, c.bytes)
  | .lost => some (s.opt.cueHost, cueBytes 0x1001 s.chan.cueSeq s.short (le 2 s.chan.lostBand))

/-- The frame that leaves next on the management lane. -/
def State.mgmtNext (s : State) : List Byte := (s.bandPacket.map fun x => mgmtBytes x.1 s.opt.mac x.2).getD []

/-- The next management frame has left the lane, or has been discarded under R379; either way its tag frees (R45, R84). -/
def State.bandSent (s : State) : State :=
  match s.chan.bandNext with
  | .nothing => s
  | .reply p ps =>
    let c := { s.chan with bandReplies := ps }
    { s with chan := if p.holdsTag then c.freeTag .inband p.tag else c }.endCtx p.ctx
  | .cue _ cs => { s with chan := { s.chan with bandCues := cs, dueBand := decide (s.chan.lostBand > 0) } }
  | .lost => { s with chan := { s.chan with cueSeq := (s.chan.cueSeq + 1) % 2 ^ 16, lostBand := 0, dueBand := false } }

end Sys2Proof.Machine
end

