-- ==== Sys2Proof/Machine/System.lean ====
section
/-! DEFINITION. System commands and sessions (R54, R66 to R74), but SESSION_AUTH, which may start the zeroise sequence. -/
namespace Sys2Proof.Machine

/-- Which reel IDENTIFY reports: 1 for reel B. -/
def State.reelB (s : State) : Nat := if s.rf engTake TK.REEL_LOADED = 2 then 1 else 0

/-- IDENTIFY's payload (the IDENTIFY table). -/
def State.identity (s : State) : List Byte :=
  le 4 0x4864 ++ [0xB0, if Config.gradeI then 0x49 else 0x43, byte (s.rf engCmd VS.RECOVERY), byte s.reelB] ++
    le 4 (s.rf engProc FW.FW_VERSION) ++ [1] ++ zeros 3 ++ le 8 Config.uniqueId.toNat ++ le 4 (s.rf engTake TK.OPT_SEQ)

def identifyCmd : Cmd where
  op := 0x0001
  len := fun n => n = 0
  recovery := true
  act := fun _ _ s => { st := s, payload := s.identity }

/-- IDENTIFY (R66). -/
def execIdentify (r : Req) (s : State) : Host.Outcome State Fault Refusal := .next (runCmd identifyCmd r s)

def echoCmd : Cmd where
  op := 0x0002
  len := fun _ => true
  target := fun _ _ => none
  recovery := true
  act := fun _ r s => { st := s, payload := r.payload }

/-- ECHO (R63). -/
def execEcho (r : Req) (s : State) : Host.Outcome State Fault Refusal := .next (runCmd echoCmd r s)

def cueRouteCmd : Cmd where
  op := 0x0003
  len := fun n => n = 4
  params := fun _ r _ => checks [param (r.payload.getD 0 0 &&& 0xFC#8 = 0) 0, resv r.payload 1 3]
  act := fun _ r s =>
    let v := fld r.payload 0 4
    if s.chan.routeUart = bitOf v 0 ∧ s.chan.routeBand = bitOf v 1 then .say s St.noChange
    else .say { s with chan := { s.chan with routeUart := bitOf v 0, routeBand := bitOf v 1 } } St.ok

/-- CUE_ROUTE (R494). -/
def execCueRoute (r : Req) (s : State) : Host.Outcome State Fault Refusal := .next (runCmd cueRouteCmd r s)

/-- The part enters the error state (R285): CRYPTO_ERR, cue CRYPTO_ERROR, record 0x0007. -/
def State.enterError (s : State) (test : Nat) : State :=
  (((s.wf engKeys KS.CRYPTO_ERR 1).wf engKeys KS.FAILED_TEST test).cue 0x6027 [byte test, 0, 0, 0]).logEng 0x0007 engKeys [byte test]

/-! ### The release buffer of the DRBG (R272, R273) -/

/-- Bytes in the release buffer. -/
def releaseSize : Nat := 4096

/-- Output that commands and consumers inside the part wait for, as it stands in the release buffer. -/
def State.rngHeld (s : State) : List (List Byte × Bool) :=
  (s.chan.waits.filterMap fun w => match w.why with
    | .rng _ out passed => some (out, passed)
    | _ => none) ++ s.cry.rng.inner.map fun x => (x.out, x.passed)

/-- Bytes that the release buffer holds. -/
def State.rngLoad (s : State) : Nat := (s.rngHeld.map fun x => x.1.length).sum

def State.modRng (s : State) (f : Rng → Rng) : State := { s with cry := { s.cry with rng := f s.cry.rng } }

/-- A reseed (R272): 1,024 conditioned samples give its entropy input, and the generate requests count anew. -/
def State.reseed (s : State) : State := (s.modRng fun r => { r with requests := 0, samples := 0 }).bump engDrbg RNG.RESEEDS

/-- Generate requests between two reseeds, and the conditioned samples that one takes. -/
def reseedAfter : Nat := 65536
def seedSamples : Nat := 1024

/-- One generate request for `n` bytes (R272, R273), free values: none while the DRBG does not run, while its buffer has no room, or while a reseed is due
and its samples are still to come. A request beyond the buffer's size has the whole buffer, in turns (log entry 149). -/
def State.generate (s : State) (n : Nat) : Option (List Byte × State) :=
  if s.rf engDrbg RNG.STATE ≠ 2 || !(s.rngLoad = 0 || s.rngLoad + n ≤ releaseSize) then none
  else if s.cry.rng.requests < reseedAfter then some ((s.modRng fun r => { r with requests := r.requests + 1 }).drawBytes n)
  else if s.cry.rng.samples < seedSamples then none
  else some ((s.reseed.modRng fun r => { r with requests := 1 }).drawBytes n)

/-- How DRBG output reaches a command: `later`, it is generated, and the command waits for its window; `now`, the window in which it is generated passes
before the step ends; `given`, output that was generated for it before, whose window has passed. -/
inductive Release where
  | later
  | now
  | given (out : List Byte)

/-- The release that a row's operand asks for. -/
def Release.within (released : Bool) : Release := if released then .now else .later

/-- A command takes `n` bytes of DRBG output (R273): refused while the DRBG is stopped, waiting while it starts up, while its output is not generated or not
released, or while what else it needs is not `ready`; else `go` gets the bytes. -/
def State.rngGate (s : State) (rel : Release) (ready : Bool) (n : Nat) (go : List Byte → State → Act) : Act :=
  let hold (s : State) (out : List Byte) (passed : Bool) : Act := { st := s, wait := some (.rng n out passed) }
  if s.rf engDrbg RNG.STATE = 0 || s.rf engDrbg RNG.STATE = 3 then .say s St.rngFail
  else
    match rel with
    | .given out => if out.length = n && ready then go out (s.bumpN engDrbg RNG.BYTES_OUT n) else hold s out (out.length = n)
    | _ =>
      match s.generate n with
      | none => hold s [] false
      | some (out, s) =>
        match rel with
        | .now => if ready then go out (s.bumpN engDrbg RNG.BYTES_OUT n) else hold s out true
        | _ => hold s out false

/-- Whether an authenticated maintenance session is open (R69). -/
def State.maintOpen (s : State) : Bool := s.chan.sessions.any fun x => x.2.authed && x.2.maint

/-- SESSION_OPEN's refusals, in the order of its table (R68, R69, R72, R73, R274). -/
def sessionOpenChecks (r : Req) (s : State) : Chk :=
  let officer := decide (fld r.payload 0 1 = 1)
  checks
    [need (!s.chan.lockout) St.roleDenied,
     need (!(officer && s.maintOpen)) St.roleDenied,
     need (!(officer && s.chan.officerA.isNone && !(r.carrier = .uart))) St.roleDenied,
     need (officer || s.chan.maintA.isSome) St.roleDenied,
     need (decide (s.chan.sessions.length < 4)) St.exhausted,
     need (!(s.rf engDrbg RNG.STATE = 0 || s.rf engDrbg RNG.STATE = 3)) St.rngFail]

/-- A session number that no open session has, not 0: a free value, or the lowest free one. -/
def State.newSessionId (s : State) : Nat × State :=
  let (c, s) := s.draw 16
  if c = 0 || s.chan.sessions.has c then ((s.chan.sessions.freeFrom 1 5).getD 1, s) else (c, s)

/-- The session key of R70. -/
def sessionKey (priv : BitVec 384) (hostPub hostNonce partNonce : List Byte) (id : Nat) : BitVec 384 :=
  let z := be 48 (Config.ecdh priv hostPub).toNat
  let label : List Byte := [0x56, 0x75, 0x65, 0x73, 0x68, 0x20, 0x73, 0x65, 0x73, 0x73, 0x69, 0x6F, 0x6E]
  Config.sha384 (be 4 1 ++ z ++ label ++ hostNonce ++ partNonce ++ le 2 id)

/-- Bytes that SESSION_OPEN takes: the nonce and the ephemeral private key (R273). -/
def sessionBytes : Nat := 80

/-- SESSION_OPEN with the DRBG's output: keys generated, pair-wise consistency tested (R284), session created. -/
def sessionOpenDone (pct : Bool) (r : Req) (out : List Byte) (s : State) : Act :=
  if !pct then .say (s.enterError 8) St.unitFailed
  else
    let (id, s) := s.newSessionId
    let nonce := out.take 32
    let priv : BitVec 384 := BitVec.ofNat 384 (beVal (out.drop 32))
    let pub := be 97 (Config.p384Public priv).toNat
    let reply := le 2 id ++ zeros 2 ++ nonce ++ pub ++ zeros 3
    let x : Session :=
      { carrier := r.carrier, maint := decide (fld r.payload 0 1 = 2),
        key := sessionKey priv (part r.payload 36 97) (part r.payload 4 32) nonce id,
        transcript := Config.sha384 (r.payload ++ reply) }
    { st := { s with chan := { s.chan with sessions := s.chan.sessions.put id x } }, payload := reply }

/-- `pct`: the pair-wise consistency test passes. `rel`: how the DRBG's output reaches the command (R273). -/
def sessionOpenCmd (pct : Bool) (rel : Release) : Cmd where
  op := 0x0020
  len := fun n => n = 136
  params := fun _ r _ =>
    checks
      [param (fld r.payload 0 1 = 1 || fld r.payload 0 1 = 2) 0, resv r.payload 1 3,
       param (Config.p384Valid (part r.payload 36 97)) 36, resv r.payload 133 3]
  recovery := true
  needs := fun _ => [engDrbg]
  domains := fun _ _ => [12]
  act := fun _ r s =>
    match sessionOpenChecks r s with
    | some f => .fail s f
    | none => s.rngGate rel true sessionBytes (sessionOpenDone pct r)

/-- SESSION_OPEN (R68). `released`: the entropy window in which its output is generated passes before the step ends. -/
def execSessionOpen (r : Req) (pct released : Bool) (s : State) : Host.Outcome State Fault Refusal :=
  .next (runCmd (sessionOpenCmd pct (.within released)) r s)

def sessionCloseCmd : Cmd where
  op := 0x0022
  signed := true
  len := fun n => n = 0
  target := fun _ _ => none
  recovery := true
  act := fun _ r s =>
    if s.chan.sessions.has r.session.toNat then
      .say ({ s with chan := { s.chan with sessions := s.chan.sessions.del r.session.toNat } }.dropUpdate r.session.toNat) St.ok
    else .say s St.roleDenied

/-- SESSION_CLOSE (R68). -/
def execSessionClose (r : Req) (s : State) : Host.Outcome State Fault Refusal := .next (runCmd sessionCloseCmd r s)

/-- SESSION_IDLE_TIMEOUT (R68): an authenticated session has sent nothing for 600 s. -/
def execSessionIdleTimeout (id : BitVec 16) (s : State) : Host.Outcome State Fault Refusal :=
  match s.chan.sessions.look id.toNat with
  | some x => if x.authed then .next (s.closeSession id.toNat 1) else .next s
  | none => .next s

/-- SESSION_AUTH_TIMEOUT (R68): closes without a cue. -/
def execSessionAuthTimeout (id : BitVec 16) (s : State) : Host.Outcome State Fault Refusal :=
  match s.chan.sessions.look id.toNat with
  | some x => if x.authed then .next s else .next (s.closeSession id.toNat 1)
  | none => .next s

/-- AUTH_LOCKOUT_END (R73). -/
def execAuthLockoutEnd (s : State) : Host.Outcome State Fault Refusal :=
  .next { s with chan := { s.chan with lockout := false } }

end Sys2Proof.Machine
end

