-- ==== Sys2Proof/Machine/TdmBase.lean ====
section
/-! DEFINITION. A circuit's playout states and the context of its playout job (R187, R188). -/
namespace Sys2Proof.Machine

def State.modTdm (s : State) (f : Tdm → Tdm) : State := { s with tdm := f s.tdm }
def State.circ (s : State) (c : Nat) : CircRt := s.tdm.rt.get c {}
def State.modCirc (s : State) (c : Nat) (f : CircRt → CircRt) : State := s.modTdm fun t => { t with rt := t.rt.upd c {} f }

/-- The tick that a playout job of a circuit with no playout time waits for: the farthest that R331 takes (log entry 141). -/
def State.idleDue (s : State) : Nat := (s.disp.tick + 16777215) % 2 ^ 32

/-- A playout job that runs, or that is on its delay list, waits for a tick (R187, R326); one that is READY waits to be taken. -/
def State.rearm (s : State) (ctx : Option Nat) (due : Nat) : State :=
  match ctx with
  | some n =>
    match s.disp.jobs.look n with
    | some j =>
      if j.state = .running || j.state = .delayed then
        let k := s.disp.entries
        { s with disp := { s.disp with
            entries := k + 1
            jobs := s.disp.jobs.put n { j with state := .delayed, due := some due, entered := k } } }
      else s
    | none => s
  | none => s

/-- The playout job waits without a playout time. -/
def State.parkJob (s : State) (ctx : Option Nat) : State := s.rearm ctx s.idleDue

/-- A circuit changes state: CIRCUIT_STATE (R200). -/
def State.circTo (s : State) (c new cause : Nat) : State :=
  let x := s.circ c
  if x.state = new then s
  else (s.modCirc c fun x => { x with state := new }).cue 0x4003 (le 2 c ++ [byte x.state, byte new, byte cause, 0, 0, 0])

/-- A circuit's buffer emptied and its playout stopped. -/
def State.circEmpty (s : State) (c : Nat) : State :=
  (s.modCirc c fun x => { x with run := [], held := [], filled := 0, earlyRun := 0, top := none, lastHeld := none, sp := none }).parkJob (s.circ c).ctx

/-- Circuits on the active page whose RX SA is `sa`. -/
def State.circsOn (s : State) (sa : Nat) : List Nat := (s.tdm.act.circs.filter fun c => c.2.rxSa = sa).map (·.1)

/-- The RX SA becomes EXPIRED (R188). -/
def State.circExpire (s : State) (sa : Nat) : State :=
  (s.circsOn sa).foldl (fun s c => if (s.circ c).state = 0 then s else (s.circEmpty c).circTo c 4 4) s

/-- The RX SA is no longer EXPIRED (R188). -/
def State.circRestore (s : State) (sa : Nat) : State :=
  (s.circsOn sa).foldl (fun s c => if (s.circ c).state = 4 then s.circTo c 1 5 else s) s

end Sys2Proof.Machine
end

