-- ==== Sys2Proof/Machine/Keys.lean ====
section
/-! DEFINITION. The keystore: slots, security associations, key entry, and their commands (R224 to R232, R254 to R270, R491). -/
namespace Sys2Proof.Machine

/-! ### Slots (R260 to R264) -/

/-- SLOTS_USED and HWM_SLOTS follow the slots. -/
def State.noteSlots (s : State) : State :=
  (s.wf engKeys KS.SLOTS_USED s.cry.slots.length).raiseTo engKeys KS.HWM_SLOTS s.cry.slots.length

/-- A key committed or generated into a slot. -/
def State.putSlot (s : State) (n : Nat) (x : Slot) : State :=
  let s := (s.uncache n).modCry fun c => { c with slots := c.slots.put n x, zeroed := c.zeroed.filter (· != n) }
  ((s.wf engKeys KS.ZEROIZED 0).bump engKeys KS.KS_COMMITS).noteSlots

/-- A slot emptied by command or by a roll. -/
def State.eraseSlot (s : State) (n : Nat) : State := ((s.uncache n).modCry fun c => { c with slots := c.slots.del n }).noteSlots

def State.modSlot (s : State) (n : Nat) (f : Slot → Slot) : State := s.modCry fun c => { c with slots := c.slots.adj n f }
def State.modSa (s : State) (n : Nat) (f : Sa → Sa) : State := s.modCry fun c => { c with sas := c.sas.adj n f }

/-- The slots an SA names: current, successor, previous. -/
def Sa.slots (x : Sa) : List Nat := x.cur :: (x.next.map (·.1)).toList ++ x.prev.toList

/-- The SA that names a slot. -/
def State.namer (s : State) (n : Nat) : Option (Nat × Sa) := s.cry.sas.find? fun x => x.2.slots.contains n

/-- Whether a slot holds a key and is bound, or waits for its erasure under R267. -/
def State.slotBound (s : State) (n : Nat) : Bool :=
  (s.cry.slots.has n && (s.namer n).isSome) || s.cry.olds.any fun o => o.old = n

/-- A command needs a key from a slot (R264). -/
def State.slotNeed (s : State) (n : Nat) : Chk :=
  if s.cry.slots.has n then none else if s.cry.zeroed.contains n then some (St.zeroized, 0) else some (St.notReady, 0)

/-- Whether a slot is free for a command that asks for the first free one (R263). -/
def State.slotFree (s : State) (n : Nat) : Bool :=
  !s.cry.slots.has n && !s.cry.retired.contains n && (s.namer n).isNone && !s.cry.olds.any fun o => o.old = n

/-- The first free slot from `n` on, among `k`. -/
def State.freeSlot (s : State) (n : Nat) : Nat → Option Nat
  | 0 => none
  | k + 1 => if s.slotFree n then some n else s.freeSlot (n + 1) k

/-- A refusal under R263: counted, and KEYSTORE_FULL raised. -/
def State.keystoreFull (s : State) (op : Nat) : State :=
  (s.bump engKeys KS.KS_FULL_CNT).cue 0x6020 (le 4 s.cry.slots.length ++ le 2 op ++ [0, 0])

/-! ### Format blocks (R231, R232) -/

/-- A format block read from 32 bytes. -/
def parseFmt (p : List Byte) : Fmt :=
  { format := fld p 0 1, dir := fld p 1 1, sel := fld p 2 1, sciA := beVal (part p 4 8), fixedA := fld p 12 4,
    sciB := beVal (part p 16 8), fixedB := fld p 24 4, window := fld p 28 2, alarm := fld p 30 2 }

def Fmt.tx (f : Fmt) : Bool := f.dir = 1
def Fmt.macsec (f : Fmt) : Bool := f.format = 1 || f.format = 2
/-- Bytes of key that a format takes. -/
def Fmt.keyLen (f : Fmt) : Nat := if f.format = 1 then 16 else 32
/-- Bytes of tag. -/
def Fmt.tagLen (f : Fmt) : Nat := if f.format = 0x10 then 8 else 16
/-- Bytes that a seal adds to a frame (R234, R237). -/
def Fmt.overhead (f : Fmt) : Nat := if f.macsec then 32 else 12 + f.tagLen

/-- A format block at payload offset `off` refused (R231, R232). -/
def Fmt.check (f : Fmt) (p : List Byte) (off : Nat) : Chk :=
  checks
    [param ([1, 2, 0x10, 0x11].contains f.format) off, param (f.dir = 1 || f.dir = 2) (off + 1),
     param (f.sel = 0 || f.sel = 1 && !f.macsec && f.tx) (off + 2), param (fld p 3 1 = 0) (off + 3),
     param ((f.sciA = 0) = !f.macsec) (off + 4), param ((f.fixedA = 0) = f.tx) (off + 12),
     param (f.sciB = 0 || f.macsec && !f.tx) (off + 16),
     param (if f.tx then f.fixedB = 0 else (f.fixedB = 0 || f.fixedB ≠ f.fixedA) && (!f.macsec || (f.sciB = 0) = (f.fixedB = 0))) (off + 24),
     param (f.window ≤ (if f.tx then 0 else 4096)) (off + 28)]

/-- Whether a receive SCI of a block is held by another receive SA (R232). -/
def State.sciTaken (s : State) (sa : Nat) (f : Fmt) : Bool :=
  f.macsec && !f.tx && s.cry.sas.any fun x =>
    x.1 ≠ sa && x.2.fmt.macsec && !x.2.fmt.tx &&
      [x.2.fmt.sciA, x.2.fmt.sciB].any fun c => c ≠ 0 && (c = f.sciA || c = f.sciB)

/-- Whether a slot's key suits an SA (R255). -/
def Slot.suits (x : Slot) (f : Fmt) (mgmt : Bool) : Bool := x.usage = (if mgmt then 2 else 1) && x.key.length = f.keyLen

/-! ### Switch and promotion (R267 to R269) -/

/-- SA_ROLLED (R290). -/
def State.rolledCue (s : State) (sa dir an new old : Nat) : State :=
  s.cue 0x6022 (le 2 sa ++ [byte dir, byte an] ++ le 2 new ++ le 2 old)

/-- Whether a seal in flight holds a counter from a slot. -/
def State.slotInFlight (s : State) (n : Nat) : Bool := s.cry.msgs.any fun m => m.isSeal && m.started && m.slot = n && m.status = 0

/-- A transmit SA switches to its successor (R267). -/
def State.switchTx (s : State) (n : Nat) : State :=
  match s.cry.sas.look n with
  | none => s
  | some x =>
    match x.next with
    | none => s
    | some (new, _) =>
      let an := (x.an + 1) % 4
      let s := (s.uncache x.cur).uncache new
      let s := (s.modSa n fun x => { x with cur := new, an := an, next := none, expired := false }).bump engKeys KS.KS_ROLLS
      if s.slotInFlight x.cur then s.modCry fun c => { c with olds := c.olds ++ [{ sa := n, old := x.cur, new := new, an := an }] }
      else (s.eraseSlot x.cur).rolledCue n 1 an new x.cur

/-- Old slots whose last seal has ended are erased (R267). -/
def State.settleOlds (s : State) : State :=
  s.cry.olds.foldl (fun s o =>
    if s.slotInFlight o.old then s
    else
      ((s.modCry fun c => { c with olds := c.olds.filter (· != o) }).eraseSlot o.old).rolledCue o.sa 1 o.an o.new o.old) s

/-- A receive SA's successor is promoted (R268). -/
def State.promoteRx (s : State) (n : Nat) : State :=
  match s.cry.sas.look n with
  | none => s
  | some x =>
    match x.next with
    | none => s
    | some (new, _) =>
      let an := (x.an + 1) % 4
      let s := match x.prev with
        | some p => s.eraseSlot p
        | none => s
      let s := (s.uncache x.cur).uncache new
      let s := s.modSa n fun x => { x with cur := new, an := an, next := none, prev := some x.cur, expired := false }
      (s.bump engKeys KS.KS_ROLLS).rolledCue n 2 an new x.cur

/-- A switch or a promotion, by the SA's direction; circuits on an SA that was EXPIRED follow (R188, R269). -/
def State.rollSa (s : State) (n : Nat) : State :=
  match s.cry.sas.look n with
  | some x =>
    let s := if x.fmt.tx then s.switchTx n else s.promoteRx n
    if x.expired then s.circRestore n else s
  | none => s

/-- An SA becomes EXPIRED (R266, R268): counted, SA_EXPIRED, circuits follow. -/
def State.expireSa (s : State) (n : Nat) : State :=
  match s.cry.sas.look n with
  | some x =>
    let s := (s.modSa n fun x => { x with expired := true }).bump engKeys KS.KS_EXPIRIES
    (s.cue 0x6023 (le 2 n ++ [byte x.fmt.dir, byte x.an] ++ le 2 x.cur ++ [0, 0])).circExpire n
  | none => s

/-- RX_OVERLAP_EXPIRY (R268): the previous slot is erased. -/
def execRxOverlapExpiry (sa : BitVec 16) (s : State) : Host.Outcome State Fault Refusal :=
  match (s.cry.sas.look sa.toNat).bind fun x => x.prev with
  | some p => .next ((s.modSa sa.toNat fun x => { x with prev := none }).eraseSlot p)
  | none => .next s

/-! ### The entry buffer (R256 to R258, R286) -/

/-- The entry buffer's 64 bytes. -/
def State.entryBytes (s : State) : List Byte := (List.range 16).flatMap fun i => le 4 (s.rf engCmd (VS.KE_DATA.idx i))

/-- The buffer cleared. -/
def State.clearEntry (s : State) : State :=
  ((List.range 16).foldl (fun s i => s.clearFld engCmd (VS.KE_DATA.idx i)) s).clearFld engCmd VS.FILLED

/-- A write of KE_DATAi (R286). -/
def State.writeKeData (s : State) (i v : Nat) : State :=
  (s.wf engCmd (VS.KE_DATA.idx i) v).wf engCmd VS.FILLED (s.rf engCmd VS.FILLED ||| 2 ^ i)

/-- KE_DATA_WRITE (R256). -/
def execKeDataWrite (word : Fin 16) (v : Word) (s : State) : Host.Outcome State Fault Refusal := .next (s.writeKeData word.val v.toNat)

/-- KE_CLEAR_WRITE (R258): a 1 in CLEAR clears the buffer. -/
def execKeClearWrite (v : Word) (s : State) : Host.Outcome State Fault Refusal :=
  if v.getLsbD 0 then .next s.clearEntry else .next s

/-- KE_BUFFER_TIMEOUT (R258): 10 s after the last write of a KE_DATA word. -/
def execKeBufferTimeout (s : State) : Host.Outcome State Fault Refusal := .next s.clearEntry

/-! ### Key records (R254, R255) -/

/-- BAD_PARAM at an offset of the buffer or of the record (R257). -/
def recBad (off : Nat) : Nat × Nat := (St.badParam, 0x8000 + off)

/-- A record refused: its first offending byte. `fit` is the SA that names the slot, if one does. -/
def recCheck (p : List Byte) (fit : Option (Fmt × Bool)) : Chk :=
  let len := fld p 44 1
  let usage := fld p 45 1
  let lenOk : Bool := (len = 0x10 || len = 0x20) && (usage ≠ 4 || len = 0x20) && (usage ≠ 5 || len = 0x10) &&
    (match fit with
     | some (f, _) => len = f.keyLen
     | none => true)
  let useOk : Bool := 1 ≤ usage && usage ≤ 5 &&
    (match fit with
     | some (_, mgmt) => usage = (if mgmt then 2 else 1)
     | none => true)
  let bad (o : Option Nat) : Chk := o.map recBad
  checks
    [if len = 0x10 then bad (firstNonzero p 16 16) else none,
     if usage = 1 || usage = 2 then none else bad (firstNonzero p 32 12),
     if lenOk then none else bad (some 44), if useOk then none else bad (some 45), bad (firstNonzero p 46 2)]

/-- The slot that a record fills. -/
def recSlot (p : List Byte) : Slot := { key := p.take (fld p 44 1), salt := part p 32 12, usage := fld p 45 1 }

/-- The record of a slot (R254). -/
def Slot.record (x : Slot) : List Byte :=
  x.key ++ zeros (32 - x.key.length) ++ (if x.usage = 1 || x.usage = 2 then x.salt else zeros 12) ++ [byte x.key.length, byte x.usage, 0, 0]

/-- The key of a KEK slot (R257): NOT_READY, ZEROIZED, or BAD_PARAM at `off` when it is not a KEK. -/
def State.kekOf (s : State) (n off : Nat) : Except (Nat × Nat) (List Byte) :=
  match s.slotNeed n with
  | some f => .error f
  | none =>
    match s.cry.slots.look n with
    | some x => if x.usage = 3 then .ok x.key else .error (St.badParam, off)
    | none => .error (St.notReady, 0)

/-- KEY_COMMIT's content (R257 checks 1 to 5): the record, a failure, or nothing yet while the key-wrap unit has no engine (R202, R210). -/
def keyContent (p : List Byte) (s : State) : Option (Except (Nat × Nat) (List Byte)) × State :=
  let buf := s.entryBytes
  let wrapped : Bool := fld p 2 1 = 1
  let words := if wrapped then 14 else 12
  let bad (f : Nat × Nat) : Option (Except (Nat × Nat) (List Byte)) × State := (some (.error f), s)
  if s.rf engCmd VS.FILLED % 2 ^ words ≠ 2 ^ words - 1 then bad (St.notReady, 0)
  else if (be 48 (Config.sha384 buf).toNat).take 4 ≠ part p 8 4 then bad (St.integrity, 0)
  else
    match firstNonzero buf (4 * words) (64 - 4 * words) with
    | some o => bad (recBad o)
    | none =>
      if !wrapped then (some (.ok (buf.take 48)), s)
      else
        match s.kekOf (fld p 4 2) 4, s.borrow with
        | .error f, _ => bad f
        | .ok _, none => (none, s)
        | .ok kek, some u =>
          let s := s.kwUse u (some (fld p 4 2)) 6
          match Config.kwUnwrap kek (buf.take 56) with
          | none => (some (.error (St.integrity, 0)), s.bump engWrap KW.KW_FAILS)
          | some v => (some (.ok (be 48 v)), s.bump engWrap KW.KW_UNWRAPS)

/-- Where a key goes: a slot named by command, or the first free one (R257 check 7, R263). -/
def State.slotFor (s : State) (any : Bool) (n op : Nat) : Except (Nat × Nat) Nat × State :=
  if any then
    match s.freeSlot 0 65536 with
    | some m => (.ok m, s)
    | none => (.error (St.exhausted, 0), s.keystoreFull op)
  else if s.cry.slots.has n || s.cry.retired.contains n || s.cry.olds.any (fun o => o.old = n) then (.error (St.collision, 0), s)
  else (.ok n, s)

/-- KEY_COMMIT from check 1 of R257 on. -/
def keyCommit (p : List Byte) (s : State) : Act :=
  match keyContent p s with
  | (none, s) => { st := s, wait := some (.engineRun 0x0620) }
  | (some (.error f), s) => .fail (if f.1 = St.integrity then s.bump engKeys KS.KS_UNWRAP_FAIL else s) f
  | (some (.ok r), s) =>
    let any := bitOf (fld p 3 1) 0
    let fit := if any then none else (s.namer (fld p 0 2)).map fun x => (x.2.fmt, x.2.mgmt)
    if fld r 45 1 = 5 then
      match recCheck r none with
      | some f => .fail s f
      | none =>
        if fld p 0 2 > 63 then .say s St.badParam
        else
          let s := { s with pon := { s.pon with msk := s.pon.msk.put (fld p 0 2) (BitVec.ofNat 128 (beVal (r.take 16))) } }
          { st := (s.wf engKeys KS.ZEROIZED 0).bump engKeys KS.KS_COMMITS, payload := part p 0 2 ++ [0, 0] }
    else
      match recCheck r fit with
      | some f => .fail s f
      | none =>
        match s.slotFor any (fld p 0 2) 0x0620 with
        | (.error f, s) => .fail s f
        | (.ok n, s) => { st := s.putSlot n (recSlot r), payload := le 2 n ++ [0, 0] }

def keyCommitCmd : Cmd where
  op := 0x0620
  len := fun n => n = 12
  params := fun role r _ =>
    let p := r.payload
    checks
      [param (fld p 2 1 < 2) 2, need (fld p 2 1 = 1 || role = .officer) St.roleDenied, param (fld p 3 1 < 2) 3, resv p 6 2]
  needs := fun r => if fld r.payload 2 1 = 1 then [engKeys, engWrap] else [engKeys]
  domains := fun _ _ => [12]
  refused := fun st s => (if st = St.integrity then s.bump engKeys KS.KS_UNWRAP_FAIL else s).clearEntry
  act := fun _ r s =>
    let a := keyCommit r.payload s
    if a.wait.isSome then a else { a with st := a.st.clearEntry }

/-- KEY_COMMIT (R257). -/
def execKeyCommit (r : Req) (s : State) : Host.Outcome State Fault Refusal := .next (runCmd keyCommitCmd r s)

/-! ### Generation (R273, R274) -/

/-- Bytes that a generated key takes: the key, and the salt of a usage that seals (R254, R273). -/
def drawLen (usage len : Nat) : Nat := if usage = 1 || usage = 2 then len + 12 else len

/-- A slot made of DRBG output. -/
def drawnSlot (usage len : Nat) (out : List Byte) : Slot :=
  { key := out.take len, salt := if usage = 1 || usage = 2 then part out len 12 else zeros 12, usage := usage }

/-- A record wrapped under a KEK, 56 bytes. -/
def wrapRecord (kek : List Byte) (x : Slot) : List Byte := be 56 (Config.kwWrap kek x.record)

/-- KEY_GENERATE's checks and effect. Its record is wrapped on a borrowed engine; the command waits where there is none (R210). -/
def keyGenerate (rel : Release) (p : List Byte) (s : State) : Act :=
  let any := bitOf (fld p 2 1) 0
  let usage := fld p 3 1
  let len := fld p 4 1
  match s.kekOf (fld p 6 2) 6 with
  | .error f => .fail s f
  | .ok kek =>
    let fit := if any then none else s.namer (fld p 0 2)
    let useOk : Bool := match fit with
      | some x => usage = (if x.2.mgmt then 2 else 1)
      | none => true
    let lenOk : Bool := match fit with
      | some x => len = x.2.fmt.keyLen
      | none => true
    match Chk.andThen (param useOk 3) (param lenOk 4) with
    | some f => .fail s f
    | none =>
      match s.slotFor any (fld p 0 2) 0x0621 with
      | (.error f, s) => .fail s f
      | (.ok n, s) =>
        let u := s.borrow
        s.rngGate rel u.isSome (drawLen usage len) fun out s =>
          let x := drawnSlot usage len out
          let s := (s.kwUse (u.getD 0) (some (fld p 6 2)) 6).bump engWrap KW.KW_WRAPS
          { st := s.putSlot n x, payload := le 2 n ++ [0, 0] ++ wrapRecord kek x }

/-- `rel` as in SESSION_OPEN. -/
def keyGenerateCmd (rel : Release) : Cmd where
  op := 0x0621
  role := .officer
  len := fun n => n = 8
  params := fun _ r _ =>
    let p := r.payload
    checks
      [param (fld p 2 1 < 2) 2, param (1 ≤ fld p 3 1 && fld p 3 1 ≤ 4) 3,
       param (fld p 4 1 = 0x20 || fld p 4 1 = 0x10 && fld p 3 1 ≠ 4) 4, resv p 5 1]
  needs := fun _ => [engKeys, engWrap, engDrbg]
  domains := fun _ _ => [12]
  act := fun _ r s => keyGenerate rel r.payload s

/-- KEY_GENERATE (R254, R273). -/
def execKeyGenerate (r : Req) (released : Bool) (s : State) : Host.Outcome State Fault Refusal :=
  .next (runCmd (keyGenerateCmd (.within released)) r s)

def keyEraseCmd : Cmd where
  op := 0x0622
  role := .officer
  len := fun n => n = 4
  params := fun _ r _ =>
    let p := r.payload
    checks [param (fld p 2 1 < 2) 2, param (fld p 2 1 = 0 || fld p 0 2 < 64) 0, resv p 3 1]
  needs := fun _ => [engKeys]
  domains := fun _ _ => [12]
  act := fun _ r s =>
    let n := fld r.payload 0 2
    if fld r.payload 2 1 = 1 then
      if s.pon.msk.has n then .say { s with pon := { s.pon with msk := s.pon.msk.del n } } St.ok else .say s St.noChange
    else if s.slotBound n then .say s St.collision
    else if s.cry.slots.has n then .say (s.eraseSlot n) St.ok
    else .say s St.noChange

/-- KEY_ERASE (R270). -/
def execKeyErase (r : Req) (s : State) : Host.Outcome State Fault Refusal := .next (runCmd keyEraseCmd r s)

/-! ### SA commands -/

/-- SA_USED follows the table. -/
def State.noteSas (s : State) : State := s.wf engKeys KS.SA_USED s.cry.sas.length

/-- The SA that SA_CREATE makes on a slot. -/
def saOf (p : List Byte) (slot : Nat) : Sa :=
  { fmt := parseFmt (p.drop 20), mgmt := bitOf (fld p 6 1) 0, cur := slot, an := fld p 5 1,
    rollAt := if fld p 8 8 = 0 then 2 ^ 51 else fld p 8 8, overlap := fld p 18 2 }

def State.putSa (s : State) (n : Nat) (x : Sa) : State := (s.modCry fun c => { c with sas := c.sas.put n x }).noteSas

/-- SA_CREATE's checks and effect. -/
def saCreate (rel : Release) (p : List Byte) (s : State) : Act :=
  let n := fld p 0 2
  let slot := fld p 2 2
  let x := saOf p slot
  if s.cry.sas.has n then .say s St.collision
  else if s.sciTaken n x.fmt then .say s St.collision
  else if fld p 4 1 = 0 then
    match s.cry.slots.look slot with
    | none => .fail s ((s.slotNeed slot).getD (St.notReady, 0))
    | some k =>
      if s.slotBound slot then .say s St.collision
      else if !k.suits x.fmt x.mgmt then .say s St.badParam 2
      else { st := s.putSa n x, payload := le 2 slot ++ zeros 58 }
  else
    match s.kekOf (fld p 16 2) 16 with
    | .error f => .fail s f
    | .ok kek =>
      match s.slotFor true 0 0x0623 with
      | (.error f, s) => .fail s f
      | (.ok m, s) =>
        let u := s.borrow
        s.rngGate rel u.isSome (x.fmt.keyLen + 12) fun out s =>
          let k := drawnSlot (if x.mgmt then 2 else 1) x.fmt.keyLen out
          let s := (s.kwUse (u.getD 0) (some (fld p 16 2)) 6).bump engWrap KW.KW_WRAPS
          let s := (s.putSlot m k).putSa n { x with cur := m }
          { st := s, payload := le 2 m ++ [0, 0] ++ wrapRecord kek k }

/-- DRBG output that SA_CREATE asks for: none where the key is in a slot already. -/
def saCreateBytes (p : List Byte) : Nat := if fld p 4 1 = 1 then (parseFmt (p.drop 20)).keyLen + 12 else 0

/-- `rel` as in SESSION_OPEN. -/
def saCreateCmd (rel : Release) : Cmd where
  op := 0x0623
  role := .officer
  len := fun n => n = 52
  stage := true
  params := fun _ r _ =>
    let p := r.payload
    let f := parseFmt (p.drop 20)
    checks
      [param (fld p 4 1 < 2) 4, param (fld p 5 1 < 4) 5, param (fld p 6 1 < 2) 6, resv p 7 1, param (fld p 8 8 ≤ 2 ^ 52) 8,
       param (fld p 18 2 ≤ (if f.tx then 0 else 10000)) 18, f.check (p.drop 20) 20]
  needs := fun r => if fld r.payload 4 1 = 1 then [engKeys, engWrap, engDrbg] else [engKeys]
  domains := fun _ _ => [12]
  act := fun _ r s => saCreate rel r.payload s

/-- SA_CREATE (R265). -/
def execSaCreate (r : Req) (released : Bool) (s : State) : Host.Outcome State Fault Refusal :=
  .next (runCmd (saCreateCmd (.within released)) r s)

/-- SA_STAGE's effect (R269, R270). -/
def saStage (p : List Byte) (s : State) : Act :=
  let n := fld p 0 2
  let slot := fld p 2 2
  let mode := fld p 4 1
  match s.cry.sas.look n with
  | none => .say s St.notReady
  | some x =>
    if x.next = some (slot, mode) then .say s St.noChange
    else if (x.next.map (·.1)) = some slot then .say (s.modSa n fun x => { x with next := some (slot, mode) }) St.ok
    else
      match s.cry.slots.look slot with
      | none => .fail s ((s.slotNeed slot).getD (St.notReady, 0))
      | some k =>
        if s.slotBound slot then .say s St.collision
        else if !k.suits x.fmt x.mgmt then .say s St.badParam 2
        else
          let s := s.modSa n fun x => { x with next := some (slot, mode) }
          .say (if x.expired then s.rollSa n else s) St.ok

def saStageCmd : Cmd where
  op := 0x0624
  role := .officer
  len := fun n => n = 8
  stage := true
  params := fun _ r _ => checks [param (fld r.payload 4 1 < 2) 4, resv r.payload 5 3]
  needs := fun _ => [engKeys]
  domains := fun _ _ => [12]
  act := fun _ r s => saStage r.payload s

/-- SA_STAGE (R269, R270). -/
def execSaStage (r : Req) (s : State) : Host.Outcome State Fault Refusal := .next (runCmd saStageCmd r s)

def saRollCmd : Cmd where
  op := 0x0625
  role := .officer
  len := fun n => n = 4
  params := fun _ r _ => resv r.payload 2 2
  needs := fun _ => [engKeys]
  domains := fun _ _ => [12]
  act := fun _ r s =>
    let n := fld r.payload 0 2
    match (s.cry.sas.look n).bind fun x => x.next with
    | some _ => .say (s.rollSa n) St.ok
    | none => .say s St.notReady

/-- SA_ROLL (R267, R268). -/
def execSaRoll (r : Req) (s : State) : Host.Outcome State Fault Refusal := .next (runCmd saRollCmd r s)

/-- Whether a circuit on either TDM page names an SA. -/
def State.saInCircuit (s : State) (n : Nat) : Bool :=
  (s.tdm.act.circs ++ s.tdm.stby.circs).any fun c => c.2.txSa = n || c.2.rxSa = n

def saDeleteCmd : Cmd where
  op := 0x0626
  role := .officer
  len := fun n => n = 4
  stage := true
  params := fun _ r _ => checks [param (fld r.payload 2 1 < 2) 2, resv r.payload 3 1]
  needs := fun _ => [engKeys]
  domains := fun _ _ => [12]
  act := fun _ r s =>
    let n := fld r.payload 0 2
    match s.cry.sas.look n with
    | none => .say s St.noChange
    | some x =>
      if s.saInCircuit n then .say s St.collision
      else
        let s := (s.modCry fun c => { c with sas := c.sas.del n }).noteSas
        .say (if fld r.payload 2 1 = 1 then x.slots.foldl State.eraseSlot s else s) St.ok

/-- SA_DELETE (R265, R267). -/
def execSaDelete (r : Req) (s : State) : Host.Outcome State Fault Refusal := .next (runCmd saDeleteCmd r s)

/-- SA_QUERY's payload. -/
def saReport (s : State) (n : Nat) (x : Sa) : List Byte :=
  let k := s.cry.slots.look x.cur
  let due := (k.map (·.due)).getD false
  let mode := (x.next.map (·.2)).getD 0
  let flags := bit x.next.isSome + 2 * mode + 4 * bit x.prev.isSome + 8 * bit x.mgmt + 16 * bit due
  let vol := (k.map fun k => if x.fmt.tx then k.volume else k.accepted).getD 0
  le 2 n ++ [byte (if x.expired then 2 else 1), byte flags] ++ le 2 x.cur ++ le 2 ((x.next.map (·.1)).getD 0) ++ le 2 (x.prev.getD 0) ++
    [byte x.an, byte x.fmt.dir] ++ le 8 vol ++ le 8 x.rollAt ++ zeros 4

def saQueryCmd : Cmd where
  op := 0x0627
  len := fun n => n = 4
  params := fun _ r _ => resv r.payload 2 2
  needs := fun _ => [engKeys]
  domains := fun _ _ => [12]
  act := fun _ r s =>
    match s.cry.sas.look (fld r.payload 0 2) with
    | none => .say s St.notReady
    | some x => { st := s, payload := saReport s (fld r.payload 0 2) x }

/-- SA_QUERY (R265). -/
def execSaQuery (r : Req) (s : State) : Host.Outcome State Fault Refusal := .next (runCmd saQueryCmd r s)

/-- SA_STATS's payload. -/
def saStats (s : State) (n : Nat) (x : Sa) : List Byte :=
  let k := s.cry.slots.look x.cur
  let a := (k.map fun k => if x.fmt.tx then k.counter else k.repA.h).getD 0
  let b := (k.map fun k => if x.fmt.tx then 0 else k.repB.h).getD 0
  le 2 n ++ [byte x.fmt.format, byte x.fmt.dir, byte x.an, 0, 0, 0] ++ le 8 x.pkts ++ le 8 x.late ++ le 8 x.notValid ++ le 8 x.noSa ++
    le 8 a ++ le 8 b

def saStatsCmd : Cmd where
  op := 0x0604
  len := fun n => n = 4
  params := fun _ r _ => checks [param (fld r.payload 2 1 < 2) 2, resv r.payload 3 1]
  needs := fun _ => [engKeys]
  domains := fun _ _ => [12]
  act := fun _ r s =>
    let n := fld r.payload 0 2
    match s.cry.sas.look n with
    | none => .say s St.notReady
    | some x =>
      { st := if fld r.payload 2 1 = 1 then s.modSa n fun x => { x with pkts := 0, late := 0, notValid := 0, noSa := 0 } else s,
        payload := saStats s n x }

/-- SA_STATS (R220). -/
def execSaStats (r : Req) (s : State) : Host.Outcome State Fault Refusal := .next (runCmd saStatsCmd r s)

/-- A change of a fixed field of a format block: its offset in the block (R232). -/
def Fmt.fixedDiff (a b : Fmt) : Chk :=
  checks
    [param (a.format = b.format) 4, param (a.dir = b.dir) 5, param (a.sel = b.sel) 6, param (a.sciA = b.sciA) 8,
     param (a.fixedA = b.fixedA) 16, param (a.alarm = b.alarm || !a.tx) 34]

/-- Replay history outside a window is forgotten. -/
def Replay.cut (x : Replay) (window : Nat) : Replay := { x with seen := x.seen.filter fun c => decide (x.h + 1 ≤ c + window) }

/-- SA_FORMAT's effect (R232). -/
def saFormat (p : List Byte) (s : State) : Act :=
  let n := fld p 0 2
  let f := parseFmt (p.drop 4)
  match s.cry.sas.look n with
  | none => .say s St.notReady
  | some x =>
    if x.fmt = f then .say s St.noChange
    else
      match x.fmt.fixedDiff f with
      | some e => .fail s e
      | none =>
        if s.sciTaken n f then .say s St.collision
        else
          let newB : Bool := x.fmt.sciB ≠ f.sciB || x.fmt.fixedB ≠ f.fixedB
          let s := s.modSa n fun x => { x with fmt := f }
          .say (x.slots.foldl (fun s k => s.modSlot k fun k =>
            { k with repA := k.repA.cut f.window, repB := if newB then {} else k.repB.cut f.window }) s) St.ok

def saFormatCmd : Cmd where
  op := 0x0601
  role := .officer
  len := fun n => n = 36
  stage := true
  params := fun _ r _ => checks [resv r.payload 2 2, (parseFmt (r.payload.drop 4)).check (r.payload.drop 4) 4]
  needs := fun _ => [engKeys]
  domains := fun _ _ => [12]
  act := fun _ r s => saFormat r.payload s

/-- SA_FORMAT (R232). -/
def execSaFormat (r : Req) (s : State) : Host.Outcome State Fault Refusal := .next (runCmd saFormatCmd r s)

def ivFixedSetCmd : Cmd where
  op := 0x0600
  role := .officer
  len := fun n => n = 4
  params := fun _ r _ => param (fld r.payload 0 4 ≠ 0) 0
  needs := fun _ => [engKeys]
  domains := fun _ _ => [12]
  act := fun _ r s =>
    let v := fld r.payload 0 4
    if s.rf engKeys KS.IV_FIXED = v then .say s St.noChange
    else if s.rf engKeys KS.IV_FIXED ≠ 0 then .say s St.collision
    else .say ((s.wf engKeys KS.IV_FIXED v).wf engKeys KS.FIXED_SRC 2) St.ok

/-- IV_FIXED_SET (R228). -/
def execIvFixedSet (r : Req) (s : State) : Host.Outcome State Fault Refusal := .next (runCmd ivFixedSetCmd r s)

/-! ### ROLE_AUTH_SET -/

/-- The key that wraps authenticators (ROLE_AUTH_SET). -/
def wrapKey (k : BitVec 384) : List Byte :=
  (be 48 (Config.hmac384 (be 48 k.toNat) [0x56, 0x75, 0x65, 0x73, 0x68, 0x20, 0x77, 0x72, 0x61, 0x70]).toNat).take 32

/-- ROLE_AUTH_SET's effect on the authenticators (R72); the key-wrap unit borrows an engine for the unwrap (R202, R210). -/
def roleAuthSet (r : Req) (s : State) : Act :=
  match s.chan.sessions.look r.session.toNat, s.borrow with
  | none, _ => .say s St.roleDenied
  | some _, none => { st := s, wait := some (.engineRun 0x0023) }
  | some x, some u =>
    let s := s.kwUse u none 6
    match Config.kwUnwrap (wrapKey x.key) (part r.payload 4 56) with
    | none => .say (s.bump engWrap KW.KW_FAILS) St.integrity
    | some a =>
      let a : BitVec 384 := BitVec.ofNat 384 a
      let s := s.bump engWrap KW.KW_UNWRAPS
      if fld r.payload 0 1 = 1 then .say { s with chan := { s.chan with officerA := some a } } St.ok
      else .say { s with chan := { s.chan with maintA := some a } } St.ok

def roleAuthSetCmd : Cmd where
  op := 0x0023
  role := .officer
  len := fun n => n = 60
  params := fun _ r _ => checks [param (fld r.payload 0 1 = 1 || fld r.payload 0 1 = 2) 0, resv r.payload 1 3]
  needs := fun _ => [engKeys, engWrap]
  domains := fun _ _ => [12]
  act := fun _ r s => roleAuthSet r s

/-- ROLE_AUTH_SET (R72). -/
def execRoleAuthSet (r : Req) (s : State) : Host.Outcome State Fault Refusal := .next (runCmd roleAuthSetCmd r s)

end Sys2Proof.Machine
end

