-- ==== Sys2Proof/Machine/Cipher.lean ====
section
/-! DEFINITION. Sealing and opening: frames, volume, replay, acceptance; engines, locks, messages and known-answer tests (R201 to R253,
R266 to R269). -/
namespace Sys2Proof.Machine

/-! ### Frames -/

/-- Big-endian field of a frame. -/
def fbe (b : List Byte) (off n : Nat) : Nat := beVal (part b off n)

/-- Where the EtherType stands after one 802.1Q tag, if there is one (R238). -/
def typeOff (b : List Byte) : Nat := if fbe b 12 2 = 0x8100 then 16 else 12

/-- HDR of a seal's descriptor: where the SecTAG or the envelope goes (R219). -/
def State.hdrAt (s : State) (sa : Nat) (b : List Byte) : Nat :=
  if ((s.cry.sas.look sa).map (·.fmt.macsec)).getD true then 12 else typeOff b

/-- The IV of R225. -/
def ivOf (fixed counter : Nat) (salt : List Byte) : List Byte := (be 4 fixed ++ be 8 counter).zipWith (· ^^^ ·) salt

/-- Bytes under the key stream of a key and IV. -/
def crypt (key iv bs : List Byte) : List Byte := bs.zipIdx.map fun x => x.1 ^^^ Config.keystream key iv x.2

/-- Status codes of a completion record (R220). -/
def Rec.authFail : Nat := 1
def Rec.replay : Nat := 2
def Rec.noSa : Nat := 3
def Rec.expired : Nat := 4
def Rec.badHdr : Nat := 5
def Rec.oversize : Nat := 6
def Rec.engineFault : Nat := 7
def Rec.zeroized : Nat := 8
def Rec.noKey : Nat := 9
def Rec.wrongType : Nat := 0xA

/-- What a seal or an open comes to: the record's fields, how many bytes are secure data, and the output. `sa` is none where no SA was found, which the
record shows as 0xFFFF; `sender` is 1 for sender B; `macsec` says of which kind the frame was. -/
structure CxOut where
  status : Nat := 0
  sa : Option Nat := none
  slot : Nat := 0
  fixed : Nat := 0
  counter : Nat := 0
  an : Nat := 0
  sender : Nat := 0
  data : Nat := 0
  out : List Byte := []
  macsec : Bool := true

/-- Whether the engine fed the message's blocks: its checks led to the tag (R220, R229). -/
def CxOut.fed (o : CxOut) : Bool := o.status = 0 || o.status = Rec.authFail

/-- Blocks fed for it. -/
def CxOut.blocks (o : CxOut) : Nat := if o.fed then cipherBlocks o.data else 0

/-- A sealed MACsec frame (R234). -/
def sealMacsec (f : Fmt) (k : Slot) (fixed counter an : Nat) (b : List Byte) : List Byte :=
  let sd := b.drop 12
  let sl := if sd.length < 48 then sd.length else 0
  let aad := b.take 12 ++ [0x88, 0xE5, byte (0x2C + an), byte sl] ++ be 4 (counter % 2 ^ 32) ++ be 8 f.sciA
  let iv := ivOf fixed counter k.salt
  let ct := crypt k.key iv sd
  aad ++ ct ++ be 16 (Config.gcmTag k.key iv aad ct).toNat

/-- A sealed Ixyel frame, the envelope at `t` (R238, R239). -/
def sealIxyel (f : Fmt) (k : Slot) (sa fixed counter an t : Nat) (b : List Byte) : List Byte :=
  let last := (if f.tagLen = 16 then 0x80 else 0) + 0x40 * f.sel + an
  let aad := b.take t ++ [0x88, 0xB6, 1] ++ be 2 sa ++ be 8 counter ++ [byte last]
  let iv := ivOf fixed counter k.salt
  let ct := crypt k.key iv (b.drop (t + 2))
  aad ++ ct ++ (be 16 (Config.gcmTag k.key iv aad ct).toNat).take f.tagLen

/-! ### Volume and the switch at a seal's first block (R226, R229, R266) -/

/-- SA_ROLL_DUE (R290). -/
def State.rollDue (s : State) (n vol : Nat) : State :=
  match s.cry.sas.look n with
  | some x => s.cue 0x6021 (le 2 n ++ [byte (bit x.next.isSome), byte x.an] ++ le 8 vol)
  | none => s

/-- A seal of `n` bytes takes a counter from a slot and adds its volume. -/
def State.takeCounter (s : State) (sa slot n rollAt : Nat) : Nat × State :=
  match s.cry.slots.look slot with
  | none => (0, s)
  | some k =>
    let due := !k.due && decide (k.volume < rollAt) && decide (rollAt ≤ k.volume + n)
    let s := s.modSlot slot fun k => { k with counter := k.counter + 1, volume := k.volume + n, due := k.due || due }
    (k.counter, if due then s.rollDue sa (k.volume + n) else s)

/-- What the volume rules ask of a seal of `n` bytes: seal under the current slot, switch first, or expire (R266). -/
inductive Volume where
  | seal | switch | expire
deriving DecidableEq, Repr

def volumeRule (x : Sa) (v n : Nat) : Volume :=
  match x.next with
  | none => if v + n ≤ 2 ^ 52 then .seal else .expire
  | some (_, mode) => if v + n > 2 ^ 52 || mode = 0 && decide (x.rollAt ≤ v) then .switch else .seal

/-- The first block of a seal (R220, R226, R228, R233, R234, R237, R238, R249, R266): the outcome's status, or the sealed frame. While IV_FIXED is unset or the key
gone every seal ends NO_KEY, whatever else holds (log entry 66). `hdr` is R219's. -/
def State.sealFrame (s : State) (sa hdr : Nat) (b : List Byte) : CxOut × State :=
  let fixed := s.rf engKeys KS.IV_FIXED
  match s.cry.sas.look sa with
  | none => ({ status := if fixed = 0 then Rec.noKey else Rec.noSa, sa := some sa }, s)
  | some x =>
    let no (st : Nat) : CxOut := { status := st, sa := some sa, slot := x.cur, an := x.an }
    let n := if x.fmt.macsec then b.length - 12 else b.length - (hdr + 2)
    if fixed = 0 then (no Rec.noKey, s)
    else if !x.fmt.tx then (no Rec.noSa, s)
    else
      match s.cry.slots.look x.cur with
      | none => (no Rec.noKey, s)
      | some k =>
        if !x.fmt.macsec && fbe b hdr 2 ≠ 0x88D8 then (no Rec.wrongType, s)
        else if b.length + x.fmt.overhead > 9600 then (no Rec.oversize, s)
        else if x.expired then (no Rec.expired, s)
        else
          let s' := match volumeRule x k.volume n with
            | .seal => s
            | .switch => s.switchTx sa
            | .expire => s.expireSa sa
          match volumeRule x k.volume n, s'.cry.sas.look sa with
          | .expire, _ => (no Rec.expired, s')
          | _, none => (no Rec.noSa, s')
          | _, some y =>
            match s'.cry.slots.look y.cur with
            | none => ({ status := Rec.noKey, sa := some sa, slot := y.cur, an := y.an }, s')
            | some k =>
              let (c, s'') := s'.takeCounter sa y.cur n y.rollAt
              let out := if y.fmt.macsec then sealMacsec y.fmt k fixed c y.an b else sealIxyel y.fmt k sa fixed c y.an hdr b
              ({ sa := some sa, slot := y.cur, fixed := fixed, counter := c, an := y.an, data := n, out := out, macsec := y.fmt.macsec }, s'')

/-! ### Replay (R236) -/

/-- The replay state of a sender. -/
def Slot.rep (k : Slot) (sender : Nat) : Replay := if sender = 0 then k.repA else k.repB

/-- The lowest counter within a window. -/
def Replay.lowest (x : Replay) (window : Nat) : Nat := max 1 (x.h + 1 - window)

/-- A counter is within the window and has not been accepted. -/
def Replay.fresh (x : Replay) (window c : Nat) : Bool := decide (x.lowest window ≤ c) && !x.seen.contains c

/-- The counter that the low 32 bits of a MACsec PN stand for. -/
def Replay.recover (x : Replay) (window pn : Nat) : Nat :=
  let lo := x.lowest window
  (if pn < lo % 2 ^ 32 then lo / 2 ^ 32 + 1 else lo / 2 ^ 32) * 2 ^ 32 + pn

/-- A counter accepted: H rises, and the last 4,096 are kept. -/
def Replay.accept (x : Replay) (c : Nat) : Replay :=
  let h := max x.h c
  { h := h, seen := (c :: x.seen).filter fun n => decide (h < n + 4096) }

def Slot.setRep (k : Slot) (sender : Nat) (r : Replay) : Slot := if sender = 0 then { k with repA := r } else { k with repB := r }

/-- The slot of an SA that holds an association number and a key (R235, R240, R268). -/
def State.slotByAn (s : State) (x : Sa) (an : Nat) : Option Nat :=
  let cands : List (Nat × Nat) := (x.an, x.cur) :: (x.next.map fun p => ((x.an + 1) % 4, p.1)).toList ++
    (x.prev.map fun p => ((x.an + 3) % 4, p)).toList
  (cands.find? fun c => c.1 = an && s.cry.slots.has c.2).map (·.2)

/-- The last checks of an open, from the replay window on (R235 orders 5 to 7, R240 orders 6 to 8). -/
def openTail (x : Sa) (k : Slot) (o : CxOut) (aad ct tag : List Byte) (rebuild : List Byte → List Byte) : CxOut :=
  let iv := ivOf o.fixed o.counter k.salt
  if !(k.rep o.sender).fresh x.fmt.window o.counter then { o with status := Rec.replay }
  else if x.expired then { o with status := Rec.expired }
  else if (be 16 (Config.gcmTag k.key iv aad ct).toNat).take tag.length ≠ tag then { o with status := Rec.authFail }
  else { o with out := rebuild (crypt k.key iv ct) }

/-- The checks of a MACsec open (R233, R235). -/
def State.openMacsec (s : State) (b : List Byte) : CxOut :=
  let n := b.length - 44
  if b.length < 44 || (b.getD 14 0 &&& 0xBC#8) ≠ 0x2C#8 || fbe b 15 1 ≠ (if n < 48 then n else 0) then { status := Rec.badHdr }
  else
    let sci := fbe b 20 8
    match s.cry.sas.find? fun x => x.2.fmt.macsec && !x.2.fmt.tx && sci ≠ 0 && (x.2.fmt.sciA = sci || x.2.fmt.sciB = sci) with
    | none => { status := Rec.noSa }
    | some (sa, x) =>
      let sender := if x.fmt.sciA = sci then 0 else 1
      let an := fbe b 14 1 % 4
      match s.slotByAn x an with
      | none => { status := Rec.noSa, sa := some sa, an := an }
      | some slot =>
        match s.cry.slots.look slot with
        | none => { status := Rec.noSa, sa := some sa, an := an }
        | some k =>
          let c := (k.rep sender).recover x.fmt.window (fbe b 16 4)
          let o : CxOut :=
            { sa := some sa, slot := slot, fixed := if sender = 0 then x.fmt.fixedA else x.fmt.fixedB, counter := c, an := an,
              sender := sender, data := n }
          openTail x k o (b.take 28) (part b 28 n) (b.drop (28 + n)) fun p => b.take 12 ++ p

/-- The checks of an Ixyel open (R239, R240). -/
def State.openIxyel (s : State) (b : List Byte) : CxOut :=
  let t := typeOff b
  let last := fbe b (t + 13) 1
  let tl := if last / 128 = 1 then 16 else 8
  let bad : CxOut := { status := Rec.badHdr, macsec := false }
  if b.length < t + 14 + tl || fbe b (t + 2) 1 ≠ 1 || bits last 5 2 ≠ 0 || fbe b (t + 5) 8 = 0 then bad
  else
    let sa := fbe b (t + 3) 2
    match s.cry.sas.look sa with
    | none => { bad with status := Rec.noSa }
    | some x =>
      if x.fmt.macsec || x.fmt.tx then { bad with status := Rec.noSa }
      else
        let sender := bits last 6 6
        let fixed := if sender = 0 then x.fmt.fixedA else x.fmt.fixedB
        let an := last % 4
        if x.fmt.tagLen ≠ tl || fixed = 0 then { bad with sa := some sa, an := an }
        else
          match s.slotByAn x an with
          | none => { bad with status := Rec.noSa, sa := some sa, an := an }
          | some slot =>
            match s.cry.slots.look slot with
            | none => { bad with status := Rec.noSa, sa := some sa, an := an }
            | some k =>
              let n := b.length - (t + 14 + tl)
              let o : CxOut :=
                { sa := some sa, slot := slot, fixed := fixed, counter := fbe b (t + 5) 8, an := an, sender := sender, data := n, macsec := false }
              openTail x k o (b.take (t + 14)) (part b (t + 14) n) (b.drop (t + 14 + n)) fun p => b.take t ++ [0x88, 0xD8] ++ p

/-- The checks of an open (R223, R235, R240). -/
def State.openFrame (s : State) (b : List Byte) : CxOut :=
  if b.length > 9600 then { status := Rec.oversize }
  else if fbe b 12 2 = 0x88E5 then s.openMacsec b
  else if fbe b (typeOff b) 2 = 0x88B6 then s.openIxyel b
  else { status := Rec.badHdr }

/-- An authentication failure counts for SA_AUTH_ALARM, which is raised once in a second (R253). -/
def State.authAlarm (s : State) (sa : Nat) : State :=
  match s.cry.sas.look sa with
  | none => s
  | some x =>
    let same := decide (x.alarmSec = s.nowSec)
    let n := if same then x.alarmCnt + 1 else 1
    let cue := x.fmt.alarm ≠ 0 && decide (x.fmt.alarm ≤ n) && !(same && x.alarmCued)
    let s' := s.modSa sa fun x =>
      { x with alarmSec := s.nowSec, alarmCnt := n, alarmCued := cue || same && x.alarmCued, notValid := satAdd (2 ^ 64 - 1) x.notValid 1 }
    if cue then s'.cue 0x6002 (le 2 sa ++ [0, 0] ++ le 4 n) else s'

/-- Where a status other than OK counts (R220): `sa` is the SA that is known, if one is. -/
def State.countStatus (s : State) (unit : Nat) (isSeal : Bool) (o : CxOut) : State :=
  let ofSa (f : Sa → Sa) : State := match o.sa with
    | some n => s.modSa n f
    | none => s
  if o.status = Rec.authFail then
    (match o.sa with
     | some n => s.authAlarm n
     | none => s).bump (engCipher unit) CX.CX_AUTH_FAIL
  else if o.status = Rec.replay then ofSa fun x => { x with late := satAdd (2 ^ 64 - 1) x.late 1 }
  else if o.status = Rec.noSa then
    if isSeal then s.bump engKeys KS.CX_TX_REFUSED
    else if o.sa.isSome then ofSa fun x => { x with noSa := satAdd (2 ^ 64 - 1) x.noSa 1 }
    else s.bump engKeys (if o.macsec then KS.CX_NO_SCI else KS.CX_NO_SA)
  else if o.status = Rec.expired then s.bump engKeys KS.KS_EXPIRED_DROP
  else if o.status = Rec.zeroized then s.bump engKeys KS.CX_ZERO_DROP
  else if o.status = Rec.badHdr then s.bump engKeys KS.CX_BAD_HDR
  else if o.status = Rec.engineFault then s
  else s.bump engKeys (if isSeal then KS.CX_TX_REFUSED else KS.CX_BAD_HDR)

/-- A packet of an SA counted. -/
def State.countPkt (s : State) (sa : Nat) : State := s.modSa sa fun x => { x with pkts := satAdd (2 ^ 64 - 1) x.pkts 1 }

/-- The end of an open whose tag verified (R236, R268): replay checked again, the accepted count, promotion. The STATUS, and the state. -/
def State.acceptOpen (s : State) (o : CxOut) : Nat × State :=
  match o.sa, o.sa.bind s.cry.sas.look, s.cry.slots.look o.slot with
  | some n, some x, some k =>
    let r := k.rep o.sender
    if !r.fresh x.fmt.window o.counter then (Rec.replay, s)
    else if k.accepted + o.data > 2 ^ 52 then
      if x.cur ≠ o.slot then (Rec.expired, s)
      else if x.next.isSome then (Rec.expired, s.promoteRx n)
      else (Rec.expired, s.expireSa n)
    else
      let due := !k.due && decide (k.accepted < x.rollAt) && decide (x.rollAt ≤ k.accepted + o.data)
      let s := s.modSlot o.slot fun k =>
        { (k.setRep o.sender (r.accept o.counter)) with accepted := k.accepted + o.data, due := k.due || due }
      let s := s.countPkt n
      let s := if (x.next.map (·.1)) = some o.slot then s.promoteRx n else s
      (0, if due then s.rollDue n (k.accepted + o.data) else s)
  | _, _, _ => (Rec.noSa, s)

/-! ### Owners and engines (R202 to R210) -/

/-- CIPHER_CAPACITY (R252). Cipher spares in SPARE are those of the windows 8 and 9 and restored units. -/
def State.cipherSpares (s : State) : List Nat := s.cry.pool ++ [8, 9].filter fun x => s.engState (engCipher x) = 6

def State.capacityCue (s : State) (retired owner : Nat) : State :=
  let onCount := ((List.range 8).filter fun u => s.isOn (engCipher u)).length
  s.cue 0x6001 ([byte onCount, byte s.cipherSpares.length, byte retired, byte owner] ++ le 2 (128 * onCount) ++ [0, 0])

/-- Whether a datapath owner holds an ON engine (R248). -/
def State.ownerServed (s : State) (o : Nat) : Bool := (List.range 8).any fun u => s.isOn (engCipher u) && s.rf (engCipher u) CX.OWNER = o

/-- An owner that has just lost its last ON engine raises CIPHER_CAPACITY (R248). -/
def State.ownerLeft (s : State) (o : Nat) : State := if 1 ≤ o && o ≤ 3 && !s.ownerServed o then s.capacityCue 0xFF o else s

/-- The new owner, or the pool, takes a released engine (R204). -/
def State.rebound (s : State) (u : Nat) : State :=
  if s.on (engCipher u) CX.REBIND then
    let s := s.wf (engCipher u) CX.REBIND 0
    if s.isOn (engCipher u) then s.wf (engCipher u) CX.OWNER (s.rf (engCipher u) CX.BIND) else s
  else s

/-- A write of CX_BIND.BIND (R204). -/
def State.writeBind (s : State) (u v : Nat) : State :=
  if v > 3 || s.rf (engCipher u) CX.BIND = v then s
  else
    let s := (s.wf (engCipher u) CX.BIND v).wf (engCipher u) CX.REBIND 1
    if s.rf (engCipher u) CX.OWNER = 0 then s.rebound u else s

/-- CX_BIND_WRITE (R204). -/
def execCxBindWrite (unit : Fin 10) (v : Word) (s : State) : Host.Outcome State Fault Refusal :=
  if s.spareLocked (engCipher unit.val) then .next s else .next (s.writeBind unit.val (v.toNat % 256))

/-- The claims among the writes to an ENG_LOCK in one cycle, each with its writer: those of the writer's own ID (R206). -/
def lockClaims (writes : List (Fin 7 × Byte)) : List Nat :=
  (writes.filter fun w => w.1.val ≠ 0 && w.2.toNat = w.1.val).map fun w => w.1.val

/-- LOCK_CLAIM (R206): owners write to ENG_LOCK in one cycle. Of those that claim an unlocked ON engine the lowest is taken, and finds its ID when it reads
the register back (log entry 151); every other write has no effect, but for the holder's release, which is LOCK_RELEASE's. -/
def execLockClaim (unit : Fin 10) (writes : List (Fin 7 × Byte)) (s : State) : Host.Outcome State Fault Refusal :=
  let e := engCipher unit.val
  match (lockClaims writes).min? with
  | some o => if s.rf e CX.OWNER = 0 && s.isOn e then .next (s.wf e CX.OWNER o) else .next s
  | none => .next s

/-- LOCK_RELEASE (R204, R207): the holder writes 0x00 to ENG_LOCK. -/
def execLockRelease (unit : Fin 10) (owner : Fin 7) (s : State) : Host.Outcome State Fault Refusal :=
  let e := engCipher unit.val
  if owner.val ≠ 0 && s.rf e CX.OWNER = owner.val && s.cxIdle unit.val then
    .next (((s.wf e CX.OWNER 0).rebound unit.val).ownerLeft (if s.isOn e then owner.val else 0))
  else .next s

/-! ### Failures and spares (R222, R246 to R248) -/

/-- A frame leaves its queue unsent. -/
def State.unqueue (s : State) (d : Dest) (ctx : Nat) : State :=
  match d with
  | .queue q =>
    { s with sched := { s.sched with queues := s.sched.queues.adj q fun x =>
        { x with frames := x.frames.filter fun f => f.sealed || f.job != ctx } }.refresh }
  | _ => s

/-- The message of a context leaves its engine, or the wait for another one. -/
def State.dropMsg (s : State) (ctx : Nat) : State :=
  s.modCry fun c => { c with msgs := c.msgs.filter fun m => m.ctx != ctx, again := c.again.filter (· != ctx) }

/-- A job discarded: its pages freed with no byte left in them (R221), its frame out of its queue, its context ended not OK. -/
def State.discardJob (s : State) (ctx : Nat) : State :=
  match s.disp.jobs.look ctx with
  | some j =>
    match j.work with
    | .crypto d => ((((s.dropMsg ctx).wipePages (d.src ++ d.dst)).unqueue d.dest ctx).endJob ctx false).settleOlds
    | _ => s
  | none => s

/-- The SA that places an open job on an engine: the one its outer header names, or 0 (R205). -/
def State.openSa (s : State) (b : List Byte) : Nat :=
  if fbe b 12 2 = 0x88E5 then
    let sci := fbe b 20 8
    ((s.cry.sas.find? fun x => x.2.fmt.macsec && !x.2.fmt.tx && sci ≠ 0 && (x.2.fmt.sciA = sci || x.2.fmt.sciB = sci)).map (·.1)).getD 0
  else if fbe b (typeOff b) 2 = 0x88B6 then fbe b (typeOff b + 3) 2
  else 0

/-- Whether the complex takes jobs: no error state (R285), and not in a pair that drains or stands by (R150, R156). -/
def State.cxTakes (s : State) : Bool :=
  !s.on engKeys KS.CRYPTO_ERR && !s.pon.pair.draining && s.rf engBond BD.ROLE ≠ 2

/-- A RUNNING job given to an engine of its owner other than `but` (R205, R222); it waits while there is none. -/
def State.giveTo (s : State) (ctx : Nat) (d : CJob) (but : Option Nat) : State :=
  let es := (s.enginesOf (if d.isSeal then 1 else 2)).filter fun u => some u != but
  let sa := if d.isSeal then d.sa else s.openSa (s.readPages d.src d.len)
  match if s.cxTakes then es[sa % es.length]? else none with
  | none => s.modCry fun c => { c with again := c.again.filter (· != ctx) ++ [ctx] }
  | some u =>
    s.modCry fun c => { c with again := c.again.filter (· != ctx), msgs := c.msgs ++ [{ ctx := ctx, unit := u, cls := d.cls, isSeal := d.isSeal }] }

/-- A job whose engine failed: re-issued once, to another engine of its owner, then discarded (R222). It stays RUNNING (R326). -/
def State.reissue (s : State) (ctx : Nat) (failed : Nat) : State :=
  match s.disp.jobs.look ctx with
  | some j =>
    match j.work with
    | .crypto d =>
      if d.retry then (s.bump engKeys KS.CX_FAULT_DROP).discardJob ctx
      else
        let s := ((s.dropMsg ctx).bump engKeys KS.CX_REISSUE).wipePages d.dst
        let d := { d with retry := true, dst := [] }
        let s := { s with disp := { s.disp with jobs := s.disp.jobs.put ctx { j with work := .crypto d } } }
        (s.giveTo ctx d (some failed)).settleOlds
    | _ => s
  | none => s

/-- Every message of an engine ends ENGINE_FAULT. -/
def State.endMsgs (s : State) (u : Nat) : State := (s.msgsOf u).foldl (fun s m => s.reissue m.ctx u) s

/-- A substitution is recorded and SPARE_TAKEN raised (R447, R456): kind, cause, logical locator or row, spares left. -/
def State.spareTaken (s : State) (src k cause loc left : Nat) : State :=
  let p := [byte k, byte cause, 0, 0] ++ le 4 loc ++ le 2 left ++ [0, 0]
  (s.logEng 0x0004 src p).cue 0x9004 p

/-- No spare of a kind is left (R447). -/
def State.noSpare (s : State) (src k loc : Nat) : State := s.logEng 0x0005 src ([byte k, 0, 0, 0] ++ le 4 loc)

/-- The lowest spare in SPARE begins its test for a logical engine, or the engine is RETIRED (R247). -/
def State.seekSpare (s : State) (u : Nat) : State :=
  let busy := s.cry.testing.map (·.1)
  match s.cipherSpares.find? fun x => !busy.contains x with
  | some x =>
    let s := (s.modCry fun c => { c with testing := c.testing ++ [(x, some u)] }).katBegin x
    if x < 8 then s else s.wf (engCipher x) CX.OWNER 6
  | none =>
    let s := (s.setEng (engCipher u) 5).modCry fun c => { c with out := c.out.put (s.punit (engCipher u)) u }
    let o := s.rf (engCipher u) CX.BIND
    (s.noSpare (engCipher u) 2 (locOf (engCipher u))).capacityCue u (if 1 ≤ o && !s.ownerServed o then o else 0)

/-- A logical cipher engine becomes FAILED (R222, R247, R248). The ENG_FAULT bit is set before. -/
def State.cipherDown (s : State) (u : Nat) : State :=
  if s.engState (engCipher u) = 4 || s.engState (engCipher u) = 5 then s
  else
    let held := if s.isOn (engCipher u) then s.rf (engCipher u) CX.OWNER else 0
    let s := (((s.failEngine (engCipher u)).wf (engCipher u) CX.OWNER 0).wf (engCipher u) CX.REBIND 0).endMsgs u
    let s := ((s.modCry fun c => { c with testing := c.testing.filter fun t => t.1 != u || t.2.isSome }).dropCache u).katEnd u false
    (s.ownerLeft held).seekSpare u

/-- A known-answer test is over: its job ends, its blocks are counted, as many as the test feeds (a free value, R244), and its result stands in CX_KAT (R250). -/
def State.noteKat (s : State) (u : Nat) (pass : Bool) : State :=
  let (n, s) := s.draw 16
  let s := (s.addBlocks u n).katEnd u pass
  ((s.wf (engCipher u) CX.KAT_PASS (bit pass)).wf (engCipher u) CX.KAT_RUN 1).bump (engCipher u) CX.KAT_RUNS

/-- A tested unit serves a logical engine, which passes WAKING (R23, R27, R247): ENGINE_INIT_COMPLETE brings it to ON with its binding and ENGINE_ON.
It is not tested again (R244). -/
def State.serve (s : State) (unit u : Nat) : State :=
  let e := engCipher u
  let s := (s.wf e HDR.PUNIT unit).dropCache u
  let s := if unit < 8 then s
    else (((s.wf (engCipher unit) HDR.LUNIT u).wf (engCipher unit) CX.OWNER 0)).setEng (engCipher unit) 2
  ((s.modEx e fun x => { x with selfTested := true, cueDue := true }).setEng e 1).wf e CX.OWNER 0

/-- A spare takes over a logical engine; the unit it replaces is RETIRED (R247, R456). -/
def State.substitute (s : State) (spare u : Nat) : State :=
  let e := engCipher u
  let old := s.punit e
  let s := (s.modCry fun c => { c with out := c.out.put old u, pool := c.pool.filter (· != spare) }).bump e HDR.NSUBST
  let s := if old < 8 then s else (s.setEng (engCipher old) 5).wf (engCipher old) HDR.LUNIT 0xFF
  let s := s.serve spare u
  s.spareTaken e 2 1 (locOf e) s.cipherSpares.length

/-- A known-answer test of a unit's window completes (R244, R246, R247). -/
def State.katDone (s : State) (u : Nat) (pass : Bool) : State :=
  let goal := (s.cry.testing.find? fun t => t.1 = u).map (·.2)
  let s := (s.modCry fun c => { c with testing := c.testing.filter fun t => t.1 != u })
  let s := if goal.isSome && s.cry.pool.contains u then s.katEnd u pass else s.noteKat u pass
  let e := engCipher u
  match goal, pass with
  | some (some t), true => s.substitute u t
  | some (some t), false =>
    if s.cry.pool.contains u then (s.modCry fun c => { c with out := c.out.put u t, pool := c.pool.filter (· != u) }).seekSpare t
    else (((s.wf e HDR.SELFTEST 1).failEngine e).wf e CX.OWNER 0).seekSpare t
  | some none, true =>
    if s.engState e ≠ 1 then s
    else if !s.on e HDR.ENABLE && !s.on e HDR.PEND_OFF then (s.wf e CX.OWNER 0).restIn e 0
    else
      let s := s.initDone e
      s.wf e CX.OWNER (if s.isOn e then s.rf e CX.BIND else 0)
  | none, true => s.modEx e fun x => { x with selfTested := true }
  | _, false => if u < 8 then (s.wf e HDR.SELFTEST 1).cipherDown u else (s.wf e HDR.SELFTEST 1).failEngine e

/-- A known-answer test is over (R244, R247): one that was begun for the unit, or the first one of an engine that wakes. -/
def State.katRow (s : State) (unit : Fin 10) (pass : Bool) : State :=
  let e := engCipher unit.val
  if (s.cry.testing.any fun t => t.1 = unit.val) || s.engState e = 1 && !(s.ex e).selfTested then s.katDone unit.val pass else s

/-- ONLINE_CHECK (R245, R246): one block fed, and its result compared. -/
def execOnlineCheck (unit : Fin 10) (pass : Bool) (s : State) : Host.Outcome State Fault Refusal :=
  let e := engCipher unit.val
  if unit.val < 8 && s.works e then
    let s := s.addBlocks unit.val 1
    .next (if pass then s else (s.wf e HDR.KIND_FAULT (s.rf e HDR.KIND_FAULT ||| 1)).cipherDown unit.val)
  else .next s

/-! ### Messages (R205, R211 to R217) -/

/-- A READY job given to an engine of its owner (R205, R327): RUNNING; it stays READY while there is none (R248). -/
def State.giveJob (s : State) (ctx : Nat) (d : CJob) : State :=
  if (s.enginesOf (if d.isSeal then 1 else 2)).isEmpty then s
  else (s.putJobState ctx .running).giveTo ctx d none

/-- Whether a job is a seal, or an open. -/
def Work.isCrypto (w : Work) (isSeal : Bool) : Bool :=
  match w with
  | .crypto d => d.isSeal == isSeal
  | _ => false

/-- The descriptor of a context's seal or open job. -/
def State.cryptoJob (s : State) (ctx : Nat) : Option CJob :=
  match (s.disp.jobs.look ctx).map (·.work) with
  | some (Work.crypto d) => some d
  | _ => none

/-- Jobs that wait for their re-issue are given first, as far as their owner has another engine (R222). -/
def State.giveAgain (s : State) (isSeal : Bool) : State :=
  s.cry.again.foldl (fun s ctx => match s.cryptoJob ctx with
    | some d => if d.isSeal = isSeal then s.giveTo ctx d none else s
    | none => s) s

/-- The oldest seal or open job of the highest priority taken. -/
def State.takeCrypto (s : State) (isSeal : Bool) : State :=
  if !s.cxTakes then s
  else
    let s := s.giveAgain isSeal
    match s.oldestReady (fun _ j => j.work.isCrypto isSeal) with
    | some (ctx, j) => match j.work with
      | .crypto d => s.giveJob ctx d
      | _ => s
    | none => s

/-- What of an engine's messages still has blocks to feed: those among `fed`; the others of those begun have been fed. -/
def State.noteFed (s : State) (u : Nat) (fed : List Nat) : State :=
  s.modCry fun c => { c with msgs := c.msgs.map fun x =>
    if x.unit = u && x.started && !x.suspended && !fed.contains x.ctx then { x with done := true } else x }

/-- Whether a message is being fed: begun, not suspended, with blocks left. -/
def Msg.feeding (m : Msg) : Bool := m.started && !m.suspended && !m.done

/-- Whether a message may be fed now (R213, R215): an urgent one alone, in the order of classes and arrival; a class-0 one while fewer than
four are in rotation, none is suspended and no urgent one is fed or waits. -/
def State.mayFeed (s : State) (m : Msg) : Bool :=
  let ms := s.msgsOf m.unit
  let first := ms.find? fun x => !x.started && x.cls = m.cls
  !m.started && first == some m && !(ms.any fun x => x.cls > 0 && x.feeding) && !(ms.any fun x => !x.started && x.cls > m.cls) &&
    (m.cls > 0 || (!(ms.any (·.suspended)) && decide ((ms.filter fun x => x.cls = 0 && x.feeding).length < 4)))

/-- Class-0 messages suspended for an urgent one (R214, R215): those of the engine that still have blocks to feed. -/
def State.suspendFor (s : State) (m : Msg) : State :=
  let hit (x : Msg) : Bool := m.cls > 0 && x.unit = m.unit && x.cls = 0 && x.feeding
  let n := (s.cry.msgs.filter hit).length
  let stop (x : Msg) : Msg := if hit x then { x with suspended := true, susp := satAdd 255 x.susp 1, suspTick := s.disp.tick } else x
  let s := s.modCry fun c => { c with msgs := c.msgs.map stop }
  s.bumpN (engCipher m.unit) CX.CX_SUSPENDS n

/-- Messages suspended for more than 1 ms count once each (R215); looked at in every tick. -/
def State.longSuspends (s : State) : State :=
  let hit (x : Msg) : Bool := x.suspended && !x.long && decide (1000 < (s.disp.tick + 2 ^ 32 - x.suspTick) % 2 ^ 32)
  let late := s.cry.msgs.filter hit
  let s := s.modCry fun c => { c with msgs := c.msgs.map fun x => if hit x then { x with long := true } else x }
  late.foldl (fun s m => s.bump (engCipher m.unit) CX.CX_LONG_SUSPEND) s

/-- A message's first block is fed with what its start found; the key of its slot comes from the cache (R224). -/
def State.feed (s : State) (m : Msg) (o : CxOut) (wait : Nat) : State :=
  let s := if m.cls > 0 then s.raiseTo (engCipher m.unit) CX.CX_MAX_WAIT wait else s
  let s := if o.fed then (s.touchKey m.unit o.slot).addBlocks m.unit o.blocks else s
  let begin (x : Msg) : Msg :=
    { x with started := true, done := !o.fed, sa := o.sa, slot := o.slot, counter := o.counter, an := o.an, fixed := o.fixed, sender := o.sender,
             start := s.short, status := o.status, data := o.data, out := o.out, macsec := o.macsec }
  s.modCry fun c => { c with msgs := c.msgs.map fun x => if x.ctx = m.ctx then begin x else x }

/-- The message of a context, with its descriptor. -/
def State.msgOf (s : State) (ctx : Nat) (isSeal : Bool) : Option (Msg × CJob) :=
  match s.cry.msgs.find? fun m => m.ctx = ctx && m.isSeal == isSeal, (s.disp.jobs.look ctx).map (·.work) with
  | some m, some (Work.crypto d) => some (m, d)
  | _, _ => none

/-- A job's descriptor changed. -/
def State.putCJob (s : State) (ctx : Nat) (d : CJob) : State :=
  { s with disp := { s.disp with jobs := s.disp.jobs.adj ctx fun j => { j with work := .crypto d } } }

/-- SEAL_JOB_START (R214, R217, R221, R226): `urgent` (one is fed alone) and `rotating` (class 0) are the contexts of
messages with blocks left, `wait` the cycles that class-0 ones made an urgent
message wait. The ciphertext goes to black pages from here; while the buffer has none, or a barred pair member must not seal (R151), the message waits. -/
def execSealJobStart (ctx : Fin 65536) (urgent : Option Nat) (rotating : List Nat) (wait : Nat) (s : State) : Host.Outcome State Fault Refusal :=
  match s.msgOf ctx.val true with
  | none => .next s
  | some (m, d) =>
    let s := s.noteFed m.unit (urgent.toList ++ rotating)
    if s.mayFeed m && !s.on engBond BD.BARRED then
      let s' := s.suspendFor m
      let (o, s') := s'.sealFrame d.sa d.hdr (s'.readPages d.src d.len)
      if o.status ≠ 0 then .next (s'.feed m o wait)
      else
        match s'.allocPages false o.out with
        | some (pages, s') => .next ((s'.putCJob m.ctx { d with dst := pages }).feed m o wait)
        | none => .next s
    else .next s

/-- OPEN_JOB_START (R235, R240): operands as in SEAL_JOB_START. -/
def execOpenJobStart (ctx : Fin 65536) (urgent : Option Nat) (rotating : List Nat) (wait : Nat) (s : State) : Host.Outcome State Fault Refusal :=
  match s.msgOf ctx.val false with
  | none => .next s
  | some (m, d) =>
    let s := s.noteFed m.unit (urgent.toList ++ rotating)
    if s.mayFeed m then
      let s := s.suspendFor m
      .next (s.feed m (s.openFrame (s.readPages d.src d.len)) wait)
    else .next s

/-- SUSPEND_RESTORE (R215): no urgent message waits or has blocks left. `fed` are the contexts of messages with blocks left. -/
def execSuspendRestore (unit : Fin 10) (fed : List Nat) (s : State) : Host.Outcome State Fault Refusal :=
  let u := unit.val
  let s := s.noteFed u fed
  if (s.msgsOf u).any fun m => decide (m.cls > 0) && !m.done then .next s
  else .next (s.modCry fun c => { c with msgs := c.msgs.map fun m => if m.unit = u then { m with suspended := false } else m })

/-! ### Completion (R220, R221) -/

/-- The outcome a message carries. -/
def Msg.result (m : Msg) : CxOut :=
  { status := m.status, sa := m.sa, slot := m.slot, fixed := m.fixed, counter := m.counter, an := m.an, sender := m.sender, data := m.data,
    out := m.out, macsec := m.macsec }

/-- A message that ended with another status than OK: counted, its job discarded. -/
def State.endBad (s : State) (m : Msg) (d : CJob) (st : Nat) : State :=
  let s := s.countStatus m.unit m.isSeal { m.result with status := st }
  let s := match d.circuit with
    | some c => if st = Rec.expired then
        (s.bump engPack PK.PK_EXPIRED).modCirc c fun x => { x with expiredDrop := satAdd 0xFFFFFFFF x.expiredDrop 1 } else s
    | none => s
  (s.bump (engCipher m.unit) CX.CX_MSGS).discardJob m.ctx

/-- A message that ended OK leaves: counted, its input pages freed, its job completed. -/
def State.endGood (s : State) (m : Msg) (d : CJob) : State :=
  ((((s.bump (engCipher m.unit) CX.CX_MSGS).dropMsg m.ctx).freePages d.src).endJob m.ctx true).settleOlds

/-- The queue frame of a context holds its sealed bytes from here. -/
def QFrame.fill (f : QFrame) (ctx : Nat) (pages : List Nat) (n : Nat) : QFrame :=
  if !f.sealed && f.job = ctx then { f with pages := pages, bytes := n, sealed := true } else f

/-- A sealed frame takes its place in its queue. -/
def State.sealedInto (s : State) (q ctx : Nat) (pages : List Nat) (n : Nat) : State :=
  { s with sched := { s.sched with queues := s.sched.queues.adj q fun x =>
      { x with frames := x.frames.map fun (f : QFrame) => f.fill ctx pages n } }.refresh }

/-- An opened frame goes on: circuit packets to the playout engine, others to the classifier (R184, R291). -/
def State.opened (s : State) (m : Msg) (d : CJob) (pages : List Nat) : State :=
  if fbe m.out (typeOff m.out) 2 = 0x88D8 then
    s.modTdm fun t => { t with rx := t.rx ++ [{ sa := m.sa.getD 0xFFFF, pages := pages, len := m.out.length }] }
  else
    { s with cls := { s.cls with inq := s.cls.inq ++ [{ down := true, lane := 0xFF, bytes := m.out, arrival := d.arrival, pages := pages }] } }

/-- A message completes: a seal's ciphertext stands in its black pages already; an open's output goes to red pages now, and waits while the buffer has
none (R221). -/
def State.complete (s : State) (m : Msg) (d : CJob) : State :=
  if m.status ≠ 0 then s.endBad m d m.status
  else if m.isSeal then
    let s := (match m.sa with
      | some n => s.countPkt n
      | none => s).endGood m d
    match d.dest with
    | .queue q => s.sealedInto q m.ctx d.dst m.out.length
    | _ => s
  else
    match s.allocPages true m.out with
    | none => s
    | some _ =>
      match s.acceptOpen m.result with
      | (0, s2) =>
        match s2.allocPages true m.out with
        | some (pages, s3) => (s3.endGood m d).opened m d pages
        | none => s
      | (st, s2) => s2.endBad m d st

/-- Whether an earlier seal of the same SA and class, by its counter under the same slot, is still in flight (R217). -/
def State.behindSeal (s : State) (m : Msg) : Bool :=
  m.isSeal && m.status = 0 && s.cry.msgs.any fun x =>
    x.isSeal && x.started && x.status = 0 && x.sa = m.sa && x.cls = m.cls && x.slot = m.slot && decide (x.counter < m.counter)

/-- CIPHER_JOB_COMPLETE (R217, R220): a message that has been fed, and whose predecessors of its class have left. -/
def execCipherJobComplete (ctx : Fin 65536) (s : State) : Host.Outcome State Fault Refusal :=
  match s.cry.msgs.find? fun m => m.ctx = ctx.val, s.cryptoJob ctx.val with
  | some m, some d => if m.started && !m.suspended && !s.behindSeal m then .next (s.complete m d) else .next s
  | _, _ => .next s

/-! ### Commands on the pool (R210) -/

/-- Cycles from a message's last block to its tag: 32 through the pipeline, and 4 more (R201). -/
def tagCycles : Nat := 36

/-- A completion record (R220). The tag is ready one cycle for each further block and `tagCycles` after the first block; where no block was fed, START and END
are free values. -/
def State.recordOf (s : State) (u : Nat) (o : CxOut) : List Byte × State :=
  let (t, s') := s.draw 32
  let (start, s) := if o.fed then (s.short, s) else (t, s')
  let stop := (start + (o.blocks - 1) + tagCycles) % 2 ^ 32
  ([byte o.status, byte (s.punit (engCipher u))] ++ le 2 (o.sa.getD 0xFFFF) ++ le 4 o.fixed ++ le 8 o.counter ++
    le 2 (if o.status = 0 then o.out.length else 0) ++ [byte o.an, 0] ++ le 4 start ++ le 4 stop ++ le 2 o.slot ++ [0, 0], s)

/-- The engine's part in one attempt of CIPHER_RUN: key, blocks, the message completed. -/
def State.ranOn (s : State) (u : Nat) (o : CxOut) : State :=
  (if o.fed then (s.touchKey u o.slot).addBlocks u o.blocks else s).bump (engCipher u) CX.CX_MSGS

/-- One attempt of CIPHER_RUN on an engine. An open under an SA that the frame does not name ends NO_SA and counts nowhere: R220 gives it no counter. -/
def State.runOnce (s : State) (u : Nat) (p : List Byte) : CxOut × State :=
  let b := p.drop 8
  let sa := fld p 2 2
  if fld p 0 1 = 1 then
    let (o, s) := s.sealFrame sa (s.hdrAt sa b) b
    (o, (if o.status = 0 then s.countPkt sa else s.countStatus u true o).ranOn u o)
  else
    let o := s.openFrame b
    if o.sa.isSome && o.sa ≠ some sa then
      let o : CxOut := { status := Rec.noSa, macsec := o.macsec }
      (o, s.ranOn u o)
    else
      match if o.status = 0 then s.acceptOpen o else (o.status, s) with
      | (0, s) => (o, s.ranOn u o)
      | (st, s) => ({ o with status := st }, (s.countStatus u false { o with status := st }).ranOn u o)

/-- The status that a record's STATUS gives CIPHER_RUN. -/
def runStatus (st : Nat) : Nat :=
  if st = 0 then St.ok
  else if st = Rec.noKey || st = Rec.noSa then St.notReady
  else if st = Rec.expired then St.exhausted
  else if st = Rec.zeroized then St.zeroized
  else if st = Rec.engineFault then St.unitFailed
  else St.integrity

/-- The answer to CIPHER_RUN for a record. -/
def runAnswer (s : State) (u : Nat) (o : CxOut) : Act :=
  let (rec, s) := s.recordOf u o
  { st := s, status := runStatus o.status, payload := rec ++ (if o.status = 0 then o.out else []) }

/-- An attempt of CIPHER_RUN whose engine fails (R222): a seal that had taken its counter keeps it, and the job ends ENGINE_FAULT. -/
def State.runLost (s : State) (u : Nat) (p : List Byte) (f : FaultCause) : CxOut × State :=
  let b := p.drop 8
  let sa := fld p 2 2
  let lost : CxOut × State := if fld p 0 1 = 1 then s.sealFrame sa (s.hdrAt sa b) b else ({ sa := some sa }, s)
  let o : CxOut := { lost.1 with status := Rec.engineFault, out := [] }
  (o, (lost.2.setFault (engCipher u) f).cipherDown u)

/-- CIPHER_RUN on borrowed engines, of which as many fail as `faults` names causes for (R222): `again` says that this is the re-issue. Without an
engine for it, the command waits with the record of the attempt that failed. -/
def State.cipherRun (s : State) (u : Nat) (p : List Byte) (again : Bool) : List FaultCause → Act
  | [] => let (o, s) := s.runOnce u p; runAnswer s u o
  | f :: fs =>
    let (o, s) := s.runLost u p f
    if again then runAnswer (s.bump engKeys KS.CX_FAULT_DROP) u o
    else
      match s.borrow with
      | some v => (s.bump engKeys KS.CX_REISSUE).cipherRun v p true fs
      | none =>
        let (rec, s) := s.recordOf u o
        { st := s, wait := some (.reissue rec) }

/-- CIPHER_RUN's checks that look at the SA. -/
def cipherRunChecks (p : List Byte) (s : State) : Chk :=
  match s.cry.sas.look (fld p 2 2) with
  | none => some (St.notReady, 0)
  | some x =>
    let b := p.drop 8
    checks
      [param (fld p 0 1 = x.fmt.dir) 0, param x.mgmt 2,
       param (!(fld p 0 1 = 1 && !x.fmt.macsec && fbe b (typeOff b) 2 ≠ 0x88D8)) 8]

/-- `faults` are the causes for which borrowed engines fail during the operation. -/
def cipherRunCmd (faults : List FaultCause) : Cmd where
  op := 0x0602
  fits := fun r _ => need (r.payload.length = 8 + fld r.payload 4 2) St.badLength 4
  role := .officer
  len := fun n => 8 + 14 ≤ n && n ≤ 8 + 4000
  params := fun _ r _ =>
    let p := r.payload
    checks
      [param (fld p 0 1 = 1 || fld p 0 1 = 2) 0, resv p 1 1, resv p 6 2]
  needs := fun _ => [engKeys]
  domains := fun _ _ => [12]
  act := fun _ r s =>
    match cipherRunChecks r.payload s with
    | some f => .fail s f
    | none =>
      match if fld r.payload 0 1 = 1 && s.on engBond BD.BARRED then none else s.borrow with
      | some u => s.cipherRun u r.payload false faults
      | none => { st := s, wait := some (.engineRun 0x0602) }

/-- CIPHER_RUN (R210). -/
def execCipherRun (r : Req) (faults : List FaultCause) (s : State) : Host.Outcome State Fault Refusal :=
  .next (runCmd (cipherRunCmd faults) r s)

/-- SELFTEST_RUN on a unit that can be tested now. -/
def State.selfTestRun (s : State) (w : Nat) (pass : Bool) (us : Nat) : Act :=
  let s := s.noteKat w pass
  let s := if pass then s
    else if w < 8 then (s.wf (engCipher w) HDR.SELFTEST 1).cipherDown w
    else (s.wf (engCipher w) HDR.SELFTEST 1).failEngine (engCipher w)
  { st := s, payload := [byte (bit (!pass)), 0] ++ le 2 us }

/-- Whether a window's engine can be tested now: a pool engine unlocked, a bound one idle (R210). -/
def State.testable (s : State) (w : Nat) : Bool := s.cxIdle w && !([4, 5, 6].contains (s.rf (engCipher w) CX.OWNER))

/-- SELFTEST_RUN on a unit that UNIT_RESTORE has put in SPARE (R457): a failed test moves it to FAILED, out of the reserve. -/
def State.poolTest (s : State) (u : Nat) (pass : Bool) (us : Nat) : Act :=
  if s.cry.testing.any fun t => t.1 = u then { st := s, wait := some (.engineRun 0x0603) }
  else
    { st := if pass then s else s.modCry fun c => { c with out := c.out.put u u, pool := c.pool.filter (· != u) }
      payload := [byte (bit (!pass)), 0] ++ le 2 us }

/-- `pass` and `us` are the test's result and how long it takes. -/
def selftestRunCmd (pass : Bool) (us : Nat) : Cmd where
  op := 0x0603
  len := fun n => n = 4
  params := fun _ r _ => checks [param (fld r.payload 0 1 ≤ 9) 0, resv r.payload 1 3]
  domains := fun _ _ => [12]
  act := fun _ r s =>
    match s.unitWindow (fld r.payload 0 1) with
    | none => if s.cry.pool.contains (fld r.payload 0 1) then s.poolTest (fld r.payload 0 1) pass us else .say s St.unitFailed
    | some w =>
      if s.engState (engCipher w) = 4 || s.engState (engCipher w) = 5 then .say s St.unitFailed
      else if s.testable w then s.selfTestRun w pass us
      else { st := s, wait := some (.engineRun 0x0603) }

/-- SELFTEST_RUN (R244). -/
def execSelftestRun (r : Req) (pass : Bool) (us : Nat) (s : State) : Host.Outcome State Fault Refusal :=
  .next (runCmd (selftestRunCmd pass us) r s)

/-- The command of an opcode that waits for an engine. -/
def borrower (op : Nat) (pass : Bool) (us : Nat) (faults : List FaultCause) : Option Cmd :=
  match op with
  | 0x0023 => some roleAuthSetCmd
  | 0x0602 => some (cipherRunCmd faults)
  | 0x0603 => some (selftestRunCmd pass us)
  | 0x0620 => some keyCommitCmd
  | _ => none

/-- A command that waits for an engine tries again; `giveUp` says that its time is over: 1 ms for CIPHER_RUN, 10 ms for SELFTEST_RUN. -/
def borrowAgain (giveUp pass : Bool) (us : Nat) (faults : List FaultCause) (w : Wait) (s : State) : Act :=
  match w.why with
  | .reissue rec =>
    match s.borrow with
    | some u => (s.bump engKeys KS.CX_REISSUE).cipherRun u w.cmd.req.payload true faults
    | none => if giveUp then { st := s, status := St.unitFailed, payload := rec } else { st := s, wait := some w.why }
  | _ =>
    match borrower w.cmd.op pass us faults with
    | none => { st := s, wait := some w.why }
    | some c =>
      let a := c.run w.cmd.role w.cmd.req s
      if a.wait.isSome && giveUp && (w.cmd.op = 0x0602 || w.cmd.op = 0x0603) then .say s St.busy 6 else a

/-- Whether a command waits for an engine. -/
def Why.borrows (w : Why) : Bool :=
  match w with
  | .engineRun _ | .reissue _ => true
  | _ => false

/-- POOL_BORROW_RETRY (R210): of the commands that wait for an engine, the one at place `b.turn` tries again. The other operands are those
of the commands. -/
def execPoolBorrowRetry (b : BorrowTurn) (pass : Bool) (us : Nat) (faults : List FaultCause) (s : State) : Host.Outcome State Fault Refusal :=
  match (s.chan.waits.filter fun w => w.why.borrows)[b.turn]? with
  | none => .next s
  | some w => .next (s.retry w (borrowAgain b.giveUp pass us faults w))

end Sys2Proof.Machine
end

