-- ==== Sys2Proof/Machine/MacBase.lean ====
section
/-! DEFINITION. Lanes and MACs: who may send, the input FIFOs' fill, priority flow control, and the transmit queues (R334, R368, R376,
R379 to R383). -/
namespace Sys2Proof.Machine

/-- MAC counter `i` raised, saturating at 64 bits (R383, R385). -/
def State.macAdd (s : State) (l i n : Nat) : State :=
  s.modMac l fun m => { m with counts := m.counts.upd i 0 fun c => satAdd (2 ^ 64 - 1) c n }

/-- Indices of the MAC counters (R385). -/
def Mac.rxFrames : Nat := 0
def Mac.rxBytes : Nat := 1
def Mac.runtDrop : Nat := 2
def Mac.rxLong : Nat := 3
def Mac.rxFcsErr : Nat := 4
def Mac.rxErr : Nat := 5
def Mac.rxFifoDrop : Nat := 6
def Mac.rxMgmt : Nat := 7
def Mac.rxCtrl : Nat := 8
def Mac.rxDiscard : Nat := 9
def Mac.txFrames : Nat := 10
def Mac.txBytes : Nat := 11
def Mac.txDrop : Nat := 12
def Mac.txAbort : Nat := 13
def Mac.txPfc : Nat := 14
def Mac.rxPfc : Nat := 15
def Mac.rxPause (p : Nat) : Nat := 16 + p
def Mac.txPause (p : Nat) : Nat := 24 + p

/-- MODE of a lane (R355). -/
def State.laneMode (s : State) (l : Nat) : Nat := s.rf (engLane l) LN.MODE

/-- The lane whose MAC serves a lane: the first of its quad in quad mode (R377). -/
def State.head (s : State) (l : Nat) : Nat := if s.laneMode l = 2 then l - s.rf (engLane l) LN.MEMBER else l

/-- Whether a MAC carries user frames: a lane in Ethernet mode, or the first of a quad. -/
def State.carries (s : State) (l : Nat) : Bool :=
  s.laneMode l = 1 || s.laneMode l = 2 && s.rf (engLane l) LN.MEMBER = 0

/-- Whether a lane's engine runs. -/
def State.laneWorks (s : State) (l : Nat) : Bool := s.works (engLane l)

/-- Members of a lane's quad, or the lane alone. -/
def State.members (s : State) (l : Nat) : List Nat := if s.laneMode l = 2 then (List.range 4).map fun i => l / 4 * 4 + i else [l]

/-- Whether a lane's transmitter is squelched (R150). -/
def State.squelched (s : State) (l : Nat) : Bool :=
  s.rf engBond BD.ROLE = 2 && !s.pon.pair.stbyTx && s.laneMode l != 4

/-- Whether frames that arrive for a lane are discarded (R379): its link is down, a far-end loop is set, or it is squelched. -/
def State.txShut (s : State) (l : Nat) : Bool :=
  !s.on (engLane l) LN.LINK || s.rf (engLane l) LN.LOOP = 3 || s.squelched l

/-- Whether a MAC can send now. -/
def State.canSend (s : State) (l : Nat) : Bool := s.works (engMac l) && !s.txShut l

/-- A frame toward the line of a lane, FCS excluded. A near-end loop gives it to the receiver, and only the parallel one sends it too (R368). -/
def State.laneOut (s : State) (l : Nat) (b : List Byte) (x : Emit) : State :=
  let k := s.rf (engLane l) LN.LOOP
  let s := if k = 1 || k = 2 then s.modMac l fun m => { m with looped := m.looped ++ [b] } else s
  if k = 1 || k = 3 then s else s.emit x

/-- The management lane (R84). -/
def State.mgmtLane (s : State) : Nat := s.opt.lane

/-- A frame sent, counted with its FCS. -/
def State.countTx (s : State) (l len : Nat) : State := (s.macAdd l Mac.txFrames 1).macAdd l Mac.txBytes (len + 4)

/-! ### Input FIFOs and PFC (R334, R381) -/

/-- PRIO of a frame: the PCP of its first tag, or 0 (R334). -/
def framePcp (b : List Byte) : Nat :=
  let t := beVal (part b 12 2)
  if t = 0x8100 || t = 0x88A8 then fld b 14 1 / 32 else 0

/-- Whether a frame waits in the input FIFO of a lane and priority. -/
def ClsIn.inFifo (x : ClsIn) (l p : Nat) : Bool := !x.down && x.lane == l && framePcp x.bytes == p

/-- Bytes in an input FIFO, each frame with its FCS. -/
def State.fifoFill (s : State) (l p : Nat) : Nat := ((s.cls.inq.filter fun x => x.inFifo l p).map fun x => x.bytes.length + 4).sum

/-- MAC_ADDR of a MAC (R385). -/
def State.macAddr (s : State) (l : Nat) : List Byte := le 4 (s.rf (engMac l) MAC.MAC_ADDR_LO) ++ le 2 (s.rf (engMac l) MAC.MAC_ADDR_HI)

/-- A PFC frame without FCS, 60 bytes (R381, IEEE 802.1Qbb): addresses, EtherType 0x8808, opcode 0x0101, the priority-enable vector, eight times. -/
def pfcFrame (src : List Byte) (times : List (Nat × Nat)) : List Byte :=
  let t (p : Nat) : Nat := ((times.find? fun x => x.1 = p).map (·.2)).getD 0
  [0x01, 0x80, 0xC2, 0, 0, 0x01] ++ src ++ be 2 0x8808 ++ be 2 0x0101 ++ be 2 (times.map fun x => 2 ^ x.1).sum ++
    (List.range 8).flatMap (fun p => be 2 (t p)) ++ zeros 26

/-- A PFC frame sent, which gives the time to each priority (R381). -/
def State.sendPfc (s : State) (l : Nat) (times : List (Nat × Nat)) : State :=
  if times.isEmpty then s
  else
    let src := s.macAddr l
    let s := (s.laneOut l (pfcFrame src times) (.pfc l src times)).macAdd l Mac.txPfc 1
    times.foldl (fun s t => s.macAdd l (Mac.txPause t.1) 1) s

/-- What the fill of a priority's FIFO asks for: XOFF, XON, or nothing. -/
def State.pfcWants (s : State) (l p : Nat) : Option (Nat × Nat) :=
  let e := engMac l
  let fill := s.fifoFill l p
  let sent := bitOf (s.rf e MAC.TX_XOFF) p
  if !bitOf (s.rf e MAC.PFC_EN) p then none
  else if !sent && fill ≥ s.rf e MAC.XOFF * 256 then some (p, s.rf e MAC.PFC_QUANTA)
  else if sent && fill < s.rf e MAC.XON * 256 then some (p, 0)
  else none

/-- The bit of TX_XOFF follows a time sent: XOFF goes where it is 0, its release where it is 1. -/
def noteXoff (v : Nat) (t : Nat × Nat) : Nat := v ^^^ 2 ^ t.1

/-- The fill of every input FIFO of a MAC is watched (R381). A pair-link lane sends no PFC (R376). -/
def State.pfcWatch (s : State) (l : Nat) : State :=
  if s.canSend l && s.carries l then
    let ts := (List.range 8).filterMap fun p => s.pfcWants l p
    (s.wf (engMac l) MAC.TX_XOFF (ts.foldl noteXoff (s.rf (engMac l) MAC.TX_XOFF))).sendPfc l ts
  else s

/-! ### Transmit queues (R379) -/

/-- Bytes in a transmit queue, each frame with its FCS. -/
def State.txFill (s : State) (l p : Nat) : Nat := (((s.mac l).txq.get p []).map fun f => f.len + 4).sum

/-- A downstream frame to a MAC at a priority, or discarded in TX_DROP (R379). -/
def State.toMac (s : State) (l p : Nat) (pages : List Nat) (len : Nat) : State :=
  let e := engMac l
  if s.txShut l || len + 4 > s.rf e MAC.MAX_FRAME || s.txFill l p + len + 4 > s.rf e MAC.TX_QLIMIT * 1024 then
    (s.freePages pages).macAdd l Mac.txDrop 1
  else s.modMac l fun m => { m with txq := m.txq.upd p [] fun q => q ++ [{ pages := pages, len := len }] }

/-- Everything that waits in a MAC is discarded: its input FIFOs, transmit queues, PTP frames, and what a loop holds. -/
def State.flushMac (s : State) (l : Nat) : State :=
  let pages := (s.mac l).txq.flatMap fun q => q.2.flatMap (·.pages)
  let s := { s with cls := { s.cls with inq := s.cls.inq.filter fun x => x.down || x.lane != l } }
  (s.freePages pages).modMac l fun m => { m with txq := [], ptp := [], looped := [] }

end Sys2Proof.Machine
end

