-- ==== Sys2Proof/Machine/PonDown.lean ====
section
/-! DEFINITION. The downstream physical layer, activation and PLOAM messages, but for key control, sleep and the parents
(R87 to R112). -/
namespace Sys2Proof.Machine

/-- The serial number a terminal presents (R93). -/
def State.serial (s : State) (v : Nat) : Nat := s.opt.vendor * 2 ^ 32 + s.opt.vssn / 64 * 64 + v

/-- Partial SDUs of a channel lost: each counts in XG_REASM_ERR (R107). -/
def State.dropPartials (s : State) (ch : Nat) : State :=
  let n := (s.chn ch).partials.length
  (s.modCh ch fun c => { c with partials := [] }).bumpN (engXgem ch) XG.XG_REASM_ERR n

/-- UNPARK sent on the anchor channel of the group that a channel belongs to (R124). -/
def State.anchorOf (s : State) (ch : Nat) : Option Nat :=
  (s.pon.groups.find? fun g => (g.2.member ch).isSome).bind fun g => g.2.member g.2.anchor

/-- PARK or UNPARK on the anchor (R103, R123, R124). -/
def State.sendPark (s : State) (ch action : Nat) : State :=
  match s.anchorOf ch with
  | some v => s.sendUp v (.fennath (fennath 2 [byte ch, byte action]))
  | none => s

/-- The terminals of a parked channel return from PARKED to O5 (R94, R124, R143). -/
def State.unparkVts (s : State) (ch : Nat) : State :=
  ((s.vtsOn ch).filter fun v => (s.vt v).state = 8).foldl (fun s v => s.setVt v 5 7)
    (s.modCh ch fun c => { c with parked := false, park := .none })

/-- CHANNEL_PARKED (R128). -/
def State.parkedCue (s : State) (ch : Nat) (parked : Bool) : State := s.cue 0x2005 [byte ch, byte (bit parked), 0, 0]

/-- The terminals return, and a CHANNEL_PARK that was unparking the channel is answered with its cue. ANCHOR_SET alone raises no CHANNEL_PARKED
(log entry 126). -/
def State.unparkBoth (s : State) (ch : Nat) : State :=
  let asked := s.chan.waits.any fun w => w.why = .park ch
  let s := s.unparkVts ch
  if asked then (s.answer (fun w => w = .park ch) St.ok).parkedCue ch false else s

/-- What a channel that was waking to unpark does once its framer is in sync (R124, R143). -/
def State.syncParked (s : State) (ch : Nat) : State :=
  match (s.chn ch).park with
  | .unparkWake => (s.modCh ch fun c => { c with park := .unparkAck }).sendPark ch 0
  | .anchorWake =>
    let s := s.unparkBoth ch
    let gs := (s.chan.waits.filterMap fun w => match w.why with
      | .anchor g => some g
      | _ => none).filter fun g => ((s.pon.groups.look g).bind fun g => g.member ch).isSome
    gs.foldl (fun s g => (s.answer (fun w => w = .anchor g) St.ok).setAnchor g ch 1) s
  | _ => s

/-- The superframe counter taken from a PSync, where its HEC holds (R90). -/
def State.takeSfc (s : State) (ch : Nat) (hecOk : Bool) (sfc : Nat) : State :=
  if hecOk then
    (s.modCh ch fun c => { c with sfc := sfc, stamp := s.nowNs }).wf (engFramer ch) FR.SFC_LO sfc
  else s.bump (engFramer ch) FR.FR_HEC_ERR

/-- Disables that waited for a frame boundary take effect (R99). -/
def State.applyDisables (s : State) (ch : Nat) : State :=
  (s.vtsOn ch).foldl (fun s v => match (s.vt v).disable with
    | some c => s.disableVt v c
    | none => s) s

/-- The framer's synchronisation machine on one PSync field (R90). -/
def State.psync (s : State) (ch : Nat) (matched hecOk : Bool) (sfc : Nat) : State :=
  let e := engFramer ch
  match s.rf e FR.SYNC with
  | 0 => if matched then s.wf e FR.SYNC 1 else s
  | 1 =>
    if matched then
      let s := ((s.takeSfc ch hecOk sfc).wf e FR.SYNC 2).modCh ch fun c => { c with misses := 0 }
      let s := if s.on e FR.LODS then ((s.wf e FR.LODS 0).alarmCue ch 2).allToO6 ch else s
      (s.inSync ch).syncParked ch
    else s.wf e FR.SYNC 0
  | _ =>
    let s := s.applyDisables ch
    if matched then (s.takeSfc ch hecOk sfc).modCh ch fun c => { c with misses := 0 }
    else
      let s := s.bump e FR.FR_PSYNC_ERR
      if (s.chn ch).misses + 1 < 4 then s.modCh ch fun c => { c with misses := c.misses + 1 }
      else
        let s := s.modCh ch fun c => { c with misses := 0 }
        let s := (((s.wf e FR.LODS 1).bump e FR.FR_LODS_CNT).wf e FR.SYNC 0).alarmCue ch 2
        (s.lostSync ch).dropPartials ch

/-- PSYNC_RECEIVED (R90, R107): a framer that is ON and does not hold LOS takes the field, and a new downstream frame begins. `hec` says which of
the frame's HECs hold: the superframe counter's, and the operation control's (R126). -/
def execPsyncReceived (ch : Fin 4) (matched : Bool) (hec : PsyncHec) (sfc : BitVec 51) (s : State) : Host.Outcome State Fault Refusal :=
  let c := ch.val
  let e := engFramer c
  if s.works e && !s.on e FR.LOS then
    let s := (s.modCh c fun x => { x with rest := false }).psync c matched hec.sfc sfc.toNat
    .next (if matched && !hec.oc && s.rf e FR.SYNC = 2 then s.bump e FR.FR_HEC_ERR else s)
  else .next s

/-- PON_LOS_DECLARE (R91): no signal, or no lock, has lasted 32 µs on a channel whose receiver is awake. -/
def execPonLosDeclare (ch : Fin 4) (signal lock : Bool) (s : State) : Host.Outcome State Fault Refusal :=
  let c := ch.val
  let e := engFramer c
  if signal && lock || s.asleep (4 + c) then .next s
  else
    let s := (s.wf (engPmd c) PMD.SD (bit signal)).wf (engPmd c) PMD.CDR_LOCK (bit lock)
    if s.on e FR.LOS then .next s
    else
      let s := ((s.wf e FR.LOS 1).wf e FR.SYNC 0).wf (engPmd c) PMD.LOS_SEEN 1
      let s := (s.modCh c fun x => { x with misses := 0 }).alarmCue c 1
      .next ((s.lostSync c).dropPartials c)

/-- PON_LOS_CLEAR (R91): both conditions absent for 125 µs, on a channel whose PMD is ON. A terminal that came to O5 while LOS held goes to O6. -/
def execPonLosClear (ch : Fin 4) (s : State) : Host.Outcome State Fault Refusal :=
  let c := ch.val
  if s.works (engPmd c) then
    let s := (s.wf (engPmd c) PMD.SD 1).wf (engPmd c) PMD.CDR_LOCK 1
    if s.on (engFramer c) FR.LOS then .next (((s.wf (engFramer c) FR.LOS 0).alarmCue c 1).allToO6 c) else .next s
  else .next s

/-- FEC_CODEWORD (R106). -/
def execFecCodeword (ch : Fin 4) (corrected : Nat) (uncorrectable : Bool) (s : State) : Host.Outcome State Fault Refusal :=
  let e := engFec ch.val
  if s.works e then
    let s := s.bump e FEC.FEC_CW
    if uncorrectable then .next ((s.bump e FEC.FEC_UNCORR).dropPartials ch.val)
    else if corrected > 0 then .next ((s.bump e FEC.FEC_CORR_CW).bumpN e FEC.FEC_CORR_BITS corrected)
    else .next s
  else .next s

/-! ### PLOAM reception (R100, R101) -/

/-- Terminals of a channel that a message addresses: the holder of its ONU-ID, or every holder when it is 0x3FF. -/
def State.targets (s : State) (ch : Nat) (m : PloamMsg) : List Nat :=
  (s.vtsOn ch).filter fun v => match (s.vt v).onuId with
    | some o => m.onuId = 0x3FF || o = m.onuId.toNat
    | none => false

/-- The PLOAM integrity key a message is verified under: the addressed terminal's, or the default for a broadcast (R100, R113). -/
def State.ploamKey (s : State) (ch : Nat) (m : PloamMsg) : BitVec 128 :=
  if m.onuId = 0x3FF then Config.ponDerive none 0
  else
    match s.targets ch m with
    | v :: _ => Config.ponDerive (s.pon.msk.look v) 0
    | [] => Config.ponDerive none 0

/-- The 125 µs of part time in which something arrives: one downstream frame (R146, log entry 128). -/
def State.frameNow (s : State) : Nat := s.nowNs / 125000

/-- PLOAM_RX (R88, R100); in watchful sleep the receiver is off (R125). -/
def execPloamRx (ch : Fin 4) (msg : PloamMsg) (s : State) : Host.Outcome State Fault Refusal :=
  let c := ch.val
  let e := engPloam c
  if !s.chWorks c || (s.chn c).watch = .sleep then .next s
  else if msg.onuId ≠ 0x3FF && (s.targets c msg).isEmpty then .next s
  else if (Config.cmac (be 16 (s.ploamKey c msg).toNat) msg.bytes).extractLsb' 64 64 ≠ msg.mic then .next (s.bump e PL.PL_MIC_ERR)
  else
    let s := s.bump e PL.PL_RX
    if (s.chn c).rxq.length < 64 then .next (s.modCh c fun x => { x with rxq := x.rxq ++ [(s.frameNow, msg)] })
    else .next (s.bump e PL.PL_DROP)

/-- The oldest message of a channel's receive queue handled by `f`, where `f` takes messages of its kind (R101). -/
def State.handle (s : State) (ch : Nat) (f : PloamMsg → State → Option State) : State :=
  match (s.chn ch).rxq, s.fwStops with
  | m :: ms, false => (f m.2 (s.modCh ch fun c => { c with rxq := ms })).getD s
  | _, _ => s

/-- An Acknowledgement from a terminal. -/
def State.ackFrom (s : State) (v : Nat) (m : PloamMsg) (c : AckCode) : State := s.sendUp v (.ack m.seq.toNat c)

/-- An Acknowledgement from every addressed terminal. -/
def State.ackAll (s : State) (ch : Nat) (m : PloamMsg) (c : AckCode) : State :=
  (s.targets ch m).foldl (fun s v => s.ackFrom v m c) s

/-- Whether a burst profile of a rate may be used on a channel now (R129). -/
def State.rateOk (s : State) (ch : Nat) (rate : Nat) : Bool :=
  s.rf (engPmd ch) PMD.MODE = 1 || bitOf (s.rf (engPmd ch) PMD.US_RATES) rate

/-- BURST_PROFILE (R129, R94). -/
def execBurstProfile (ch : Fin 4) (s : State) : Host.Outcome State Fault Refusal :=
  .next (s.handle ch.val fun m s => match m.body with
    | .burstProfile i r shape =>
      let p : Profile := { rate := r.val, shape := shape }
      let s := (s.modCh ch.val fun c => { c with profiles := c.profiles.put i.val p }).wf (engFramer ch.val) FR.PROFILE 1
      some (s.settle ch.val)
    | _ => none)

/-- Assign_ONU-ID to a terminal: the ONU-ID, its default entries, TO1, O4 (R94, R95). An explicit entry that the channel already holds under the number stays and
no default one is made (log entry 120); default entries that it kept through O7 make way (log entry 129). -/
def State.assignOnu (s : State) (ch v o : Nat) : State :=
  let s := s.freeCuts fun a => a.vt = v && a.dflt
  let s := { s with pon := { s.pon with
    allocs := s.pon.allocs.filter fun a => !(a.2.vt = v && a.2.dflt)
    ports := s.pon.ports.filter fun p => !(p.2.vt = v && p.2.kind = 3) } }
  let s := s.modVt v fun t => { t with onuId := some o, to1 := some (s.rf (engPloam ch) PL.TO1) }
  let al := if s.pon.allocs.has (allocKey ch o) then s.pon.allocs else s.pon.allocs.put (allocKey ch o) { vt := v, dflt := true }
  let po := if s.pon.ports.has (portKey ch o) then s.pon.ports else
    s.pon.ports.put (portKey ch o) { vt := v, kind := 3, keying := 0 }
  { s with pon := { s.pon with allocs := al, ports := po } }.setVt v 4 0

/-- ASSIGN_ONU_ID (R94, R97). -/
def execAssignOnuId (ch : Fin 4) (s : State) : Host.Outcome State Fault Refusal :=
  .next (s.handle ch.val fun m s => match m.body with
    | .assignOnuId serial onu =>
      match (s.vtsOn ch.val).find? fun v => s.serial v = serial.toNat with
      | none => some s
      | some v =>
        if (s.vt v).state ≠ 2 || onu = 0x3FF then some s
        else if (s.vtsOn ch.val).any fun w => w ≠ v && (s.vt w).onuId = some onu.toNat then
          some ((s.bump (engPloam ch.val) PL.PL_DROP).logEng 0x0008 (engPloam ch.val) ([byte ch.val, 0] ++ le 2 onu.toNat))
        else some (s.assignOnu ch.val v onu.toNat)
    | _ => none)

/-- RANGING_TIME (R98). -/
def execRangingTime (ch : Fin 4) (s : State) : Host.Outcome State Fault Refusal :=
  .next (s.handle ch.val fun m s => match m.body with
    | .rangingTime relative delay =>
      let ts := s.targets ch.val m
      let new : Int := if relative then s.rf (engFramer ch.val) FR.EQD + delay else delay
      if ts.isEmpty then some s
      else if new < 0 || new > 0x1FFFFFF then some (s.ackAll ch.val m .parameterError)
      else
        let s := (s.wf (engFramer ch.val) FR.EQD new.toNat).wf (engFramer ch.val) FR.EQD_VALID 1
        some (ts.foldl (fun s v =>
          let s := if (s.vt v).state = 4 then (s.modVt v fun t => { t with to1 := none }).setVt v 5 0 else s
          s.ackFrom v m .ok) s)
    | _ => none)

/-- DEACTIVATE_ONU_ID (R94): terminals in O4 and O5 return to O1. -/
def execDeactivateOnuId (ch : Fin 4) (s : State) : Host.Outcome State Fault Refusal :=
  .next (s.handle ch.val fun m s => match m.body with
    | .deactivateOnuId =>
      let ts := (s.targets ch.val m).filter fun v => (s.vt v).state = 4 || (s.vt v).state = 5
      some ((ts.foldl (fun s v => s.releaseTo v 1 3) s).settle ch.val)
    | _ => none)

/-- O7 to O1 (R94). -/
def State.leaveO7 (s : State) (v : Nat) : State := if (s.vt v).state = 7 then s.setVt v 1 4 else s

/-- Disable_Serial_Number: the ONU-ID released and transmission stopped; the entries, keys and messages stay (R94, log entry 129). -/
def State.toO7 (s : State) (v : Nat) : State :=
  let s := s.abandon (s.vt v).channel fun b => b.vt = v
  (s.modVt v fun t => { t with onuId := none, to1 := none, to2 := none }).setVt v 7 4

/-- DISABLE_SERIAL_NUMBER (R94). -/
def execDisableSerialNumber (ch : Fin 4) (s : State) : Host.Outcome State Fault Refusal :=
  .next (s.handle ch.val fun m s => match m.body with
    | .disableSerial serial =>
      match (s.vtsOn ch.val).find? fun v => s.serial v = serial.toNat && (s.vt v).enabled with
      | none => some s
      | some v => if 1 ≤ (s.vt v).state && (s.vt v).state ≤ 6 then some (s.toO7 v) else some s
    | .enableSerial serial =>
      some (((s.vtsOn ch.val).filter fun v => s.serial v = serial.toNat).foldl State.leaveO7 s |>.settle ch.val)
    | .enableAll => some ((s.vtsOn ch.val).foldl State.leaveO7 s |>.settle ch.val)
    | _ => none)

/-- REQUEST_REGISTRATION (R102). -/
def execRequestRegistration (ch : Fin 4) (s : State) : Host.Outcome State Fault Refusal :=
  .next (s.handle ch.val fun m s => match m.body with
    | .requestRegistration => some ((s.targets ch.val m).foldl (fun s v => (s.modVt v fun t => { t with wantReg := true }).wsEnd ch.val) s)
    | _ => none)

/-- Assign_Alloc-ID for one terminal (R110, R111). -/
def State.assignAlloc (s : State) (ch v a : Nat) (add : Bool) (m : PloamMsg) : State :=
  let k := allocKey ch a
  match s.pon.allocs.look k, add with
  | some x, true => s.ackFrom v m (if x.vt = v then .ok else .parameterError)
  | none, true =>
    if s.allocExplicit ≥ 960 then (s.ackFrom v m .parameterError).tableFull 0 v 0 a
    else { s with pon := { s.pon with allocs := s.pon.allocs.put k { vt := v, dflt := false } } }.ackFrom v m .ok
  | some x, false =>
    if x.vt = v then
      let s := match x.cut with
        | some (q, _) => s.freePages q.pages
        | none => s
      { s with pon := { s.pon with allocs := s.pon.allocs.del k } }.ackFrom v m .ok
    else s.ackFrom v m .parameterError
  | none, false => s.ackFrom v m .ok

/-- ASSIGN_ALLOC_ID (R110, R111). -/
def execAssignAllocId (ch : Fin 4) (s : State) : Host.Outcome State Fault Refusal :=
  .next (s.handle ch.val fun m s => match m.body with
    | .assignAllocId a add => some ((s.targets ch.val m).foldl (fun s v => s.assignAlloc ch.val v a.toNat add m) s)
    | _ => none)

/-- TUNING_CONTROL (R102). -/
def execTuningControl (ch : Fin 4) (s : State) : Host.Outcome State Fault Refusal :=
  .next (s.handle ch.val fun m s => match m.body with
    | .tuningControl => some (s.ackAll ch.val m .parameterError)
    | _ => none)

/-- ADJUST_TX_WAVELENGTH (R102). -/
def execAdjustTxWavelength (ch : Fin 4) (s : State) : Host.Outcome State Fault Refusal :=
  .next (s.handle ch.val fun m s => match m.body with
    | .adjustTxWavelength => some (s.ackAll ch.val m .parameterError)
    | _ => none)

/-- Whether a message of type 0xF0 is a Fennath message (R103). -/
def isFennath (c : List Byte) : Bool := c.getD 0 0 = 0x46 && c.getD 1 0 = 0x4E

/-- The sub-type of a Fennath message. -/
def subType (c : List Byte) : Nat := (c.getD 2 0).toNat

/-- PLOAM_UNKNOWN_MESSAGE (R102, R103, R144): unlisted types, and Fennath sub-types the part does not take. -/
def execPloamUnknownMessage (ch : Fin 4) (s : State) : Host.Outcome State Fault Refusal :=
  .next (s.handle ch.val fun m s => match m.body with
    | .unlisted true => some (s.ackAll ch.val m .unknownType)
    | .unlisted false => some (s.bump (engPloam ch.val) PL.PL_DROP)
    | .fennath c =>
      if !isFennath c then some (s.bump (engPloam ch.val) PL.PL_DROP)
      else if [1, 3, 0x10, 0x13].contains (subType c) then none
      else some (s.ackAll ch.val m .parameterError)
    | _ => none)

/-! ### Port-ID entries (R112) -/

/-- What adding or removing a Port-ID entry comes to. -/
inductive PortDone where
  | done | same | collision | full | omcc
deriving DecidableEq, Repr

/-- A Port-ID entry added (R112). -/
def State.portAdd (s : State) (ch v p kind keying : Nat) : PortDone × State :=
  match s.pon.ports.look (portKey ch p) with
  | some x =>
    if x.kind = 3 then (.omcc, s)
    else if x = { vt := v, kind := kind, keying := keying } then (.same, s)
    else (.collision, s)
  | none =>
    if s.portExplicit ≥ 8128 then (.full, s)
    else (.done, { s with pon := { s.pon with ports := s.pon.ports.put (portKey ch p) { vt := v, kind := kind, keying := keying } } })

/-- A Port-ID entry removed; an entry of another terminal is not this terminal's to remove. -/
def State.portDel (s : State) (ch v p : Nat) : PortDone × State :=
  match s.pon.ports.look (portKey ch p) with
  | none => (.same, s)
  | some x =>
    if x.kind = 3 then (.omcc, s)
    else if x.vt ≠ v then (.same, s)
    else (.done, { s with pon := { s.pon with ports := s.pon.ports.del (portKey ch p) } })

/-- PORT_ASSIGN for one terminal (R103, R112). -/
def State.portAssign (s : State) (ch v : Nat) (c : List Byte) (m : PloamMsg) : State :=
  let action := (c.getD 4 0).toNat
  let p := beVal (part c 5 2)
  let keying := (c.getD 7 0).toNat
  if action > 1 || keying > 1 || p = 0xFFFF then s.ackFrom v m .parameterError
  else
    match if action = 1 then s.portAdd ch v p 1 keying else s.portDel ch v p with
    | (.done, s) => s.ackFrom v m .ok
    | (.same, s) => s.ackFrom v m .ok
    | (.full, s) => (s.ackFrom v m .parameterError).tableFull 1 v 0 p
    | (_, s) => s.ackFrom v m .parameterError

/-- PORT_ASSIGN (R112). -/
def execPortAssign (ch : Fin 4) (s : State) : Host.Outcome State Fault Refusal :=
  .next (s.handle ch.val fun m s => match m.body with
    | .fennath c =>
      if isFennath c && subType c = 1 then some ((s.targets ch.val m).foldl (fun s v => s.portAssign ch.val v c m) s) else none
    | _ => none)

/-- PARK_ACK for a channel (R123, R124). -/
def State.parkAck (s : State) (ch action : Nat) : State :=
  match (s.chn ch).park, action with
  | .parkAck, 1 => s.modCh ch fun c => { c with park := .parkHold }
  | .unparkAck, 0 => s.unparkBoth ch
  | _, _ => s

/-- PARK_ACK (R123, R124). -/
def execParkAck (ch : Fin 4) (s : State) : Host.Outcome State Fault Refusal :=
  .next (s.handle ch.val fun m s => match m.body with
    | .fennath c =>
      if isFennath c && subType c = 3 then
        let n := (c.getD 4 0).toNat
        if n < 4 then some (s.parkAck n (c.getD 5 0).toNat) else some s
      else none
    | _ => none)

/-! ### OMCI (R104, R105) -/

/-- OMCI_MESSAGE (R104): the oldest OMCI message of the channel, with its 4-byte MIC. The MIC is taken over the message's bytes alone (log entry 123). -/
def execOmciMessage (ch : Fin 4) (s : State) : Host.Outcome State Fault Refusal :=
  match (s.chn ch.val).omciIn, s.fwStops with
  | [], _ => .next s
  | _, true => .next s
  | (v, b) :: rest, false =>
    let s := s.modCh ch.val fun c => { c with omciIn := rest }
    let n := b.length - 4
    let msg := b.take n
    let mic := (Config.cmac (be 16 (Config.ponDerive (s.pon.msk.look v) 1).toNat) msg).extractLsb' 96 32
    if 5 ≤ b.length && b.length ≤ 2048 && beVal (b.drop n) = mic.toNat then
      .next (s.cue 0x2002 ([byte v, byte ch.val, 0, 0] ++ msg))
    else .next (s.bump (engPloam ch.val) PL.PL_MIC_ERR)

/-! ### Timers -/

/-- TO1_EXPIRY (R94). -/
def execTo1Expiry (vt : Fin 64) (s : State) : Host.Outcome State Fault Refusal :=
  let t := s.vt vt.val
  if t.state = 4 && t.to1.isSome then .next ((s.releaseTo vt.val 2 1).settle t.channel) else .next s

/-- TO2_EXPIRY (R94). -/
def execTo2Expiry (vt : Fin 64) (s : State) : Host.Outcome State Fault Refusal :=
  let t := s.vt vt.val
  if t.state = 6 && t.to2.isSome then .next ((s.releaseTo vt.val 1 2).settle t.channel) else .next s

/-- A channel sleeps again with its terminals in PARKED (R124, R143). -/
def State.parkAgain (s : State) (ch : Nat) : State :=
  ((s.abandon ch fun _ => true).modCh ch fun c => { c with park := .none, parked := true, rest := false }).dropPartials ch |>.sleepDomain (4 + ch)

/-- PARK_ACK_TIMEOUT (R123, R124). Where ANCHOR_SET wakes the same channel, it goes on waking (log entry 127). -/
def execParkAckTimeout (ch : Fin 4) (s : State) : Host.Outcome State Fault Refusal :=
  let c := ch.val
  match (s.chn c).park with
  | .parkAck => .next ((s.modCh c fun x => { x with park := .none }).answer (fun w => w = .park c) St.timeout)
  | .unparkWake => .next ((s.parkAgain c).answer (fun w => w = .park c) St.timeout)
  | .unparkAck => .next ((s.parkAgain c).answer (fun w => w = .park c) St.timeout)
  | .anchorWake => .next (s.answer (fun w => w = .park c) St.timeout)
  | _ => .next s

/-- PARK_HOLD_EXPIRY (R123): the terminals go to PARKED, the domain sleeps, the command is answered. -/
def execParkHoldExpiry (ch : Fin 4) (s : State) : Host.Outcome State Fault Refusal :=
  let c := ch.val
  if (s.chn c).park = .parkHold then
    let s := ((s.vtsOn c).filter fun v => (s.vt v).state = 5).foldl (fun s v => s.setVt v 8 7) s
    let s := ((s.parkAgain c).flushDark).answer (fun w => w = .park c) St.ok
    .next (s.parkedCue c true)
  else .next s

/-! ### Commands -/

/-- VT_CONFIG (R94, R99). An enable that comes while a disable waits for the frame boundary lets the disable happen at once (log entry 121). -/
def vtConfigCmd : Cmd where
  op := 0x0200
  len := fun n => n = 40
  params := fun _ r s =>
    let p := r.payload
    let v := fld p 0 1
    checks
      [param (v < 64) 0, param (fld p 1 1 < 4) 1, param (fld p 2 1 < 2) 2, resv p 3 1,
       param (!(fld p 2 1 = 1 && (s.vt v).enabled && (s.vt v).disable.isNone && (s.vt v).channel ≠ fld p 1 1)) 1,
       param (!(fld p 2 1 = 0 && (s.groupOf v).isSome)) 2]
  act := fun _ r s =>
    let p := r.payload
    let v := fld p 0 1
    let ch := fld p 1 1
    let reg := part p 4 36
    let s := match (s.vt v).disable with
      | some c => if fld p 2 1 = 1 then s.disableVt v c else s
      | none => s
    let t := s.vt v
    if fld p 2 1 = 1 then
      if t.enabled then
        if t.regId = reg then .say s St.noChange else .say (s.modVt v fun t => { t with regId := reg }) St.ok
      else
        let s := (s.modVt v fun t => { t with enabled := true, channel := ch, regId := reg }).setVt v 1 5
        .say (s.settle ch) St.ok
    else if !t.enabled then
      if t.channel = ch && t.regId = reg then .say s St.noChange
      else .say (s.modVt v fun t => { t with channel := ch, regId := reg }) St.ok
    else if t.disable.isSome then .say s St.noChange
    else
      let s := s.modVt v fun t => { t with regId := reg }
      if s.rf (engFramer t.channel) FR.SYNC = 2 then .say (s.modVt v fun t => { t with disable := some ch }) St.ok
      else .say (s.disableVt v ch) St.ok

/-- VT_CONFIG (R94, R99). -/
def execVtConfig (r : Req) (s : State) : Host.Outcome State Fault Refusal := .next (runCmd vtConfigCmd r s)

/-- FR_EQD as a word. -/
def State.eqdWord (s : State) (ch : Nat) : Nat := s.rf (engFramer ch) FR.EQD + 2 ^ 31 * s.rf (engFramer ch) FR.EQD_VALID

/-- Payload of VT_QUERY. -/
def State.vtReport (s : State) (v : Nat) : List Byte :=
  let t := s.vt v
  let flags := bit t.enabled + 2 * bit (s.groupOf v).isSome + 4 * bit (decide ((s.chn t.channel).watch ≠ .active))
  [byte v, byte t.channel, byte t.state, byte flags] ++ le 2 (t.onuId.getD 0xFFFF) ++ zeros 2 ++ be 4 s.opt.vendor ++
    le 4 (s.serial v) ++ le 4 (s.eqdWord t.channel) ++ le 2 (s.pon.allocs.filter fun a => a.2.vt = v).length ++
    le 2 (s.pon.ports.filter fun p => p.2.vt = v).length ++ zeros 4

def vtQueryCmd : Cmd where
  op := 0x0201
  len := fun n => n = 4
  params := fun _ r _ => checks [param (fld r.payload 0 1 < 64) 0, resv r.payload 1 3]
  act := fun _ r s => { st := s, payload := s.vtReport (fld r.payload 0 1) }

/-- VT_QUERY (R94). -/
def execVtQuery (r : Req) (s : State) : Host.Outcome State Fault Refusal := .next (runCmd vtQueryCmd r s)

def omciSendCmd : Cmd where
  op := 0x0202
  len := fun n => 5 ≤ n && n ≤ 2048
  params := fun _ r _ => checks [param (fld r.payload 0 1 < 64) 0, resv r.payload 1 3]
  act := fun _ r s =>
    let v := fld r.payload 0 1
    if (s.vt v).state ≠ 5 then .say s St.notReady
    else if (s.vt v).omci.length ≥ 16 then .say s St.busy 4
    else .say ((s.modVt v fun t => { t with omci := t.omci ++ [r.payload.drop 4] }).wsEnd (s.vt v).channel) St.ok

/-- OMCI_SEND (R105). -/
def execOmciSend (r : Req) (s : State) : Host.Outcome State Fault Refusal := .next (runCmd omciSendCmd r s)

def portSetCmd : Cmd where
  op := 0x0203
  len := fun n => n = 8
  stage := true
  domains := fun r s => [4 + (s.vt (fld r.payload 1 1)).channel]
  params := fun _ r _ =>
    let p := r.payload
    let keying := fld p 5 1
    let port := fld p 2 2
    checks
      [param (fld p 0 1 < 2) 0, param (fld p 1 1 < 64) 1, param (port ≠ 0xFFFF) 2, param (fld p 4 1 < 3) 4,
       param (keying < 3 && !(keying = 2 && fld p 4 1 ≠ 2)) 5, resv p 6 2]
  act := fun _ r s =>
    let p := r.payload
    let v := fld p 1 1
    let t := s.vt v
    if ((s.pon.ports.look (portKey t.channel (fld p 2 2))).map (·.kind)) = some 3 then .say s St.badParam 2
    else if t.state ≠ 5 && t.state ≠ 8 then .say s St.notReady
    else
      match if fld p 0 1 = 1 then s.portAdd t.channel v (fld p 2 2) (fld p 4 1) (fld p 5 1) else s.portDel t.channel v (fld p 2 2) with
      | (.done, s) => .say s St.ok
      | (.same, s) => .say s St.noChange
      | (.collision, s) => .say s St.collision
      | (.full, s) => .say (s.tableFull 1 v 1 (fld p 2 2)) St.exhausted
      | (.omcc, s) => .say s St.badParam 2

/-- PORT_SET (R112). -/
def execPortSet (r : Req) (s : State) : Host.Outcome State Fault Refusal := .next (runCmd portSetCmd r s)

/-- The members that BOND_GROUP_SET asks for. -/
def groupMembers (p : List Byte) : List (Option Nat) :=
  (List.range 4).map fun n => if fld p (4 + n) 1 = 0xFF then none else some (fld p (4 + n) 1)

/-- A channel's byte of BOND_GROUP_SET. -/
def groupByteOk (p : List Byte) (s : State) (n : Nat) : Bool :=
  let v := fld p (4 + n) 1
  v = 0xFF || v < 64 && (s.vt v).channel = n && s.rf (engPmd n) PMD.MODE ≠ 1

/-- Whether new members remove the anchor member while other members remain. -/
def losesAnchor (g : Group) (ms : List (Option Nat)) : Bool :=
  ms.getD g.anchor none ≠ g.member g.anchor &&
    (List.range 4).any fun n => n ≠ g.anchor && (g.member n).isSome && ms.getD n none = g.member n

/-- A group deleted: downstream flushed, upstream frames freed, bindings to it ended. -/
def State.deleteGroup (s : State) (gi : Nat) : State :=
  let s := s.flushGroup gi
  let frames := ((s.pon.groups.look gi).map Group.frames).getD []
  { s with pon := { s.pon with
      groups := s.pon.groups.del gi
      allocs := s.pon.allocs.each fun _ a => match a.bind with
        | some (some g, _) => if g = gi then { a with bind := none } else a
        | _ => a } }.endFrames frames

/-- A group given its members (R116, R136). -/
def State.setGroup (s : State) (gi : Nat) (ms : List (Option Nat)) : State :=
  let low := ((List.range 4).find? fun n => (ms.getD n none).isSome).getD 0
  match s.pon.groups.look gi with
  | none => { s with pon := { s.pon with groups := s.pon.groups.put gi { members := ms, anchor := low } } }
  | some g =>
    let anchor := if (ms.getD g.anchor none).isSome then g.anchor else low
    { s with pon := { s.pon with groups := s.pon.groups.put gi { g with members := ms, anchor := anchor } } }

/-- BOND_GROUP_SET's checks that look at the state. -/
def groupChecks (p : List Byte) (s : State) : Chk :=
  let gone := match s.pon.groups.look (fld p 0 1) with
    | some g => losesAnchor g (groupMembers p)
    | none => false
  checks (((List.range 4).map fun n => param (groupByteOk p s n) (4 + n)) ++ [param (!gone) 4])

/-- BOND_GROUP_SET's effect. -/
def groupSet (gi : Nat) (ms : List (Option Nat)) (s : State) : Act :=
  let old := ((s.pon.groups.look gi).map (·.members)).getD [none, none, none, none]
  if old = ms then .say s St.noChange
  else if ms.any fun m => match m with
      | some v => match s.groupOf v with
        | some g => g ≠ gi
        | none => false
      | none => false then .say s St.collision
  else if ms.all (·.isNone) then .say (s.deleteGroup gi) St.ok
  else .say (s.setGroup gi ms) St.ok

def bondGroupSetCmd : Cmd where
  op := 0x0204
  len := fun n => n = 8
  stage := true
  domains := fun _ _ => [13]
  params := fun _ r _ =>
    let p := r.payload
    let ok (n : Nat) : Bool := fld p (4 + n) 1 = 0xFF || fld p (4 + n) 1 < 64
    checks ([param (fld p 0 1 < 16) 0, resv p 1 3] ++ ((List.range 4).map fun n => param (ok n) (4 + n)))
  act := fun _ r s =>
    match groupChecks r.payload s with
    | some f => .fail s f
    | none => groupSet (fld r.payload 0 1) (groupMembers r.payload) s

/-- BOND_GROUP_SET (R116). -/
def execBondGroupSet (r : Req) (s : State) : Host.Outcome State Fault Refusal := .next (runCmd bondGroupSetCmd r s)

/-- Whether a channel anchors a group. -/
def State.isAnchor (s : State) (ch : Nat) : Bool := s.pon.groups.any fun g => g.2.anchor = ch && (g.2.member ch).isSome

end Sys2Proof.Machine
end

