-- ==== Sys2Proof/Machine/PonUp.lean ====
section
/-! DEFINITION. Upstream bursts: grants, commit points, fragments, status reports, ends; allocation binding and the anchor
(R129 to R143, R241 to R243, R349, R350). -/
namespace Sys2Proof.Machine

/-! ### Grants (R130, R131) -/

/-- Bit periods of 49.7664 Gb/s per upstream bit of a channel at a profile's rate (R129). -/
def State.bitRatio (s : State) (ch rate : Nat) : Nat :=
  if s.rf (engPmd ch) PMD.MODE = 1 then 5 else if rate = 0 then 4 else if rate = 1 then 2 else 1

/-- Bytes of a burst from its FS header on (R133). -/
def Grant.bytes (g : Grant) : Nat := 8 + (if g.ploam then 48 else 0) + (g.allocs.map (·.bytes)).sum

/-- When a burst's preamble begins and when the burst ends. -/
def State.burstSpan (s : State) (ch : Nat) (b : Burst) : Nat × Nat :=
  match (s.chn ch).profiles.look b.grant.profile.val with
  | some p =>
    let r := s.bitRatio ch p.rate * 8
    (b.start - p.shape.length * r, b.start + b.grant.bytes * r)
  | none => (b.start, b.start + b.grant.bytes * 8)

/-- Whether two bursts of a channel overlap in time. -/
def State.overlap (s : State) (ch : Nat) (a b : Burst) : Bool :=
  decide ((s.burstSpan ch a).1 < (s.burstSpan ch b).2) && decide ((s.burstSpan ch b).1 < (s.burstSpan ch a).2)

/-- Whether the transmitter may send: TX_EN, and ROGUE cleared (R126). -/
def State.txOn (s : State) (ch : Nat) : Bool := s.on (engPmd ch) PMD.TX_EN && !s.on (engPmd ch) PMD.ROGUE

/-- The terminals a grant is for: the holder of its ONU-ID, or for a serial-number grant every terminal in O2-3 (R94). -/
def State.grantVts (s : State) (ch : Nat) (g : Grant) : List Nat :=
  (s.vtsOn ch).filter fun v => match g.kind with
    | .serialNumber => (s.vt v).state = 2
    | .ranging o => (s.vt v).onuId = some o.toNat
    | .normal o => (s.vt v).onuId = some o.toNat

/-- The state that a grant's kind needs (R130). -/
def GrantKind.state : GrantKind → Nat
  | .serialNumber => 2
  | .ranging _ => 4
  | .normal _ => 5

/-- Upstream frame offset of 35 µs in bit periods of 49.7664 Gb/s (R131). -/
def frameOffset : Nat := 1741824

/-- The random delay of a terminal's next Serial_Number_ONU (R96). -/
def State.snDelay (s : State) (v : Nat) : Nat := Config.randomDelay Config.uniqueId v (s.vt v).draws

/-- The burst that a grant asks of a terminal (R131). -/
def State.burstOf (s : State) (ch arrival v : Nat) (g : Grant) : Burst :=
  let sfc := (s.chn ch).sfc
  let at_ := arrival + frameOffset + s.rf (engFramer ch) FR.EQD + g.start
  match g.kind with
  | .ranging _ => { vt := v, grant := g, sfc := sfc, start := arrival + frameOffset + Config.preAssignedDelay + g.start }
  | .serialNumber => { vt := v, grant := g, sfc := sfc, delay := s.snDelay v, start := at_ + s.snDelay v }
  | .normal _ => { vt := v, grant := g, sfc := sfc, start := at_ }

/-- Whether a profile that a grant names is held and usable now (R129). -/
def State.profileOk (s : State) (ch i : Nat) : Bool := (((s.chn ch).profiles.look i).map fun p => s.rateOk ch p.rate).getD false

/-- A grant checked for one terminal (R130). Of two that overlap with one StartTime, the one held stays (log entry 122). -/
def State.grantTo (s : State) (ch arrival : Nat) (g : Grant) (v : Nat) : State :=
  if !s.profileOk ch g.profile.val || !s.txOn ch || (s.vt v).state ≠ g.kind.state then s.grantDrop ch 1
  else
    let b := s.burstOf ch arrival v g
    let s := if g.kind = .serialNumber then s.modVt v fun t => { t with draws := t.draws + 1 } else s
    let clash := (s.chn ch).bursts.filter fun x => s.overlap ch x b
    if clash.any fun x => x.committed || decide (x.start ≤ b.start) then s.grantDrop ch 1
    else (s.grantDrop ch clash.length).modCh ch fun c => { c with bursts := (c.bursts.filter fun x => !clash.contains x) ++ [b] }

/-- One grant checked (R130): `n` counts the allocations addressed to the part so far. -/
def State.takeGrant (s : State) (ch arrival n : Nat) (g : Grant) : State × Nat :=
  match s.grantVts ch g with
  | [] => (s, n)
  | vs =>
    let g' := { g with allocs := g.allocs.take (64 - n) }
    let excess := g.allocs.length - (64 - n)
    let s := s.grantDrop ch excess
    (if excess > 0 && g'.allocs.isEmpty then s else vs.foldl (fun s v => s.grantTo ch arrival g' v) s, n + g.allocs.length)

/-- BANDWIDTH_MAP (R125, R130, R131): the map of the frame whose first bit arrived at bit period `arrival`. In watchful sleep the transmitter is
off. -/
def execBandwidthMap (ch : Fin 4) (arrival : Nat) (grants : List Grant) (s : State) : Host.Outcome State Fault Refusal :=
  if s.chWorks ch.val && s.rf (engFramer ch.val) FR.SYNC = 2 && ((s.chn ch.val).watch = .active || (s.chn ch.val).watch = .leaving) then
    .next (grants.foldl (fun a g => a.1.takeGrant ch.val arrival a.2 g) (s, 0)).1
  else .next s

/-! ### Filling an allocation (R133, R136, R137, R139, R349) -/

/-- XGEM payloads are padded to 4 bytes. -/
def pad4 (n : Nat) : Nat := (n + 3) / 4 * 4

/-- Whether the part commits user data upstream: a parent is active, and it is not a pair's standby or draining (R145, R150, R156). -/
def State.userUp (s : State) : Bool :=
  s.rf engBond BD.ACTIVE ≠ 0 && s.rf engBond BD.ROLE ≠ 2 && !s.pon.pair.draining

/-- An allocation being filled: room left, encrypted payload still allowed, the payloads placed in it, and where the next one stands in the burst. -/
structure Fill where
  st : State
  ch : Nat
  room : Nat
  enc : Nat
  pos : Nat
  burst : Burst
  out : List XgemOut := []

/-- A terminal's Port-ID of a kind: its lowest (log entry 133). -/
def State.portFor (s : State) (ch v kind : Nat) : Option (Nat × Port) :=
  (s.pon.ports.find? fun p => p.1 / 2 ^ 16 == ch && p.2.vt == v && p.2.kind == kind).map fun p => (p.1 % 2 ^ 16, p.2)

/-- Whether a payload for a port is encrypted: KEYING unicast and a key in force (R242). -/
def State.encrypts (s : State) (v : Nat) (p : Port) : Option (BitVec 128) :=
  if p.keying = 1 && (s.vt v).curKey ≠ 0 then s.pon.keys.look (uniKey v (s.vt v).curKey) else none

/-- A payload placed in the burst, encrypted where its port asks for it (R241, R242). -/
def Fill.place (f : Fill) (port : Nat) (p : Port) (last : Bool) (bs : List Byte) : Fill :=
  let v := f.burst.vt
  let n := 8 + pad4 bs.length
  let f' := { f with room := f.room - n, pos := f.pos + n }
  match f.st.encrypts v p with
  | some k =>
    let ctr := be 16 (Config.upCounter f.burst.sfc f.burst.grant.start f.pos).toNat
    let ct := bs.zipIdx.map fun x => x.1 ^^^ Config.keystream (be 16 k.toNat) ctr x.2
    { f' with st := f.st.ponBlocks f.ch bs.length, enc := f.enc - bs.length, out := f.out ++ [⟨port, (f.st.vt v).curKey, last, ct⟩] }
  | none => { f' with st := if p.keying = 1 then f.st.bump engKeys KS.CX_PON_NOKEY else f.st, out := f.out ++ [⟨port, 0, last, bs⟩] }

/-- Whether a payload of `n` bytes fits the room and the encryption engines, of which at least one is there (R113, R243). -/
def Fill.fits (f : Fill) (p : Port) (n : Nat) : Bool :=
  decide (8 + pad4 n ≤ f.room) && ((f.st.encrypts f.burst.vt p).isNone || (f.st.ponEngine f.ch).isSome && decide (n ≤ f.enc))

/-- A fragment's bonding header and data (R117). -/
def fragBytes (gi : Nat) (x : UpFrag) : List Byte :=
  [byte (0x40 + 32 * bit x.sof + 16 * bit x.eof), byte gi] ++ be 3 x.bseq ++ [0] ++ be 2 x.data.length ++ x.data

/-- A re-send fragment that is too late for burst `b`: it and the uncommitted rest of its frame are discarded (R139, R140). -/
def State.expireFrag (s : State) (gi : Nat) (b : Burst) (x : UpFrag) : State :=
  let s := s.bump engBond BD.BU_RESEND_EXPIRED
  let s := s.modGroup gi fun g => { g with
    resend := g.resend.filter fun y => y ≠ x
    queue := g.queue.filter fun c => !(c.frame = x.frame && c.cut > 0) }
  if b.frags.any fun f => f.2.frame = x.frame then s else s.endFrames [x.frame]

/-- Re-send fragments placed first, in BSEQ order, as long as each one fits (R139). -/
def Fill.resend (f : Fill) (gi port : Nat) (p : Port) : Nat → Fill
  | 0 => f
  | n + 1 =>
    match ((f.st.pon.groups.look gi).map (·.resend)).getD [] with
    | [] => f
    | x :: _ =>
      let late := decide (x.firstStart * 10 + f.st.rf engBond BD.US_WINDOW * 497664 < f.burst.start * 10)
      if late then ({ f with st := f.st.expireFrag gi f.burst x }).resend gi port p n
      else if f.fits p (8 + x.data.length) then
        let s := (f.st.modGroup gi fun g => { g with resend := g.resend.drop 1 }).bump engBond BD.BU_RESENT
        let f := { f with st := s, burst := { f.burst with frags := f.burst.frags ++ [(gi, x)] } }.place port p true (fragBytes gi x)
        f.resend gi port p n
      else f

/-- A frame's bytes from its pages. -/
def State.frameBytes (s : State) (x : QFrame) : List Byte := s.readPages x.pages x.bytes

/-- Whether a sealed frame stands at the head of a queue beneath a node of level 1 + `k`. -/
def Sched.readyUnder (c : Sched) : Nat → Nat → Bool
  | 0, n => ((c.queues.look n).map (·.ready)).getD false
  | 1, n => (c.queuesOf n).any fun x => x.2.ready
  | k + 2, n => (c.kids (k + 2) n).any fun x => c.readyUnder (k + 1) x.1

/-- Nothing is eligible: idle frames fill the rest, and TS_SHAPED_IDLE counts data that shapers hold back (R349). -/
def State.idleRest (s : State) (node room : Nat) : State :=
  if 0 < room && s.sched.readyUnder 4 node then s.bump engSched TS.TS_SHAPED_IDLE else s

/-- Bytes of the next fragment of a frame of which `left` bytes remain, and whether it is the last (R137); none where it does not fit. -/
def Fill.fragLen (f : Fill) (p : Port) (left : Nat) : Option (Nat × Bool) :=
  let most := f.st.rf engBond BD.MAX_FRAG * 64
  let k := min (f.room - 16) most / 64 * 64
  if left ≤ most && f.fits p (8 + left) then some (left, true)
  else if k < 64 || !f.fits p (8 + k) then none
  else some (k, false)

/-- Bytes of the next XGEM piece of a plain SDU (R134). -/
def Fill.sduLen (f : Fill) (p : Port) (left : Nat) : Option (Nat × Bool) :=
  let k := (f.room - 8) / 4 * 4
  if f.fits p left then some (left, true)
  else if k = 0 || !f.fits p k then none
  else some (k, false)

/-- New fragments cut from the head of the group's queue, which takes frames from the S5 node as it runs empty, as long as something of them can be placed
(R137, R349). -/
def Fill.cut (f : Fill) (gi ch node port : Nat) (p : Port) : Nat → Fill
  | 0 => f
  | n + 1 =>
    match f.st.pon.groups.look gi with
    | none => f
    | some g =>
      match g.queue with
      | [] =>
        match f.st.choose node ch with
        | none => { f with st := f.st.idleRest node f.room }
        | some (_, x, s) =>
          if (f.fragLen p x.bytes).isNone then f
          else ({ f with st := s.modGroup gi fun g => { g with queue := [{ frame := x, cut := 0 }] } }).cut gi ch node port p n
      | c :: cs =>
        match f.fragLen p (c.frame.bytes - c.cut) with
        | none => f
        | some (len, whole) =>
          let x : UpFrag :=
            { bseq := g.bseq, sof := c.cut = 0, eof := whole, data := ((f.st.frameBytes c.frame).drop c.cut).take len,
              firstStart := f.burst.start, frame := c.frame }
          let q := if whole then cs else { c with cut := c.cut + len } :: cs
          let s := f.st.modGroup gi fun g => { g with queue := q, bseq := (g.bseq + 1) % 2 ^ 24 }
          let f := { f with st := s, burst := { f.burst with frags := f.burst.frags ++ [(gi, x)] } }.place port p true (fragBytes gi x)
          f.cut gi ch node port p n

/-- A plain allocation filled with whole SDUs and XGEM fragments (R134, R349). -/
def Fill.plain (f : Fill) (ch node key port : Nat) (p : Port) : Nat → Fill
  | 0 => f
  | n + 1 =>
    match ((f.st.pon.allocs.look key).map (·.cut)).getD none with
    | none =>
      match f.st.choose node ch with
      | none => { f with st := f.st.idleRest node f.room }
      | some (_, x, s) =>
        if (f.sduLen p x.bytes).isNone then f
        else
          let s := { s with pon := { s.pon with allocs := s.pon.allocs.adj key fun a => { a with cut := some (x, 0) } } }
          { f with st := s }.plain ch node key port p n
    | some (x, done) =>
      match f.sduLen p (x.bytes - done) with
      | none => f
      | some (len, whole) =>
        let bs := ((f.st.frameBytes x).drop done).take len
        let next := if whole then none else some (x, done + len)
        let s := { f.st with pon := { f.st.pon with allocs := f.st.pon.allocs.adj key fun a => { a with cut := next } } }
        let b := if whole then { f.burst with plain := f.burst.plain ++ [x] } else f.burst
        let f := { f with st := s, burst := b }.place port p whole bs
        if whole then f.plain ch node key port p n else f

/-- OMCI messages of a terminal, with their MIC, on the OMCC in its default Alloc-ID (R105). -/
def Fill.omci (f : Fill) (onu : Nat) : Nat → Fill
  | 0 => f
  | n + 1 =>
    let v := f.burst.vt
    match (f.st.vt v).omci with
    | [] => f
    | m :: ms =>
      let mic := (Config.cmac (be 16 (Config.ponDerive (f.st.pon.msk.look v) 1).toNat) m).extractLsb' 96 32
      let b := m ++ be 4 mic.toNat
      let p : Port := { vt := v, kind := 3, keying := 0 }
      if f.fits p b.length then
        ({ f with st := f.st.modVt v fun t => { t with omci := ms } }.place onu p true b).omci onu n
      else f

/-- Whether a burst of the former parent is still to end when burst `b` begins: until then the new parent's bursts carry no user data (R147). -/
def State.behindOld (s : State) (ch : Nat) (b : Burst) : Bool :=
  s.pon.chs.any fun c => c.2.bursts.any fun x => x.old && x.committed && decide ((s.burstSpan ch b).1 < (s.burstSpan c.1 x).2)

/-- The payloads of one allocation of a committed burst (R133, R134). -/
def Fill.load (f : Fill) (ch : Nat) (a : AllocGrant) : Fill :=
  let key := allocKey ch a.alloc.toNat
  let v := f.burst.vt
  match f.st.pon.allocs.look key with
  | none => f
  | some x =>
    if x.vt ≠ v then f
    else
      let f := if x.dflt then f.omci (((f.st.vt v).onuId).getD 0) 16 else f
      if f.st.fenced ch || !f.st.userUp || f.st.behindOld ch f.burst then f
      else
        match x.bind with
        | none => f
        | some (none, node) =>
          match f.st.portFor ch v 0 with
          | some (port, p) => f.plain ch node key port p (a.bytes + 1)
          | none => f
        | some (some gi, node) =>
          match f.st.pon.groups.look gi, f.st.portFor ch v 1 with
          | some g, some (port, p) =>
            if g.member ch = some v && f.st.takes gi g ch then (f.resend gi port p (g.resend.length)).cut gi ch node port p (a.bytes + 1) else f
          | _, _ => f

/-- One allocation filled: room for its status report, payloads, idle frames for the rest. -/
def Fill.alloc (f : Fill) (ch : Nat) (a : AllocGrant) : Fill :=
  let head := if a.report then 4 else 0
  let f := { f with room := a.bytes - head, pos := f.pos + head, out := [] }.load ch a
  { f with
    pos := f.pos + f.room
    burst := { f.burst with allocs := f.burst.allocs ++ [{ alloc := a.alloc.toNat, report := none, xgem := f.out, idle := f.room }] } }

/-! ### Status reports (R135) -/

/-- Bytes that it takes to send a frame's remaining bytes in fragments. -/
def State.fragCost (s : State) (left : Nat) : Nat :=
  let most := s.rf engBond BD.MAX_FRAG * 64
  let n := (left + most - 1) / most
  left / most * (16 + most) + (if left % most = 0 then 0 else 16 + pad4 (left % most)) + (if n = 0 then 16 else 0)

/-- Lengths of the frames beneath a node of level 1 + `k` (R343). -/
def Sched.lens (c : Sched) : Nat → Nat → List Nat
  | 0, n => ((c.queues.look n).map fun q => q.frames.map (·.len)).getD []
  | 1, n => (c.queuesOf n).flatMap fun x => x.2.frames.map (·.len)
  | k + 2, n => (c.kids (k + 2) n).flatMap fun x => c.lens (k + 1) x.1

/-- The status report of an allocation: units of 4 bytes, saturating at 24 bits (log entry 20). -/
def State.report (s : State) (ch : Nat) (a : AllocGrant) : Nat :=
  if s.fenced ch then 0
  else
    match (s.pon.allocs.look (allocKey ch a.alloc.toNat)).bind fun x => x.bind.map fun b => (x, b) with
    | none => 0
    | some (x, (none, node)) =>
      let held := match x.cut with
        | some (q, d) => 8 + pad4 (q.bytes - d)
        | none => 0
      min 0xFFFFFF ((held + ((s.sched.lens 4 node).map fun n => 8 + pad4 n).sum + 3) / 4)
    | some (_, (some gi, node)) =>
      match s.pon.groups.look gi with
      | none => 0
      | some g =>
        let q := (g.queue.map fun c => s.fragCost (c.frame.bytes - c.cut)).sum
        let r := (g.resend.map fun x => 16 + pad4 x.data.length).sum
        min 0xFFFFFF ((q + r + ((s.sched.lens 4 node).map s.fragCost).sum + 3) / 4)

/-! ### Commit point (R132, R133) -/

/-- A terminal's next PLOAM message: Registration where one was asked for, else its queue's oldest; a held message moves up (R101, R102). -/
def State.popPloam (s : State) (v : Nat) : Option UpMsg × State :=
  let t := s.vt v
  if t.wantReg then (some (.registration t.regId), s.modVt v fun t => { t with wantReg := false })
  else
    match t.queue with
    | [] => (none, s)
    | m :: ms => (some m, s.modVt v fun t => { t with queue := ms ++ t.held.take 1, held := t.held.drop 1 })

/-- The burst's PLOAM message. -/
def State.burstPloam (s : State) (b : Burst) : Option UpMsg × State :=
  match b.grant.kind with
  | .serialNumber => (some (.serialNumber s.opt.vendor (s.serial b.vt % 2 ^ 32) b.delay), s)
  | .ranging _ => (some (.registration (s.vt b.vt).regId), s)
  | .normal _ => if b.grant.ploam then s.popPloam b.vt else (none, s)

/-- Kind and fields of an upstream PLOAM message, as its layout takes them. -/
def UpMsg.parts : UpMsg → Nat × List Nat
  | .serialNumber vendor vssn delay => (1, [vendor, vssn, delay])
  | .registration r => (2, r.map (·.toNat))
  | .ack seq c => (3, [seq, match c with
      | .ok => 0
      | .parameterError => 1
      | .unknownType => 2])
  | .keyReport i w => (4, i :: w.map (·.toNat))
  | .sleepRequest awake => (5, [bit awake])
  | .fennath c => (6, c.map (·.toNat))

/-- The 40 bytes of an upstream PLOAM message before its MIC: a Fennath message's content is its own (R103). -/
def UpMsg.bytes (m : UpMsg) (onu : Nat) : List Byte :=
  be 4 (Config.ploamHead m.parts.1 onu).toNat ++ match m with
    | .fennath c => c
    | m => be 36 (Config.ploamContent m.parts.1 m.parts.2).toNat

/-- An upstream PLOAM message with the MIC that the PLOAM engine appends, under the terminal's PLOAM integrity key (R100, R113). -/
def State.withMic (s : State) (v : Nat) (m : UpMsg) : UpMsg × BitVec 64 :=
  (m, (Config.cmac (be 16 (Config.ponDerive (s.pon.msk.look v) 0).toNat) (m.bytes ((s.vt v).onuId.getD 0x3FF))).extractLsb' 64 64)

/-- The earliest burst of a channel that is granted and not committed. -/
def State.nextBurst (s : State) (ch : Nat) (committed : Bool) : Option Burst :=
  ((s.chn ch).bursts.filter fun b => b.committed == committed).foldl (fun best b => match best with
    | none => some b
    | some x => if b.start < x.start then some b else some x) none

/-- The contents of a burst fixed. -/
def State.commit (s : State) (ch : Nat) (b : Burst) (enc : Nat) : State :=
  let (ploam, s) := s.burstPloam b
  let f := b.grant.allocs.foldl (fun f a => f.alloc ch a)
    ({ st := s, ch := ch, room := 0, enc := enc, pos := 8 + (if b.grant.ploam then 48 else 0), burst := b } : Fill)
  let outs := (f.burst.allocs.zip b.grant.allocs).map fun x => { x.1 with report := if x.2.report then some (f.st.report ch x.2) else none }
  let b' := { f.burst with committed := true, ploam := ploam.map fun m => s.withMic b.vt m, allocs := outs }
  (f.st.modCh ch fun c => { c with bursts := c.bursts.map fun x => if x = b then b' else x }).noteBurst ch

/-- A burst's commit point (R132): a terminal that no longer may send it drops the grant (log entry 130). -/
def State.commitNext (s : State) (ch enc : Nat) : State :=
  match s.nextBurst ch false with
  | none => s
  | some b =>
    let s := s.noteAllTaking
    if s.txOn ch && s.chWorks ch && (s.vt b.vt).state = b.grant.kind.state then s.commit ch b enc
    else (s.modCh ch fun x => { x with bursts := x.bursts.filter fun y => y ≠ b }).grantDrop ch 1

/-- The microsecond of a burst's start. -/
def Burst.us (b : Burst) : Nat := b.start * 10 / 497664

/-- Lower channels whose next burst, of a member of the same group, reaches its commit point in the same microsecond (R136). -/
def State.lowerFirst (s : State) (ch : Nat) (b : Burst) : List Nat :=
  (List.range ch).filter fun c => match s.nextBurst c false with
    | some x => decide (x.us = b.us) && (s.groupOf x.vt).isSome && s.groupOf x.vt == s.groupOf b.vt
    | none => false

/-- A channel's next burst committed ahead of its own row. -/
def State.commitEarly (s : State) (ch enc : Nat) : State :=
  match s.nextBurst ch false with
  | none => s
  | some b => (s.modCh ch fun c => { c with bursts := c.bursts.map fun x => if x = b then { x with early := true } else x }).commitNext ch enc

/-- BURST_COMMIT (R132, R136): the channel's next burst, behind those of lower members in the same microsecond; `enc` is how much payload the PON-layer
engines can encrypt before it starts (R243). The row of a burst that has committed ahead of it does nothing more. -/
def execBurstCommit (ch : Fin 4) (enc : Nat) (s : State) : Host.Outcome State Fault Refusal :=
  let c := ch.val
  if (s.chn c).bursts.any fun b => b.committed && b.early then
    .next (s.modCh c fun x => { x with bursts := x.bursts.map fun b => { b with early := false } })
  else
    match s.nextBurst c false with
    | none => .next s
    | some b => .next (((s.lowerFirst c b).foldl (fun s c => s.commitEarly c enc) s).commitNext c enc)

/-- A burst as it leaves (R133). -/
def State.burstOut (s : State) (ch : Nat) (b : Burst) : BurstOut :=
  let p := (s.chn ch).profiles.look b.grant.profile.val
  { ch := ch, vt := b.vt, start := b.start, shape := (p.map (·.shape)).getD [], rate := (p.map (·.rate)).getD 0, onuId := (s.vt b.vt).onuId,
    ploam := b.ploam, allocs := b.allocs }

/-- WSleep has been sent by every terminal of a channel: it falls into watchful sleep (R125). -/
def State.wsFall (s : State) (ch : Nat) : State :=
  let owed := (s.vtsOn ch).any fun v => ((s.vt v).queue ++ (s.vt v).held).contains (.sleepRequest false)
  let under := (s.chn ch).bursts.any fun b => b.ploam.any fun m => m.1 == .sleepRequest false
  if (s.chn ch).watch = .leaving && !owed && !under then s.modCh ch fun c => { c with watch := .sleep } else s

/-- BURST_END (R138, R140): the channel's earliest committed burst has been sent. -/
def execBurstEnd (ch : Fin 4) (s : State) : Host.Outcome State Fault Refusal :=
  let c := ch.val
  match s.nextBurst c true with
  | none => .next s
  | some b =>
    let s := s.emit (.burst (s.burstOut c b))
    let s := (s.modCh c fun x => { x with bursts := x.bursts.filter fun y => y ≠ b }).noteBurst c
    let s := (s.bump engBond (BD.US_BURSTS.idx c)).bumpN engBond BD.BU_FRAGS b.frags.length
    let s := if b.ploam.isSome then s.bump (engPloam c) PL.PL_TX else s
    let s := s.endFrames (b.frags.map (·.2.frame))
    .next ((b.plain.foldl (fun s x => s.freePages x.pages) s).wsFall c)

/-- ROGUE_DETECT (R126, R132, R138). -/
def execRogueDetect (ch : Fin 4) (s : State) : Host.Outcome State Fault Refusal :=
  let c := ch.val
  if s.on (engPmd c) PMD.ROGUE then .next s
  else
    let s := ((s.wf (engPmd c) PMD.ROGUE 1).wf (engPmd c) PMD.TX_EN 0).alarmCue c 4
    .next (s.abandon c fun b => b.committed)

/-- A write of TX_EN (R88, R89, R138); the first 1 takes PBENn out of high impedance (R467). -/
def State.writeTxEn (s : State) (ch : Nat) (on : Bool) : State :=
  if on then s.pins ((s.wf (engPmd ch) PMD.TX_EN 1).modCh ch fun c => { c with pben := true })
  else if s.on (engPmd ch) PMD.TX_EN then (s.wf (engPmd ch) PMD.TX_EN 0).abandon ch fun b => b.committed
  else s

/-- PMD_CFG_TX_EN_WRITE (R89): in any engine state, of an awake channel. -/
def execPmdCfgTxEnWrite (ch : Fin 4) (on : Bool) (s : State) : Host.Outcome State Fault Refusal :=
  .next (if bitOf (s.rf engWake WK.AWAKE) (4 + ch.val) then s.writeTxEn ch.val on else s)

/-! ### Binding -/

/-- Whether a binding clashes with another: the group bound to another node, or the node bound to another Alloc-ID that is not the same group's
(R340, log entry 131). -/
def State.bindClash (s : State) (key : Nat) (group : Option Nat) (node : Nat) : Bool :=
  s.pon.allocs.any fun a => match a.2.bind with
    | some (g, n) => group.isSome && g == group && n != node || a.1 != key && n == node && !(group.isSome && g == group)
    | none => false

/-- ALLOC_BIND's effect (R134, R340): an S5 node serves one plain Alloc-ID, or the Alloc-IDs of one group. -/
def allocBind (p : List Byte) (s : State) : Act :=
  let v := fld p 2 1
  let g := fld p 3 1
  let ch := (s.vt v).channel
  let key := allocKey ch (fld p 0 2)
  let group := if g = 0xFF then none else some g
  let member := ((s.pon.groups.look g).map fun x => decide (x.member ch = some v)).getD false
  if !(g = 0xFF || member && s.rf (engPmd ch) PMD.MODE ≠ 1) then .say s St.badParam 3
  else
    match s.pon.allocs.look key with
    | none => .say s St.notReady
    | some x =>
      let put (b : Option (Option Nat × Nat)) : Act :=
        .say { s with pon := { s.pon with allocs := s.pon.allocs.put key { x with bind := b } } } St.ok
      if x.vt ≠ v then .say s St.notReady
      else if fld p 6 1 = 0 then if x.bind.isNone then .say s St.noChange else put none
      else if x.bind = some (group, fld p 4 2) then .say s St.noChange
      else if s.bindClash key group (fld p 4 2) then .say s St.collision
      else put (some (group, fld p 4 2))

def allocBindCmd : Cmd where
  op := 0x0220
  len := fun n => n = 8
  stage := true
  domains := fun _ _ => [13]
  params := fun _ r _ =>
    let p := r.payload
    checks
      [param (fld p 2 1 < 64) 2, param (fld p 3 1 = 0xFF || fld p 3 1 < 16) 3, param (fld p 4 2 < 1024) 4,
       param (fld p 6 1 < 2) 6, resv p 7 1]
  act := fun _ r s => allocBind r.payload s

/-- ALLOC_BIND (R134). -/
def execAllocBind (r : Req) (s : State) : Host.Outcome State Fault Refusal := .next (runCmd allocBindCmd r s)

end Sys2Proof.Machine
end

