-- ==== Sys2Proof/Machine/Parents.lean ====
section
/-! DEFINITION. The two parents: epochs, offers, switches (R144 to R148). -/
namespace Sys2Proof.Machine

/-- EPOCH_REPORT's fields (R144). -/
def State.epochReport (s : State) (result offered : Nat) : List Byte :=
  be 4 (s.rf engBond BD.PA_EPOCH) ++ [byte (s.rf engBond BD.ACTIVE), byte result] ++ be 4 offered

/-- EPOCH_REPORT on the lowest channel in O5 of a parent. -/
def State.reportTo (s : State) (p result offered : Nat) : State :=
  match s.parentTalks p with
  | some ch => s.sendOn ch 0x11 (s.epochReport result offered)
  | none => s

/-- Frames of a re-send queue, each once, in order. -/
def resendFrames (q : List CutFrame) (fs : List UpFrag) : List CutFrame :=
  (fs.foldl (fun (acc : List QFrame) f =>
    if acc.contains f.frame || q.any (fun c => c.frame = f.frame) then acc else acc ++ [f.frame]) []).map fun x => { frame := x, cut := 0 }

/-- Step 3 of R147 for one group: unsent frames return whole, BSEQ restarts. -/
def Group.restart (g : Group) : Group :=
  { g with queue := resendFrames g.queue g.resend ++ g.queue.map (fun c => { c with cut := 0 }), resend := [], bseq := 0 }

/-- Committed bursts of channels abandoned, but those that have started, which complete (R147 step 2). -/
def State.endBursts (s : State) (chs : List Nat) (started : BitVec 4) : State :=
  chs.foldl (fun s ch =>
    let first := if started.getLsbD ch then s.nextBurst ch true else none
    let s := s.abandon ch fun b => b.committed && !(first == some b)
    s.modCh ch fun c => { c with bursts := c.bursts.map fun b => if b.committed then { b with old := true } else b }) s

/-- Fragments of a fenced channel that the bonding layer has not taken yet are discarded (R145, R147). -/
def State.dropFencedIn (s : State) : State :=
  let gone := s.pon.bondIn.filter fun x => s.fenced (s.vt x.vt).channel
  { s with pon := { s.pon with bondIn := s.pon.bondIn.filter fun x => !s.fenced (s.vt x.vt).channel } }.bumpN engBond BD.BU_FENCED gone.length

/-- A parent switch from step 2 on (R147). `chs` are the old parent's channels; `report` the channel of the superseded report. -/
def State.switchSeq (s : State) (chs : List Nat) (old source : Nat) (report : Option Nat) (started : BitVec 4) : State :=
  let new := s.rf engBond BD.ACTIVE
  let s := s.endBursts chs started
  let s := (s.pon.groups.foldl (fun s g => (s.modGroup g.1 Group.restart).flushGroup g.1) s).dropFencedIn
  let s := if new = 0 then s else s.pon.groups.foldl (fun s g => s.fixAnchor 2 g.1) s
  let s := match report with
    | some ch => s.sendOn ch 0x11 (s.epochReport 4 (s.rf engBond BD.PA_EPOCH))
    | none => s
  ((s.bump engBond BD.PA_SWITCHES).cue 0x2022 ([byte old, byte new, byte source, 0] ++ le 4 (s.rf engBond BD.PA_EPOCH))).parentSwitched

/-- The active parent set, with the switch sequence where it changes; `map` is PA_MAP from here. -/
def State.setParent (s : State) (map new source : Nat) (started : BitVec 4) : State :=
  let old := s.rf engBond BD.ACTIVE
  let chs := (List.range 4).filter fun ch => s.parentOf ch = old
  let report := s.parentTalks old
  let s := (s.wf engBond BD.PA_MAP map).wf engBond BD.ACTIVE new
  if old = new then s else s.switchSeq chs old source (if old = 0 then none else report) started

/-- An offer of epoch `e` for parent `p` judged (R146): RESULT, and the state. -/
def State.offer (s : State) (p e source channel : Nat) (started : BitVec 4) : Nat × State :=
  let now := s.rf engBond BD.PA_EPOCH
  let act := s.rf engBond BD.ACTIVE
  let stale (s : State) : State := s.bump engBond BD.PA_STALE
  let take (s : State) : State := (s.wf engBond BD.PA_EPOCH e).setParent (s.rf engBond BD.PA_MAP) p source started
  if act = 0 then if now ≤ e then (0, take s) else (2, stale s)
  else if act = p then if now < e then (0, s.wf engBond BD.PA_EPOCH e) else if e = now then (1, s) else (2, stale s)
  else if now < e then (0, take s)
  else if e = now then (3, (stale s).cue 0x2023 ([byte p, byte channel, 0, 0] ++ le 4 e))
  else (2, stale s)

/-- The claim at the head of a channel's queue, answered on its channel (R146). `started` says which channels' earliest committed burst has started. -/
def State.takeClaim (s : State) (ch : Nat) (started : BitVec 4) : State :=
  s.handle ch fun m s => match m.body with
    | .fennath c =>
      if isFennath c && subType c = 0x10 then
        let e := beVal (part c 4 4)
        let (r, s) := s.offer (s.parentOf ch) e 0 ch started
        some (s.sendOn ch 0x11 (s.epochReport r e))
      else none
    | _ => none

/-- The downstream frame of the claim that stands at the head of a channel's queue. -/
def State.claimAt (s : State) (ch : Nat) : Option Nat :=
  match (s.chn ch).rxq with
  | (at_, m) :: _ => match m.body with
    | .fennath c => if isFennath c && subType c = 0x10 then some at_ else none
    | _ => none
  | [] => none

/-- The claim that is to be taken first among those at the heads of the queues: the oldest frame's, and of one frame the lowest channel's (R146). -/
def State.firstClaim (s : State) : Option (Nat × Nat) :=
  (List.range 4).foldl (fun best ch => match best, s.claimAt ch with
    | none, some a => some (a, ch)
    | some b, some a => if a < b.1 then some (a, ch) else some b
    | b, none => b) none

/-- Claims taken in their order, up to that of channel `ch`, or with none every one that stands at the head of a queue. -/
def State.takeClaims (s : State) (started : BitVec 4) (upTo : Option Nat) : Nat → State
  | 0 => s
  | n + 1 =>
    match s.firstClaim with
    | none => s
    | some (_, ch) =>
      let s := s.takeClaim ch started
      if upTo = some ch then s else s.takeClaims started upTo n

/-- EPOCH_CLAIM (R146): the claim at the head of the channel's queue, behind those that arrived before it. -/
def execEpochClaim (ch : Fin 4) (started : BitVec 4) (s : State) : Host.Outcome State Fault Refusal :=
  .next (if (s.claimAt ch.val).isSome && !s.fwStops then s.takeClaims started (some ch.val) 256 else s)

/-- PARENT_LOST_TIMER (R148): 50 ms without a terminal in O5 on the active parent. -/
def execParentLostTimer (s : State) : Host.Outcome State Fault Refusal :=
  let p := s.rf engBond BD.ACTIVE
  if p = 0 || s.on engBond BD.LOST || (s.parentTalks p).isSome then .next s
  else .next ((s.wf engBond BD.LOST 1).cue 0x2024 [byte p, 0, 0, 0])

/-- `started` as in `State.takeClaim`. Claims that stand at the heads of the queues arrived first and are taken first (R146, log entry 128). -/
def parentMapCmd (started : BitVec 4) : Cmd where
  op := 0x0222
  len := fun n => n = 4
  stage := true
  domains := fun _ _ => [13]
  params := fun _ r _ => checks [param (fld r.payload 0 1 < 16) 0, resv r.payload 1 3]
  act := fun _ r s =>
    let map := fld r.payload 0 1
    let s := s.takeClaims started none 256
    if s.rf engBond BD.PA_MAP = map then .say s St.noChange
    else .say (s.setParent map (if map = 0 then 1 else 0) 1 started) St.ok

/-- PARENT_MAP (R145). -/
def execParentMap (r : Req) (started : BitVec 4) (s : State) : Host.Outcome State Fault Refusal :=
  .next (runCmd (parentMapCmd started) r s)

def parentEpochCmd (started : BitVec 4) : Cmd where
  op := 0x0223
  len := fun n => n = 8
  domains := fun _ _ => [13]
  params := fun _ r s =>
    let p := fld r.payload 0 1
    checks
      [param ((p = 1 || p = 2) && (List.range 4).any fun ch => s.parentOf ch = p) 0, resv r.payload 1 3]
  act := fun _ r s =>
    let e := fld r.payload 4 4
    let s := s.takeClaims started none 256
    let (x, s) := s.offer (fld r.payload 0 1) e 1 0xFF started
    let s := s.reportTo (s.rf engBond BD.ACTIVE) x e
    .say s (if x = 0 then St.ok else if x = 1 then St.noChange else St.staleEpoch)

/-- PARENT_EPOCH (R146). -/
def execParentEpoch (r : Req) (started : BitVec 4) (s : State) : Host.Outcome State Fault Refusal :=
  .next (runCmd (parentEpochCmd started) r s)

def parentClearCmd (started : BitVec 4) : Cmd where
  op := 0x0224
  role := .officer
  len := fun n => n = 0
  domains := fun _ _ => [13]
  act := fun _ _ s =>
    let map := s.rf engBond BD.PA_MAP
    .say ((s.wf engBond BD.PA_EPOCH 0).setParent map (if map = 0 then 1 else 0) 1 started) St.ok

/-- PARENT_CLEAR (R146). -/
def execParentClear (r : Req) (started : BitVec 4) (s : State) : Host.Outcome State Fault Refusal :=
  .next (runCmd (parentClearCmd started) r s)

end Sys2Proof.Machine
end

