-- ==== Sys2Proof/Machine/Pair.lean ====
section
/-! DEFINITION. The redundancy pair: heartbeats, roles, swaps (R149 to R157). -/
namespace Sys2Proof.Machine

/-- Lanes in pair mode. -/
def State.pairLanes (s : State) : List Nat := (List.range 64).filter fun l => s.rf (engLane l) LN.MODE = 4

/-- The part's ROLE: 0 unpaired, 1 active, 2 standby. -/
def State.role (s : State) : Nat := s.rf engBond BD.ROLE

/-- The part's pair rank (R149). -/
def State.myRank (s : State) : Nat := s.rf engBond BD.PR_RANK_HI * 2 ^ 32 + s.rf engBond BD.PR_RANK_LO

/-- TAG of a heartbeat (R152): bytes 0 to 7 of HMAC-SHA-384 under the pair key. -/
def hbTag (key body : List Byte) : List Byte := (be 48 (Config.hmac384 key body).toNat).take 8

/-- The next heartbeat under a key (R152). -/
def State.heartbeat (s : State) (key : List Byte) : List Byte :=
  let p := s.pon.pair
  let body := be 2 p.pairId ++ [byte s.role, byte (bit p.relinquish + 2 * bit p.swapReq + 4 * bit p.swapAck)] ++ be 8 s.myRank ++
    be 4 (s.rf engKeys KS.IV_FIXED) ++ be 4 p.hbSeq ++ be 4 (s.rf engBond BD.PA_EPOCH)
  body ++ hbTag key body

/-- One heartbeat sent by `out`; HB_SEQ counts it. Without the pair key nothing is sent. -/
def State.sendHb (s : State) (out : List Byte → State → State) : State :=
  match s.cry.slots.look s.pon.pair.keySlot with
  | some k => (out (s.heartbeat k.key) s).modPair fun p => { p with hbSeq := (p.hbSeq + 1) % 2 ^ 32 }
  | none => s

/-- A heartbeat frame without FCS: addresses, EtherType 0x88B5, subtype 0x5048, the heartbeat, padding (R152). -/
def hbFrame (dst src b : List Byte) : List Byte :=
  let f := dst ++ src ++ be 2 0x88B5 ++ be 2 0x5048 ++ b
  f ++ zeros (60 - f.length)

/-- A heartbeat on each pair-link lane that is up, in a frame of 64 bytes (R152, R376). Its source is MAC_ADDR; its destination, which the spec does not
give, is free (log entry 136). -/
def State.hbLink (s : State) : State :=
  s.pairLanes.foldl (fun s l => if s.canSend l then s.sendHb fun b s =>
    let (dst, s) := s.drawBytes 6
    let b := hbFrame dst (s.macAddr l) b
    (s.laneOut l b (.pairLink l b)).countTx l 60 else s) s

/-- PAIR_HB on the lowest channel in O5 of the active parent. -/
def State.hbPon (s : State) : State :=
  match s.parentTalks (s.rf engBond BD.ACTIVE) with
  | some ch => s.sendHb fun b s => s.sendOn ch 0x12 b
  | none => s

/-- Ticks between the heartbeats of a path (R152). -/
def hbPeriod (pon : Bool) : Nat := if pon then 10000 else 1000

/-- A heartbeat on a path. -/
def State.hbOn (s : State) (pon : Bool) : State := if pon then s.hbPon else s.hbLink

/-- A heartbeat job (R323). -/
def hbAsk (pon : Bool) : JobAsk := { work := .heartbeat pon, cls := .classP, prio := 13, list := 14 }

/-- A heartbeat at once: its job is taken and completed; without a context nothing is sent. -/
def State.hbNow (s : State) (pon : Bool) : State :=
  match s.runJob (hbAsk pon) with
  | (some c, s) => (s.hbOn pon).endJob c true
  | (none, s) => s

/-- Heartbeats at once on both paths, each a job of class P (R152). -/
def State.hbBoth (s : State) : State := if s.pon.pair.on then (s.hbNow false).hbNow true else s

/-- The jobs in which the firmware handles keys now, with their GEN. -/
def State.keyJobs (s : State) : List (Nat × Nat) := (s.disp.jobs.filter fun x => x.2.work = .key).map fun x => (x.1, s.disp.gens.get x.1 0)

/-- The job of a path's next heartbeat, one period on. It waits for the key handling under way, so that its TAG is made under a settled key, and has its
period as time-out: then it is sent without waiting longer (R332, log entry 160). -/
def State.hbNext (s : State) (pon : Bool) : State :=
  (s.newJob { hbAsk pon with due := some (s.disp.tick + hbPeriod pon), timeout := some (hbPeriod pon), after := s.keyJobs }).2

/-- The job of a path's heartbeat, whose time has come: READY by its time-out or its DUE, and RUNNING. -/
def State.hbDue (s : State) (pon : Bool) : Option Nat × State :=
  match s.disp.jobs.find? fun x => x.2.work = .heartbeat pon with
  | none => (none, s)
  | some (c, j) => (some c, (if j.state = .waiting then s.timeOut c else s).putJobState c .running)

/-- A path's heartbeat whose time has come: sent while the pair is configured, and its job completed. -/
def State.hbServe (s : State) (pon : Bool) : State :=
  match s.hbDue pon with
  | (some c, s) => (if s.pon.pair.on then s.hbOn pon else s).endJob c true
  | (none, s) => if s.pon.pair.on then s.hbNow pon else s

/-- HEARTBEAT_TIMER (R152): the 1 ms of the pair link, or with `pon` the 10 ms of the PON. -/
def execHeartbeatTimer (pon : Bool) (s : State) : Host.Outcome State Fault Refusal :=
  if s.pon.pair.on then .next ((s.hbServe pon).hbNext pon) else .next (s.hbServe pon)

/-- The role changes: PAIR_ROLE, and a heartbeat at once (R152, R159). -/
def State.setRole (s : State) (new cause : Nat) : State :=
  let old := s.role
  if old = new then s else (((s.wf engBond BD.ROLE new).modPair fun p => if new = 1 then { p with drained := false } else p).cue 0x2027
    [byte old, byte new, byte cause, 0]).hbBoth

/-- An active that leaves service by an orderly path sends RELINQUISH on both paths (R155). -/
def State.sendRelinquish (s : State) : State :=
  if s.pon.pair.on && s.role = 1 && s.pon.pair.leaving.isNone then
    (s.modPair fun p => { p with relinquish := true }).hbBoth.modPair fun p => { p with leaving := some s.elapsed }
  else s

/-- Whether an upstream message is a PAIR_HB with RELINQUISH. -/
def UpMsg.relinquishes : UpMsg → Bool
  | .fennath c => c.take 3 = [0x46, 0x4E, 0x12] && bitOf (fld c 7 1) 0
  | _ => false

/-- Whether RELINQUISH still waits for its burst on the PON path, which is up: for 10 ms at most (R155, log entry 137). -/
def State.relinquishing (s : State) : Bool :=
  match s.pon.pair.leaving with
  | none => false
  | some t => s.on engBond BD.PON_UP && decide (s.elapsed ≤ t + usUnits 10000) &&
      ((s.pon.vts.any fun v => v.2.state = 5 && (v.2.queue ++ v.2.held).any UpMsg.relinquishes) ||
        s.pon.chs.any fun c => c.2.bursts.any fun b => b.ploam.any fun m => m.1.relinquishes)

/-- The active leaves service (R155): RELINQUISH, where it has not been sent yet, then standby. -/
def State.relinquish (s : State) (cause : Nat) : State :=
  if s.pon.pair.on && s.role = 1 then
    (s.sendRelinquish.modPair fun p => { p with relinquish := false, leaving := none }).setRole 2 cause
  else s

/-- Whether this part ranks above a partner (R149). -/
def State.outranks (s : State) (rank fixed : Nat) : Bool :=
  decide (rank < s.myRank) || s.myRank = rank && decide (fixed < s.rf engKeys KS.IV_FIXED)

/-- Becoming active, unless barred (R151). -/
def State.becomeActive (s : State) (cause : Nat) : State := if s.on engBond BD.BARRED then s else s.setRole 1 cause

/-- An outstanding request ends with a status. -/
def State.endSwap (s : State) (status : Nat) : State :=
  ((s.modPair fun p => { p with swapReq := false, granted := false }).wf engBond BD.SWAP_PEND 0).answer (fun w => w = .swap) status

/-- Step 3 of R156 on the active. -/
def State.drainStart (s : State) : State := if s.role = 1 then s.modPair fun p => { p with draining := true } else s

/-- Equal fixed fields (R151). -/
def State.fixedClash (s : State) (rank fixed : Nat) : State :=
  let s := s.cue 0x2028 ([1, 0, 0, 0] ++ le 4 fixed)
  let s := s.modPair fun p => { p with clash := true }
  if s.outranks rank fixed then s.setRole 1 4 else (s.wf engBond BD.BARRED 1).setRole 2 4

/-- The partner asks for a swap (R156, R157). -/
def State.swapAsked (s : State) (rank fixed : Nat) : State :=
  if s.pon.pair.swapAck || s.on engBond BD.BARRED then s
  else if s.pon.pair.swapReq && s.outranks rank fixed then s
  else
    let s := if s.pon.pair.swapReq then s.endSwap St.collision else s
    ((s.modPair fun p => { p with swapAck := true }).hbBoth).drainStart

/-- What a part does with the contents of a verified heartbeat (R151, R153 to R157). In a swap the standby that has not given up a role becomes active when the
partner shows standby; the part that has drained waits until the partner shows active. -/
def State.hbAct (s : State) (role flags rank fixed : Nat) : State :=
  let fresh := s.pon.pair.fresh
  let s := (s.modPair fun p => { p with fresh := false }).wf engBond BD.PR_PARTNER_FIXED fixed
  let s := if fixed = s.rf engKeys KS.IV_FIXED && !s.pon.pair.clash then s.fixedClash rank fixed else s
  let s := if fresh && role = s.role && !s.pon.pair.clash then
      let new := if s.outranks rank fixed then 1 else 2
      if s.role = new then s.cue 0x2027 [byte new, byte new, 3, 0] else s.setRole new 3
    else s
  let s := if bitOf flags 0 && s.role = 2 then s.becomeActive 2 else s
  let s := if bitOf flags 1 then s.swapAsked rank fixed
    else if s.pon.pair.swapAck then (s.modPair fun p => { p with swapAck := false }).hbBoth
    else s
  let s := if bitOf flags 2 && s.pon.pair.swapReq && !s.pon.pair.granted then
      (s.modPair fun p => { p with granted := true }).drainStart
    else s
  let inSwap := s.pon.pair.granted || s.pon.pair.swapAck
  if role = 2 && s.role = 2 && inSwap && !fresh && !s.pon.pair.drained then
    let s := s.becomeActive 0
    if s.pon.pair.granted then (s.endSwap St.ok).hbBoth else s
  else if role = 1 && s.role = 2 && s.pon.pair.drained then
    let s := s.modPair fun p => { p with drained := false }
    if s.pon.pair.granted then (s.endSwap St.ok).hbBoth else s
  else s

/-- A path comes up (R153). -/
def State.pathUp (s : State) (pon : Bool) : State :=
  let f := if pon then BD.PON_UP else BD.LINK_UP
  let s := s.wf engBond BD.ISOLATED 0
  if s.on engBond f then s else (s.wf engBond f 1).cue 0x2025 [byte (bit pon), 1, 0, 0]

/-- A heartbeat received on a path (R153). -/
def State.hbRx (s : State) (pon : Bool) (b : List Byte) : State :=
  let p := s.pon.pair
  let rank := beVal (part b 4 8)
  let seq := beVal (part b 16 4)
  let restart := match p.lastRank with
    | some r => r ≠ rank
    | none => true
  let isAhead (o : Option Nat) : Bool := match o with
    | some x => ahead 32 seq x
    | none => true
  let key := ((s.cry.slots.look p.keySlot).map (·.key)).getD []
  let tagOk : Bool := s.cry.slots.has p.keySlot && b.length = 32 && b.drop 24 = hbTag key (b.take 24) && beVal (b.take 2) = p.pairId
  if !tagOk || !(restart || isAhead (if pon then p.seqPon else p.seqLink)) then s.bump engBond BD.PR_HB_BAD
  else
    let news := restart || isAhead p.seqTop
    let s := s.modPair fun p =>
      let p := if restart then { p with seqLink := none, seqPon := none, seqTop := none } else p
      { p with
        lastRank := some rank
        seqLink := if pon then p.seqLink else some seq
        seqPon := if pon then some seq else p.seqPon
        seqTop := if news then some seq else p.seqTop }
    let s := s.pathUp pon
    if news then s.hbAct (b.getD 2 0).toNat (b.getD 3 0).toNat rank (beVal (part b 12 4)) else s

/-- HEARTBEAT_RX (R152, R153): the oldest heartbeat that a pair-link lane received, or with a channel the PAIR_HB_RELAY at the head of
its queue. -/
def execHeartbeatRx (src : Option (Fin 4)) (s : State) : Host.Outcome State Fault Refusal :=
  match src with
  | none =>
    match s.pon.pair.hbIn with
    | [] => .next s
    | b :: bs =>
      let s := s.modPair fun p => { p with hbIn := bs }
      if s.pon.pair.on then .next (s.hbRx false b) else .next s
  | some ch =>
    .next (s.handle ch.val fun m s => match m.body with
      | .fennath c =>
        if isFennath c && subType c = 0x13 then some (if s.pon.pair.on then s.hbRx true (part c 4 32) else s) else none
      | _ => none)

/-- PAIR_PATH_TIMEOUT (R153, R154): 3 ms on the pair link, or 30 ms on the PON, without a verified heartbeat. -/
def execPairPathTimeout (pon : Bool) (s : State) : Host.Outcome State Fault Refusal :=
  if !s.pon.pair.on then .next s
  else
    let f := if pon then BD.PON_UP else BD.LINK_UP
    let s := if s.on engBond f then (s.wf engBond f 0).cue 0x2025 [byte (bit pon), 0, 0, 0] else s
    if s.on engBond BD.LINK_UP || s.on engBond BD.PON_UP || s.on engBond BD.ISOLATED then .next s
    else .next (((s.wf engBond BD.ISOLATED 1).modPair fun p => { p with fresh := true }).cue 0x2026 [byte s.role, 0, 0, 0])

/-- SWAP_TIMEOUT (R156): no SWAP_ACK within 50 ms. -/
def execSwapTimeout (s : State) : Host.Outcome State Fault Refusal :=
  if s.pon.pair.swapReq && !s.pon.pair.granted then .next (s.endSwap St.timeout).hbBoth else .next s

/-- The sealed frames that wait in black pages discarded under PR_SWAP_DROP (R156). -/
def State.dropSealed (s : State) : State :=
  let fs := s.sched.queues.flatMap fun q => q.2.frames.filter (·.sealed)
  let gs := s.pon.groups.flatMap fun g => g.2.frames
  let cs := s.pon.allocs.filterMap fun a => a.2.cut.map (·.1)
  let s := (fs ++ cs).foldl (fun s f => s.freePages f.pages) s
  let keep (q : Queue) : Queue := { q with frames := q.frames.filter fun f => !f.sealed }
  let s := { s with
    sched := { s.sched with queues := s.sched.queues.each fun _ q => keep q }.refresh
    pon := { s.pon with
      groups := s.pon.groups.each fun _ g => { g with queue := [], resend := [] }
      allocs := s.pon.allocs.each fun _ a => { a with cut := none } } }
  (s.endFrames gs).bumpN engBond BD.PR_SWAP_DROP (fs.length + gs.length + cs.length)

/-- SWAP_DRAIN_COMPLETE (R156 step 4): the jobs in flight have finished. -/
def execSwapDrainComplete (s : State) : Host.Outcome State Fault Refusal :=
  if s.pon.pair.draining && s.cry.msgs.isEmpty then .next ((s.dropSealed.modPair fun p => { p with draining := false, drained := true }).setRole 2 0)
  else .next s

/-- PAIR_CONFIG's join (R149). -/
def pairJoin (p : List Byte) (s : State) : Act :=
  let cfg : Pair :=
    { on := true, pairId := fld p 2 2, cfgRank := fld p 4 4, keySlot := fld p 8 2, stbyTx := fld p 10 1 = 1, initRole := fld p 1 1,
      hbSeq := s.pon.pair.hbSeq }
  let o := s.pon.pair
  let same := o.on && o.pairId = cfg.pairId && o.cfgRank = cfg.cfgRank && o.keySlot = cfg.keySlot && o.stbyTx = cfg.stbyTx &&
    o.initRole = cfg.initRole
  if s.pairLanes.isEmpty then .say s St.badParam
  else
    match s.slotNeed cfg.keySlot with
    | some f => .fail s f
    | none =>
      if ((s.cry.slots.look cfg.keySlot).map (·.usage)) ≠ some 4 then .say s St.badParam 8
      else if same && !s.on engBond BD.BARRED then .say s St.noChange
      else
        let s := (s.endSwap St.collision).modPair fun _ => cfg
        let s := [BD.LINK_UP, BD.PON_UP, BD.ISOLATED, BD.BARRED].foldl (fun s f => s.wf engBond f 0) s
        let s := (s.wf engBond BD.PR_RANK_HI cfg.cfgRank).wf engBond BD.ROLE cfg.initRole
        .say s.hbBoth St.ok

/-- PAIR_CONFIG's leave. -/
def pairLeave (s : State) : Act :=
  if s.pon.pair.on then
    let s := (s.endSwap St.collision).modPair fun p => { hbSeq := p.hbSeq }
    .say ([BD.ROLE, BD.LINK_UP, BD.PON_UP, BD.ISOLATED, BD.BARRED, BD.PR_RANK_HI].foldl (fun s f => s.wf engBond f 0) s) St.ok
  else .say s St.noChange

def pairConfigCmd : Cmd where
  op := 0x0225
  role := .officer
  len := fun n => n = 12
  stage := true
  params := fun _ r _ =>
    let p := r.payload
    checks [param (fld p 0 1 < 2) 0, param (fld p 1 1 = 1 || fld p 1 1 = 2) 1, param (fld p 10 1 < 2) 10, resv p 11 1]
  domains := fun _ _ => [12, 13]
  act := fun _ r s => if fld r.payload 0 1 = 1 then pairJoin r.payload s else pairLeave s

/-- PAIR_CONFIG (R149). -/
def execPairConfig (r : Req) (s : State) : Host.Outcome State Fault Refusal := .next (runCmd pairConfigCmd r s)

/-- PAIR_ROLE's effect (R154 to R157). -/
def pairRole (action : Nat) (s : State) : Act :=
  let up := s.on engBond BD.LINK_UP || s.on engBond BD.PON_UP
  if !s.pon.pair.on then .say s St.notReady
  else if action = 3 then
    if s.role = 2 then .say s St.noChange else .say (s.relinquish 1) St.ok
  else if action = 2 && s.role = 1 then .say s St.noChange
  else if s.on engBond BD.BARRED then .say s St.collision
  else if action = 2 then if up then .say s St.badParam else .say (s.setRole 1 1) St.ok
  else if !up then .say s St.badParam
  else if s.pon.pair.swapReq then .say s St.busy 5
  else if s.pon.pair.swapAck then .say s St.collision
  else
    let s := (s.modPair fun p => { p with swapReq := true }).wf engBond BD.SWAP_PEND 1
    { st := s.hbBoth, wait := some .swap }

def pairRoleCmd : Cmd where
  op := 0x0226
  role := .officer
  len := fun n => n = 4
  params := fun _ r _ => checks [param (1 ≤ fld r.payload 0 1 && fld r.payload 0 1 ≤ 3) 0, resv r.payload 1 3]
  domains := fun _ _ => [12, 13]
  act := fun _ r s => pairRole (fld r.payload 0 1) s

/-- PAIR_ROLE (R156). -/
def execPairRole (r : Req) (s : State) : Host.Outcome State Fault Refusal := .next (runCmd pairRoleCmd r s)

end Sys2Proof.Machine
end

