-- ==== Sys2Proof/Machine/Zeroise.lean ====
section
/-! DEFINITION. The random bit generator and the zeroise sequence, with the commands that start them (R69 to R73, R249, R271 to R275,
R280 to R282). -/
namespace Sys2Proof.Machine

/-! ### Consumers inside the part (R115, R149, R273) -/

/-- A request for a key that the DRBG cannot serve: PL_KEY_FAIL, PON_KEY_STALLED, record 0x0009. -/
def State.keyStalled (s : State) (ch v i : Nat) : State :=
  ((s.bump (engPloam ch) PL.PL_KEY_FAIL).cue 0x2006 [byte v, byte ch, byte i, 0]).logEng 0x0009 (engPloam ch) [byte v, byte ch]

/-- A new unicast key of index `i` from released output: wrapped on engine `u` under the terminal's key-encryption key, sent in Key_Report. -/
def State.newPonKey (s : State) (u v i : Nat) (out : List Byte) : State :=
  let k := out.take 16
  let kek := be 16 (Config.ponDerive (s.pon.msk.look v) 2).toNat
  let s := (s.kwUse u none 2).bump engWrap KW.KW_WRAPS
  { s with pon := { s.pon with keys := s.pon.keys.put (uniKey v i) (BitVec.ofNat 128 (beVal k)) } }.sendUp v
    (.keyReport i (be 24 (Config.kwWrap kek k)))

/-- The pair rank's fallback where the DRBG is stopped at its draw (R149). -/
def State.rankFallback (s : State) : State :=
  if s.pon.rankDone then s
  else ({ s with pon := { s.pon with rankDone := true } }.wf engBond BD.PR_RANK_LO 0).wf engBond BD.RANK_WEAK 1

/-- Bytes that a consumer inside the part takes. -/
def RngFor.bytes (u : RngFor) : Nat :=
  match u with
  | .rank => 4
  | .ponKey .. => 16

/-- The fallback of a consumer's own rule (R115, R149). -/
def State.rngFallback (s : State) (u : RngFor) : State :=
  match u with
  | .rank => s.rankFallback
  | .ponKey ch v i => s.keyStalled ch v i

/-- Every consumer inside the part takes its fallback; a rank not yet drawn is at its draw now (R149, R274, R275). -/
def State.innerFail (s : State) : State :=
  let gone := s.cry.rng.inner
  (gone.foldl (fun s x => s.rngFallback x.use) (s.modRng fun r => { r with inner := [] })).rankFallback

/-- Released output reaches a consumer: none of it does while the key-wrap unit has no engine (R210). -/
def State.serveInner (s : State) (x : Inner) : State :=
  let take (s : State) : State := (s.modRng fun r => { r with inner := r.inner.filter (· != x) }).bumpN engDrbg RNG.BYTES_OUT x.use.bytes
  match x.use, s.borrow with
  | .rank, _ => { (take s) with pon := { s.pon with rankDone := true } }.wf engBond BD.PR_RANK_LO (leVal x.out)
  | .ponKey _ v i, some u => (take s).newPonKey u v i x.out
  | .ponKey .., none => s

/-- A consumer asks for output. -/
def State.askInner (s : State) (u : RngFor) : State := s.modRng fun r => { r with inner := r.inner ++ [{ use := u }] }

/-! ### The DRBG (R271 to R275) -/

/-- STARTUP begins from its first step (R274): what the buffer held is gone, and its consumers wait for new output. -/
def State.rngStart (s : State) : State :=
  (s.modRng fun r => { inner := r.inner.map fun x => { use := x.use } }).wf engDrbg RNG.STATE 1

def Why.isRng : Why → Bool
  | .rng .. => true
  | _ => false

/-- What ends RNG_FAIL with the DRBG: the requests for its output, and RNG_RESTART, which waits for STARTUP (R274, R275). -/
def Why.onDrbg (w : Why) : Bool := w.isRng || decide (w = .unit engDrbg)

/-- Requests waiting for the DRBG. -/
def State.rngWaits (s : State) : List Wait := s.chan.waits.filter fun w => w.why.isRng

/-- Output generated for one waiting request, where it can be now. -/
def State.fillWait (s : State) (w : Wait) : State :=
  match w.why with
  | .rng n [] _ =>
    match s.generate n with
    | some (out, s) =>
      { s with chan := { s.chan with waits := s.chan.waits.map fun x => if x == w then { x with why := .rng n out false } else x } }
    | none => s
  | _ => s

/-- Output generated for one consumer inside the part, where it can be now. -/
def State.fillInner (s : State) (x : Inner) : State :=
  if !x.out.isEmpty then s
  else
    match s.generate x.use.bytes with
    | some (out, s) => s.modRng fun r => { r with inner := r.inner.map fun y => if y == x then { y with out := out } else y }
    | none => s

/-- Requests for which no output stands in the buffer get theirs, oldest first (R273). -/
def State.rngFill (s : State) : State :=
  let s := s.cry.rng.inner.foldl State.fillInner s
  s.rngWaits.foldl State.fillWait s

/-- The window in progress has passed: what was generated in it may be released (R273). -/
def State.rngPass (s : State) : State :=
  let s := s.modRng fun r => { r with inner := r.inner.map fun x => { x with passed := !x.out.isEmpty } }
  let pass (w : Wait) : Wait := match w.why with
    | .rng n out _ => { w with why := .rng n out !out.isEmpty }
    | _ => w
  { s with chan := { s.chan with waits := s.chan.waits.map pass } }

/-- Output generated since the last passed window (R275). -/
def State.rngLost (s : State) : Nat := min releaseSize ((s.rngHeld.filter fun x => !x.2).map fun x => x.1.length).sum

/-- The failure sequence (R275): FAILED, output discarded, waiting requests ended, cue and record. -/
def State.rngFail (s : State) (test : Nat) : State :=
  let n := s.rngWaits.length
  let lost := s.rngLost
  let s := (((s.wf engDrbg RNG.STATE 3).wf engDrbg RNG.FAIL_TEST test).bump engDrbg RNG.RNG_FAILS).bumpN engDrbg RNG.DISCARDED lost
  let s := (s.modRng fun r => { inner := r.inner }).answer Why.onDrbg St.rngFail
  (s.innerFail.cue 0x6024 ([byte test, 0] ++ le 2 n ++ le 4 lost)).logEng 0x0006 engDrbg ([byte test, 0, 0, 0] ++ le 4 lost)

/-- The DRBG engine goes OFF or is soft-reset (R274): waiting requests end, and the state is OFF unless it is FAILED. -/
def State.rngStop (s : State) : State :=
  let st := s.rf engDrbg RNG.STATE
  if st = 1 || st = 2 then
    (((s.wf engDrbg RNG.STATE 0).modRng fun r => { inner := r.inner }).answer Why.onDrbg St.rngFail).innerFail
  else s

/-- The DRBG engine is ON: STARTUP runs when the state is OFF (R274). -/
def State.rngOn (s : State) : State := if s.rf engDrbg RNG.STATE = 0 then s.rngStart else s

/-- Samples of one window, and the cutoffs of the two health tests (R271). -/
def windowSamples : Nat := 512
def repetitionCutoff : Nat := 41
def proportionCutoff : Nat := 410

/-- The health test that a window fails, 0 for none: `run` is its longest run of identical samples, `apt` the number of samples equal to its first one. Where
both fail, the repetition count is reported (log entry 150). -/
def healthTest (run apt : Nat) : Nat := if repetitionCutoff ≤ run then 1 else if proportionCutoff ≤ apt then 2 else 0

/-- ENTROPY_WINDOW (R271 to R273, R275): a window of samples has been tested. A passed one releases what was generated in it, and while the DRBG runs feeds
the conditioning. -/
def execEntropyWindow (run apt : Fin 513) (s : State) : Host.Outcome State Fault Refusal :=
  let st := s.rf engDrbg RNG.STATE
  if st = 1 || st = 2 then
    let s := s.raiseTo engDrbg RNG.APT_MAX (min apt.val 511)
    if healthTest run.val apt.val ≠ 0 then .next (s.rngFail (healthTest run.val apt.val))
    else if st = 1 then .next s
    else .next ((s.modRng fun r => { r with samples := min seedSamples (r.samples + windowSamples) }).rngPass).rngFill
  else .next s

/-- DRBG_RESEED (R272): it waits until its samples are at hand. -/
def execDrbgReseed (s : State) : Host.Outcome State Fault Refusal :=
  if s.rf engDrbg RNG.STATE = 2 && s.cry.rng.samples = seedSamples then .next s.reseed.rngFill else .next s

/-- The pair rank is drawn from the DRBG at the first start-up after a cold reset (R149). -/
def State.drawRank (s : State) : State :=
  if s.pon.rankDone || s.cry.rng.inner.any (fun x => x.use = .rank) then s else s.askInner .rank

/-- DRBG_STARTUP_COMPLETE (R274, R275): `pass` says whether its tests passed. Output is then generated for the requests that wait, and released as R273 sets
out. -/
def execDrbgStartupComplete (pass : Bool) (s : State) : Host.Outcome State Fault Refusal :=
  if s.rf engDrbg RNG.STATE ≠ 1 then .next s
  else if pass then
    let s := ((s.wf engDrbg RNG.STATE 2).drawRank).rngFill
    .next (s.answer (fun w => w = .unit engDrbg) St.ok)
  else .next (s.rngFail 3)

/-- `rel` as in SESSION_OPEN. -/
def rngReadCmd (rel : Release) : Cmd where
  op := 0x0628
  len := fun n => n = 4
  params := fun _ r _ => checks [param (1 ≤ fld r.payload 0 2 && fld r.payload 0 2 ≤ 4096) 0, resv r.payload 2 2]
  needs := fun _ => [engDrbg]
  domains := fun _ _ => [12]
  act := fun _ r s => s.rngGate rel true (fld r.payload 0 2) fun out s => { st := s, payload := out }

/-- RNG_READ (R273). -/
def execRngRead (r : Req) (released : Bool) (s : State) : Host.Outcome State Fault Refusal :=
  .next (runCmd (rngReadCmd (.within released)) r s)

def rngRestartCmd : Cmd where
  op := 0x0629
  role := .officer
  len := fun n => n = 0
  needs := fun _ => [engDrbg]
  domains := fun _ _ => [12]
  act := fun _ _ s =>
    let st := s.rf engDrbg RNG.STATE
    if st = 1 || st = 2 then .say s St.noChange
    else { st := s.rngStart, wait := some (.unit engDrbg) }

/-- RNG_RESTART (R274, R275). -/
def execRngRestart (r : Req) (s : State) : Host.Outcome State Fault Refusal := .next (runCmd rngRestartCmd r s)

/-! ### The zeroise sequence (R249, R280 to R282) -/

/-- A message ends ZEROIZED (R249). -/
def State.zeroMsg (s : State) (m : Msg) : State := ((s.bump engKeys KS.CX_ZERO_DROP).discardJob m.ctx).dropMsg m.ctx

/-- A job that waits for its re-issue ends ZEROIZED: no re-issue follows (R249). -/
def State.zeroAgain (s : State) (ctx : Nat) : State := (s.bump engKeys KS.CX_ZERO_DROP).discardJob ctx

/-- A command that uses key material while it waits for an engine ends ZEROIZED (R249, R282), CIPHER_RUN with a record: that of its failed attempt with STATUS
ZEROIZED, or one of no attempt, whose UNIT, START and END are free values. -/
def State.zeroRun (s : State) (w : Wait) : State :=
  match w.why with
  | .engineRun op =>
    if op = 0x0603 then s
    else if op = 0x0602 then
      let (u, s) := s.draw 8
      let (t, s) := s.draw 64
      (s.dropWait w).replyWait w St.zeroized 0
        ([byte Rec.zeroized, byte u] ++ part w.cmd.req.payload 2 2 ++ zeros 16 ++ le 8 t ++ zeros 4)
    else (s.dropWait w).replyWait w St.zeroized
  | .reissue rec => (s.dropWait w).replyWait w St.zeroized 0 (byte Rec.zeroized :: rec.drop 1)
  | _ => s

/-- Whether a staged command belongs to the CIPH unit (R495). -/
def Taken.ofCiph (t : Taken) : Bool :=
  [0x0601, 0x0623, 0x0624, 0x0626].contains t.op || ([0x0101, 0x0102, 0x0010].contains t.op && engDomain t.req.eng = 12)

/-- Transactions that have staged a command to CIPH are doomed with ZEROIZED (R282). -/
def Txn.zeroDoom (x : Txn) : Txn :=
  match x.fail, x.staged.zipIdx.find? fun t => t.1.ofCiph with
  | none, some (t, i) => { x with fail := some { locator := t.req.target.toNat, status := St.zeroized, detail := 0, index := i } }
  | _, _ => x

/-- Keys gone (R280): every slot, the PON-layer keys, the authenticators but the one kept. -/
def State.clearKeys (s : State) (keepMaint : Bool) : State :=
  let s := s.modCry fun c => { c with slots := [], olds := [], cache := [], zeroed := (c.slots.map (·.1)).foldl (fun l n => if l.contains n then l else l ++ [n]) c.zeroed }
  let s := { s with pon := { s.pon with msk := [], keys := [], vts := s.pon.vts.each fun _ t => { t with curKey := 0 } } }
  let s := { s with chan := { s.chan with officerA := none, maintA := if keepMaint then s.chan.maintA else none } }
  s.wf engKeys KS.SLOTS_USED 0

/-- The zeroise sequence (R281): `sources` are the alarm bits that started it, `verified` says whether the read-back found zero, `keep` is
the maintenance session that started it (R69). -/
def State.zeroise (s : State) (sources : Nat) (verified : Bool) (keep : Option Nat) : State :=
  let s := (s.wf engAlarm AL.AL_CAUSE (s.rf engAlarm AL.AL_CAUSE ||| sources)).clearEntry
  let s := s.cry.again.foldl State.zeroAgain (s.cry.msgs.foldl State.zeroMsg s).settleOlds
  let s := s.clearKeys keep.isSome
  let s := (s.chan.waits.foldl State.zeroRun s).answer Why.isRng St.zeroized
  let s := if s.rf engDrbg RNG.STATE = 1 || s.rf engDrbg RNG.STATE = 2 then s.rngStart else s
  let s := (s.chan.sessions.filter fun x => keep ≠ some x.1).foldl (fun s x => s.closeSession x.1 (if keep.isSome then 4 else 3)) s
  let s := { s with chan := { s.chan with txns := s.chan.txns.each fun _ x => x.zeroDoom } }
  let s := ((s.wf engKeys KS.ZEROIZED 1).bump engKeys KS.KS_ZEROISES).bump engAlarm AL.ZERO_COUNT
  let s := s.logEng 0x0002 engAlarm (le 2 (s.rf engAlarm AL.AL_CAUSE) ++ [byte (bit !verified)])
  let s := if verified then s else (s.wf engKeys KS.VERIFY_FAIL 1).enterError 9
  s.cue 0x6025 (le 2 sources ++ [byte (bit !verified), 0])

/-- `verified`: the read-back of the sequence found zero. -/
def zeroizeCmd (verified : Bool) : Cmd where
  op := 0x062A
  len := fun n => n = 0
  act := fun _ _ s => .say ((s.relinquish 2).zeroise 0x080 verified none) St.ok

/-- ZEROIZE (R281). -/
def execZeroize (r : Req) (verified : Bool) (s : State) : Host.Outcome State Fault Refusal := .next (runCmd (zeroizeCmd verified) r s)

/-! ### SESSION_AUTH (R68 to R73) -/

/-- A session's proof verified: its role is granted; a maintenance session starts the zeroise sequence first (R69). -/
def State.grant (s : State) (id : Nat) (x : Session) (zeroA verified : Bool) : Act :=
  let s := { s with chan := { s.chan with authFails := 0, sessions := s.chan.sessions.put id { x with authed := true, zeroAuth := zeroA } } }
  { st := if x.maint then s.zeroise 0x100 verified (some id) else s, payload := [byte (if x.maint then 2 else 1), 0, 0, 0] }

/-- `verified` as in ZEROIZE, for a maintenance session. -/
def sessionAuthCmd (verified : Bool) : Cmd where
  op := 0x0021
  signed := true
  len := fun n => n = 48
  target := fun _ _ => none
  recovery := true
  act := fun _ r s =>
    match s.chan.sessions.look r.session.toNat with
    | none => .say s St.roleDenied
    | some x =>
      if x.authed then .say s St.roleDenied
      else
        let a : Option (BitVec 384) := if x.maint then s.chan.maintA else
          match s.chan.officerA with
          | some a => some a
          | none => if r.carrier = .uart then some 0 else none
        let ok : Bool := match a with
          | some a => r.payload == be 48 (Config.hmac384 (be 48 a.toNat) (be 48 x.transcript.toNat)).toNat
          | none => false
        if ok then s.grant r.session.toNat x (!x.maint && s.chan.officerA.isNone) verified
        else .say ((s.authFailed (if x.maint then 2 else 1) r.carrier).closeSession r.session.toNat 2) St.integrity

/-- SESSION_AUTH (R68). -/
def execSessionAuth (r : Req) (verified : Bool) (s : State) : Host.Outcome State Fault Refusal :=
  .next (runCmd (sessionAuthCmd verified) r s)

end Sys2Proof.Machine
end

