-- ==== Sys2Proof/Machine/KeyControl.lean ====
section
/-! DEFINITION. PON-layer keys from the head end (R114, R115) and watchful sleep (R125). -/
namespace Sys2Proof.Machine

/-! ### Key_Control (R115) -/

/-- The head end has completed the switch to index `i`: the other key is gone. -/
def State.confirmKey (s : State) (v i : Nat) : State :=
  if s.pon.keys.has (uniKey v i) then
    { s with pon := { s.pon with keys := s.pon.keys.del (uniKey v (3 - i)) } }.modVt v fun t => { t with curKey := i }
  else s

/-- KEY_CONTROL (R115). While the DRBG starts up the message stays at the head of the queue. -/
def execKeyControl (ch : Fin 4) (s : State) : Host.Outcome State Fault Refusal :=
  .next (s.handle ch.val fun m s => match m.body with
    | .keyControl gen index =>
      let i := index.val + 1
      let ts := s.targets ch.val m
      let rng := s.rf engDrbg RNG.STATE
      if !gen then some (ts.foldl (fun s v => s.confirmKey v i) s)
      else if rng = 1 then none
      else if rng = 2 then some (ts.foldl (fun s v => s.askInner (.ponKey ch.val v i)) s).rngFill
      else some (ts.foldl (fun s v => s.keyStalled ch.val v i) s)
    | _ => none)

/-! ### Watchful sleep (R125) -/

/-- The terminals enabled on a channel. -/
def State.liveVts (s : State) (ch : Nat) : List Nat := (s.vtsOn ch).filter fun v => (s.vt v).enabled

/-- Whether a channel anchors its group; a channel with no member of any group counts as its own anchor (R116, R125). -/
def State.anchors (s : State) (ch : Nat) : Bool :=
  s.isAnchor ch || !(s.pon.groups.any fun g => (g.2.member ch).isSome)

/-- Terminals of the group that a channel anchors, or of the channel itself. -/
def State.groupVts (s : State) (ch : Nat) : List Nat :=
  match s.pon.groups.find? fun g => g.2.anchor = ch && (g.2.member ch).isSome with
  | some g => (g.2.members.filterMap fun m => m) ++ s.liveVts ch
  | none => s.liveVts ch

/-- Whether a circuit's slots have a TSI connection on the active page: as an output, or as a source (R169, R171). -/
def State.connected (s : State) (c n : Nat) : Bool :=
  let slot := 64512 + c
  s.tdm.act.conns.any fun x => (decide (slot ≤ x.1) && decide (x.1 < slot + n)) || (decide (slot ≤ x.2.2) && decide (x.2.2 < slot + n))

/-- Whether a circuit with a TSI connection sends to a channel's group. -/
def State.circuitUses (s : State) (ch : Nat) : Bool :=
  s.tdm.act.circs.any fun c =>
    s.connected c.1 1 && match s.queueVt c.2.queue with
      | some v => (s.groupVts ch).contains v
      | none => false

/-- Whether every other channel of the group is parked. -/
def State.othersParked (s : State) (ch : Nat) : Bool :=
  match s.pon.groups.find? fun g => g.2.anchor = ch && (g.2.member ch).isSome with
  | some g => (List.range 4).all fun n => n = ch || (g.2.member n).isNone || (s.chn n).parked
  | none => true

/-- The conditions of watchful sleep (R125). -/
def State.wsHolds (s : State) (ch : Nat) : Bool :=
  s.on (engPloam ch) PL.WS_EN && s.anchors ch && !(s.liveVts ch).isEmpty &&
    ((s.liveVts ch).all fun v => (s.vt v).state = 5 && (s.vt v).sleepOk) && !s.circuitUses ch && s.othersParked ch

/-- Whether a terminal has OMCI or PLOAM to send, but for a WSleep. -/
def Vt.hasWork (t : Vt) : Bool := t.wantReg || !t.omci.isEmpty || (t.queue ++ t.held).any fun m => m != .sleepRequest false

/-- Whether work is queued upstream for a channel's group: data, OMCI or PLOAM. -/
def State.workFor (s : State) (ch : Nat) : Bool :=
  let vs := s.groupVts ch
  (vs.any fun v => (s.vt v).channel = ch && (s.vt v).hasWork) || (s.pon.allocs.any fun a => vs.contains a.2.vt && match a.2.bind with
    | some (_, node) => a.2.cut.isSome || s.sched.hasData 4 node
    | none => false) ||
    s.pon.groups.any fun g => (g.2.member ch).isSome && (!g.2.queue.isEmpty || !g.2.resend.isEmpty)

/-- A channel's watchful sleep ends when its conditions stop holding or work is queued (R125). -/
def State.wsCheckCh (s : State) (ch : Nat) : State := if s.wsHolds ch && !s.workFor ch then s else s.wsEnd ch

/-- Every channel's watchful sleep looked at. -/
def State.wsCheck (s : State) : State := (List.range 4).foldl State.wsCheckCh s

/-- Downstream traffic to a held Port-ID on a channel that is aware (R125). -/
def State.wsTraffic (s : State) (ch : Nat) : State := if (s.chn ch).watch = .aware || (s.chn ch).watch = .leaving then s.wsEnd ch else s

/-- SLEEP_ALLOW (R125). -/
def execSleepAllow (ch : Fin 4) (s : State) : Host.Outcome State Fault Refusal :=
  .next (s.handle ch.val fun m s => match m.body with
    | .sleepAllow on =>
      let s := (s.targets ch.val m).foldl (fun s v => s.modVt v fun t => { t with sleepOk := on }) s
      some (if on then s else s.wsEnd ch.val)
    | _ => none)

/-- WS_IAWARE_EXPIRY (R125): IAWARE ms without traffic. The channel sleeps once its WSleep has been sent. -/
def execWsIawareExpiry (ch : Fin 4) (s : State) : Host.Outcome State Fault Refusal :=
  let c := ch.val
  if !s.wsHolds c || s.workFor c then .next (s.wsEnd c)
  else
    match (s.chn c).watch with
    | .active =>
      let s := (s.liveVts c).foldl (fun s v => s.sendUp v (.sleepRequest false)) s
      .next (s.modCh c fun x => { x with watch := .leaving })
    | .leaving => .next s
    | .aware => .next (s.modCh c fun x => { x with watch := .sleep })
    | .sleep => .next s

/-- WS_ILOWPOWER_EXPIRY (R125). -/
def execWsIlowpowerExpiry (ch : Fin 4) (s : State) : Host.Outcome State Fault Refusal :=
  let c := ch.val
  if (s.chn c).watch = .sleep then .next ((s.modCh c fun x => { x with watch := .aware }).wsCheckCh c) else .next s

end Sys2Proof.Machine
end

