-- ==== Sys2Proof/Machine/OpenIn.lean ====
section
/-! DEFINITION. Downstream frames: XGEM, PON-layer decryption, bonding reassembly, and the way to the open stage (R36, R106 to R108,
R114, R117 to R122, R333). -/
namespace Sys2Proof.Machine

/-! ### To the open stage (R36, R208, R333) -/

/-- The class of an open: 3 for circuit packets. -/
def State.openClass (s : State) (b : List Byte) : Nat :=
  let sci := fbe b 20 8
  let circ (sa : Nat) : Bool := s.tdm.act.circs.any fun c => c.2.rxSa = sa
  if fbe b 12 2 = 0x88E5 then
    if s.cry.sas.any fun x => x.2.fmt.macsec && !x.2.fmt.tx && sci ≠ 0 && (x.2.fmt.sciA = sci || x.2.fmt.sciB = sci) && circ x.1 then 3 else 0
  else if fbe b (typeOff b) 2 = 0x88B6 then 3 else 0

/-- The open job of a frame. -/
def openJob (cls ch : Nat) (x : HeldSdu) (pages : List Nat) : CJob :=
  { isSeal := false, cls := cls, sa := 0xFFFF, src := pages, len := x.bytes.length, dest := .classify ch x.vt, prio := 3, arrival := x.arrival }

/-- A frame to black pages and an open job, where a context and pages are free (R333). -/
def State.openNow (s : State) (ch : Nat) (x : HeldSdu) : Option State :=
  match s.allocPages false x.bytes with
  | none => none
  | some (pages, s) =>
    match s.newCrypto (openJob (s.openClass x.bytes) ch x pages) with
    | (.ok _, s) => some s
    | (.error _, _) => none

/-- Whether input FIFOs that the empty general pool held come before the holding stages (R335). Circuit jobs are not in that order. -/
def State.fifosFirst (s : State) : Bool := s.disp.recovering && s.cls.inq.any fun x => !x.down

/-- Bytes in a channel's holding stage. -/
def State.stageBytes (s : State) (ch : Nat) : Nat := ((s.disp.stage.get ch []).map (·.bytes.length)).sum

/-- A frame that no context can take waits in its channel's holding stage of 64 KiB, or is discarded (R333). -/
def State.stageSdu (s : State) (ch : Nat) (x : HeldSdu) : State :=
  if s.stageBytes ch + x.bytes.length ≤ 65536 then
    { s with disp := { s.disp with stage := s.disp.stage.upd ch [] fun l => l ++ [x] } }
  else s.bump engDisp DP.DP_DN_DROP

/-- Whether a frame must wait behind others: those of its channel's holding stage, and the input FIFOs that R335 puts first; a circuit's packet, which has
its own pool, only behind other circuits' packets. -/
def State.mustWait (s : State) (ch : Nat) (b : List Byte) : Bool :=
  let stage := s.disp.stage.get ch []
  if s.openClass b = 3 then stage.any fun x => s.openClass x.bytes = 3 else !stage.isEmpty || s.fifosFirst

/-- A downstream frame or SDU, complete now, written to black pages (R36, R333). -/
def State.toOpen (s : State) (ch vt : Nat) (b : List Byte) : State :=
  let x : HeldSdu := { vt := vt, bytes := b, arrival := s.short }
  match if s.mustWait ch b then none else s.openNow ch x with
  | some s => s
  | none => s.stageSdu ch x

/-- A holding stage's frames given contexts, oldest first, as far as there are any; with `circ` only circuits' packets. What stays, and the state. -/
def State.drainList (s : State) (ch : Nat) (circ : Bool) : List HeldSdu → List HeldSdu × State
  | [] => ([], s)
  | x :: xs =>
    if circ && s.openClass x.bytes ≠ 3 then
      let (kept, s) := s.drainList ch circ xs
      (x :: kept, s)
    else
      match s.openNow ch x with
      | some s => s.drainList ch circ xs
      | none =>
        if s.openClass x.bytes = 3 then (x :: xs, s)
        else
          let (kept, s) := s.drainList ch true xs
          (x :: kept, s)

/-- A channel's holding stage emptied as far as contexts and R335 allow. -/
def State.drainStage (s : State) (ch : Nat) : State :=
  let (kept, s) := s.drainList ch s.fifosFirst (s.disp.stage.get ch [])
  { s with disp := { s.disp with stage := if kept.isEmpty then s.disp.stage.del ch else s.disp.stage.put ch kept } }

/-- Every holding stage emptied as far as contexts and R335 allow, in channel order. What an empty general pool held back is served when no input FIFO
and no stage holds a frame. -/
def State.drainStages (s : State) : State :=
  let s := (List.range 4).foldl (fun s ch => s.drainStage ch) s
  if s.disp.recovering && !s.disp.fifosHeld && !s.fifosFirst && s.disp.stage.isEmpty then
    { s with disp := { s.disp with recovering := false } }
  else s

/-! ### XGEM frames (R107, R108, R114) -/

/-- Whether user data that a channel receives is discarded: a fenced channel, or a pair's standby (R145, R150). -/
def State.userShut (s : State) (ch : Nat) : Bool := s.fenced ch || s.rf engBond BD.ACTIVE = 0 || s.rf engBond BD.ROLE = 2

/-- A complete SDU goes to its destination (R108). -/
def State.sdu (s : State) (ch : Nat) (p : Port) (b : List Byte) : State :=
  if p.kind = 3 then s.modCh ch fun c => { c with omciIn := c.omciIn ++ [(p.vt, b)] }
  else if s.userShut ch then s.bump engBond BD.BU_FENCED
  else if p.kind = 1 then { s with pon := { s.pon with bondIn := s.pon.bondIn ++ [{ vt := p.vt, bytes := b }] } }
  else s.toOpen ch p.vt b

/-- The key that a frame's key index names, where the entry's KEYING allows it (R114). -/
def State.dnKey (s : State) (ch : Nat) (p : Port) (i : Nat) : Option (BitVec 128) :=
  if p.keying = 1 then s.pon.keys.look (uniKey p.vt i)
  else if p.keying = 2 then s.pon.keys.look (bcastKey ch i)
  else none

/-- The payload of a frame under R114, or none where it is discarded; an owner 0x03 engine deciphers it (R113, R241, R243, R248). -/
def State.xgemClear (s : State) (ch : Nat) (p : Port) (key : Nat) (payload counter : List Byte) (full : Bool) : Option (List Byte) :=
  if key = 0 then some payload
  else if key = 3 || full || (s.ponEngine ch).isNone || !s.on (engXgem ch) XG.DEC_EN then none
  else (s.dnKey ch p key).map fun k => crypt (be 16 k.toNat) counter payload

/-- Bytes of an SDU collected on a Port-ID (R107). Pieces that follow a partial SDU that was discarded are collected anew (log entry 132). -/
def State.collect (s : State) (ch port : Nat) (p : Port) (last : Bool) (b : List Byte) : State :=
  let all := (s.chn ch).partials.get port [] ++ b
  let s := s.modCh ch fun c => { c with partials := c.partials.del port }
  if all.length > 16384 then s.bump (engXgem ch) XG.XG_REASM_ERR
  else if last then s.sdu ch p all
  else s.modCh ch fun c => { c with partials := c.partials.put port all }

/-- A partial SDU of a Port-ID whose next frame is discarded. -/
def State.dropPartial (s : State) (ch port : Nat) : State :=
  if (s.chn ch).partials.has port then
    (s.modCh ch fun c => { c with partials := c.partials.del port }).bump (engXgem ch) XG.XG_REASM_ERR
  else s

/-- XGEM_FRAME_RX (R88, R107, R114). -/
def execXgemFrameRx (ch : Fin 4) (x : XgemIn) (s : State) : Host.Outcome State Fault Refusal :=
  let c := ch.val
  let e := engXgem c
  if !(s.chWorks c && s.rf (engFramer c) FR.SYNC = 2 && (s.chn c).watch ≠ .sleep && !(s.chn c).rest) then .next s
  else
    match x with
    | .badHeader => .next (((s.bump e XG.XG_HEC_ERR).dropPartials c).modCh c fun x => { x with rest := true })
    | .idle => .next s
    | .frame port key last payload counter full =>
      match s.pon.ports.look (portKey c port.toNat) with
      | none => .next (s.bump e XG.XG_UNKNOWN)
      | some p =>
        let s := s.wsTraffic c
        match s.xgemClear c p key.val payload counter full with
        | none => .next ((s.bump e XG.XG_KEY_MISS).dropPartial c port.toNat)
        | some b =>
          let s := if key.val = 0 then s else s.ponBlocks c b.length
          .next ((s.bump e XG.XG_FRAMES).collect c port.toNat p last b)

/-! ### Bonding reassembly (R117 to R122) -/

/-- A fragment's header and data, where its VER, FLEN and length hold (R117, R118). -/
def parseFrag (b : List Byte) : Option (Nat × DnFrag) :=
  let sof := bitOf (fld b 0 1) 5
  let eof := bitOf (fld b 0 1) 4
  let n := fbe b 6 2
  if b.length < 8 || fld b 0 1 / 64 ≠ 1 || n = 0 || n > 4096 || n ≠ b.length - 8 || (!eof && n % 64 ≠ 0) then none
  else some (fld b 1 1 % 16, { bseq := fbe b 2 3, sof := sof, eof := eof, data := b.drop 8, pages := [] })

/-- Distance of a BSEQ ahead of another. -/
def bseqDist (a b : Nat) : Nat := (a % 2 ^ 24 + 2 ^ 24 - b % 2 ^ 24) % 2 ^ 24

/-- A fragment put among those held, in BSEQ order from NEXT. -/
def holdFrag (next : Nat) (f : DnFrag) : List DnFrag → List DnFrag
  | [] => [f]
  | x :: xs => if bseqDist f.bseq next < bseqDist x.bseq next then f :: x :: xs else x :: holdFrag next f xs

/-- The held fragments from `at_` on that follow one another, up to the first with EOF. -/
def runFrom (at_ : Nat) : List DnFrag → List DnFrag
  | [] => []
  | x :: xs => if x.bseq = at_ % 2 ^ 24 then (if x.eof then [x] else x :: runFrom (at_ + 1) xs) else []

/-- Whether a BSEQ between NEXT and the highest held one is missing (R120). -/
def hasGap (next : Nat) (held : List DnFrag) : Bool :=
  match held.getLast? with
  | none => false
  | some x => decide (bseqDist x.bseq next + 1 ≠ held.length)

/-- The lowest missing BSEQ at or above NEXT. -/
def missing (next : Nat) : List DnFrag → Nat
  | [] => next % 2 ^ 24
  | x :: xs => if x.bseq = next % 2 ^ 24 then missing (next + 1) xs else next % 2 ^ 24

/-- The terminal and channel that a group's frames go on by: its anchor's. -/
def Group.way (g : Group) : Nat × Nat := (g.anchor, (g.member g.anchor).getD 0)

/-- A run of fragments leaves a group, NEXT moving past it. -/
def State.takeRun (s : State) (gi : Nat) (run : List DnFrag) (next : Nat) : State :=
  (s.freePages (run.flatMap (·.pages))).modGroup gi fun g => { g with held := g.held.drop run.length, next := some (next % 2 ^ 24) }

/-- What NEXT allows is delivered or discarded, one run after the other (R120). -/
def State.deliver (s : State) (gi : Nat) : Nat → State
  | 0 => s
  | n + 1 =>
    match s.pon.groups.look gi with
    | none => s
    | some g =>
      match g.next with
      | none => s
      | some next =>
        let run := runFrom next g.held
        let data := run.flatMap (·.data)
        match run, run.getLast? with
        | f :: _, some l =>
          if data.length > 16384 then
            let s := s.bump engBond BD.BD_DROP_LONG
            if l.eof then (s.takeRun gi run (next + run.length)).deliver gi n else s.takeRun gi run next
          else if !l.eof then s
          else if f.sof then
            (((s.takeRun gi run (next + run.length)).bump engBond BD.BD_DELIVERED).toOpen g.way.1 g.way.2 data).deliver gi n
          else ((s.takeRun gi run (next + run.length)).bump engBond BD.BD_DROP_GAP).deliver gi n
        | _, _ => s

/-- The gap timer follows whether a gap remains (R120). -/
def State.fixGap (s : State) (gi : Nat) : State :=
  s.modGroup gi fun g => { g with gap := match g.next with
    | some n => hasGap n g.held
    | none => false }

/-- The held fragments that a window's end discards, and those that stay (R120): up to the first above the lowest missing BSEQ with
SOF. -/
def windowSplit (next : Nat) (held : List DnFrag) : List DnFrag × List DnFrag :=
  let m := missing next held
  let low := held.takeWhile fun x => bseqDist x.bseq next < bseqDist m next
  let high := held.drop low.length
  (low ++ high.takeWhile (fun x => !x.sof), high.dropWhile fun x => !x.sof)

/-- A group loses what stands before its next frame; the count, and the state (R120, R122). -/
def State.skipGap (s : State) (gi : Nat) : Nat × State :=
  match s.pon.groups.look gi with
  | none => (0, s)
  | some g =>
    match g.next with
    | none => (0, s)
    | some next =>
      let (gone, kept) := windowSplit next g.held
      let s := s.freePages (gone.flatMap (·.pages))
      (gapCount gone, s.modGroup gi fun g => { g with held := kept, next := kept.head?.map (·.bseq) })

/-- Bytes of buffer that a group's fragments hold. -/
def Group.heldBytes (g : Group) : Nat := (g.held.map fun f => f.pages.length * 256).sum

/-- Room made for a fragment (R122): the oldest incomplete frame goes, what is complete behind it is delivered, and so on. -/
def State.makeRoom (s : State) (gi need_ : Nat) : Nat → State
  | 0 => s
  | n + 1 =>
    match s.pon.groups.look gi with
    | none => s
    | some g =>
      if g.held.isEmpty || g.heldBytes + need_ ≤ s.rf engBond BD.LIMIT * 1048576 then s
      else
        let (k, s) := s.skipGap gi
        ((s.bumpN engBond BD.BD_DROP_SPACE k).deliver gi (g.held.length + 1)).makeRoom gi need_ n

/-- A valid fragment held in its group (R119, R120); `frag` has its pages. -/
def State.holdIn (s : State) (gi : Nat) (g : Group) (next : Nat) (frag : DnFrag) : State :=
  let s := s.modGroup gi fun _ => { g with next := some next, held := holdFrag next frag g.held }
  (s.deliver gi (g.held.length + 1)).fixGap gi

/-- The counter under which a valid fragment is discarded, if it is (R119, R120). -/
def Group.refuses (g : Group) (f : DnFrag) : Option Fld :=
  match g.next with
  | none => if f.sof then none else some BD.BD_LATE
  | some next =>
    if bseqDist f.bseq next ≥ 2 ^ 23 then some BD.BD_LATE
    else if g.held.any fun x => x.bseq = f.bseq then some BD.BD_DUP
    else none

/-- A valid fragment (R119, R120, R122). None: no page is free, and it waits. -/
def State.takeFrag (s : State) (gi : Nat) (g : Group) (f : DnFrag) : Option State :=
  match g.refuses f with
  | some c => some (s.bump engBond c)
  | none => (s.allocPages false f.data).map fun x => x.2.holdIn gi g (g.next.getD f.bseq) { f with pages := x.1 }

/-- BOND_FRAGMENT_RX (R117 to R122): the oldest fragment handed to the bonding layer. -/
def execBondFragmentRx (s : State) : Host.Outcome State Fault Refusal :=
  match s.pon.bondIn with
  | [] => .next s
  | x :: xs =>
    if !s.works engBond then .next s
    else
      let s' := { s with pon := { s.pon with bondIn := xs } }
      match parseFrag x.bytes with
      | none => .next (s'.bump engBond BD.BD_BAD)
      | some (gi, f) =>
        match s.pon.groups.look gi with
        | none => .next (s'.bump engBond BD.BD_BAD)
        | some g =>
          if !g.members.contains (some x.vt) then .next (s'.bump engBond BD.BD_BAD)
          else
            let room := if (g.refuses f).isSome then 0 else (f.data.length + 255) / 256 * 256
            let s' := if room = 0 then s' else s'.makeRoom gi room (g.held.length + 1)
            match s'.takeFrag gi ((s'.pon.groups.look gi).getD g) f with
            | some s' => .next s'
            | none => .next s

/-- BOND_GAP_TIMER_EXPIRY (R120). -/
def execBondGapTimerExpiry (group : Fin 16) (s : State) : Host.Outcome State Fault Refusal :=
  let gi := group.val
  match s.pon.groups.look gi with
  | none => .next s
  | some g =>
    if g.gap then
      let (k, s) := s.skipGap gi
      .next (((s.bumpN engBond BD.BD_DROP_GAP k).deliver gi g.held.length).fixGap gi)
    else .next s

/-- BOND_IDLE_FLUSH (R120): no valid fragment for 10 ms. -/
def execBondIdleFlush (group : Fin 16) (s : State) : Host.Outcome State Fault Refusal := .next (s.flushGroup group.val)

end Sys2Proof.Machine
end

