-- ==== Sys2Proof/Machine/SchedRows.lean ====
section
/-! DEFINITION. The tick, due jobs, time-outs, consumers, and the commands of the traffic scheduler (R326 to R352). -/
namespace Sys2Proof.Machine

/-! ### The tick (R330, R331, R345) -/

/-- DISPATCHER_TICK (R330, R345): DP_TICK counts, asleep or not; shapers and policers are refilled while SCHD is awake; holding stages
and watchful sleep are looked at. -/
def execDispatcherTick (s : State) : Host.Outcome State Fault Refusal :=
  let s := { s with disp := { s.disp with tick := (s.disp.tick + 1) % 2 ^ 32 } }
  if s.asleep 13 then .next s
  else .next (({ s with sched := s.sched.tick }).longSuspends.drainStages.wsCheck)

/-- Whether job `a` is served before `b`: DUE order, then the order in which they entered (R331). -/
def dueFirst (tick : Nat) (a b : Nat × Nat) : Bool :=
  let late (d : Nat) : Nat := (tick + 2 ^ 32 - d % 2 ^ 32) % 2 ^ 32
  decide (late b.1 < late a.1) || a.1 = b.1 && decide (a.2 < b.2)

/-- The first of the jobs that `p` picks whose `due` is at or behind the tick, which is all that is not ahead of it, by `due` and entry (R331). -/
def State.firstDue (s : State) (p : Job → Bool) (due : Job → Nat) : Option (Nat × Job) :=
  (s.disp.jobs.filter fun x => p x.2 && !ahead 32 (due x.2) s.disp.tick).foldl
    (fun best x => match best with
      | none => some x
      | some b => if dueFirst s.disp.tick (due x.2, x.2.entered) (due b.2, b.2.entered) then some x else some b) none

/-- JOB_DUE (R326, R331): the first job whose DUE is at or before the tick becomes READY; more than 2 µs after its tick it counts as late. -/
def execJobDue (s : State) : Host.Outcome State Fault Refusal :=
  match s.firstDue (fun j => j.state = .delayed) fun j => j.due.getD 0 with
  | none => .next s
  | some (c, j) =>
    let s' := { s with disp := { s.disp with jobs := s.disp.jobs.put c { j with due := none } } }.arm c
    if (s.disp.tick + 2 ^ 32 - j.due.getD 0) % 2 ^ 32 > 2 then .next (s'.bump engDisp DP.DP_LATE) else .next s'

/-- CLASS_P_TIMEOUT (R326, R332): a time-out is served when its tick is over, so that a DEP that reaches 0 in that tick wins. -/
def execClassPTimeout (s : State) : Host.Outcome State Fault Refusal :=
  match s.firstDue (fun j => j.state = .waiting && j.timed && j.timeoutAt != s.disp.tick) (·.timeoutAt) with
  | none => .next s
  | some (c, _) => .next (s.timeOut c)

/-! ### Consumers (R327) -/

/-- Whether a job is of a kind that a consumer runs; seals and opens are the cipher complex's own. -/
def Work.takenBy (w : Work) (t : JobTaker) : Bool :=
  match t, w with
  | .playout, .playout _ => true
  | .tables, .table => true
  | .classP, .mgmt => true
  | .classP, .kat _ => true
  | .classP, .key => true
  | .classP, .heartbeat _ => true
  | _, _ => false

/-- The oldest READY job of the highest priority of a consumer's kinds becomes RUNNING. -/
def State.takeReady (s : State) (t : JobTaker) : State :=
  match s.oldestReady fun _ j => j.work.takenBy t with
  | some (c, _) => s.putJobState c .running
  | none => s

/-- JOB_TAKE (R327). -/
def execJobTake (by_ : JobTaker) (s : State) : Host.Outcome State Fault Refusal :=
  match by_ with
  | .seals => .next (s.takeCrypto true)
  | .opens => .next (s.takeCrypto false)
  | t => .next (s.takeReady t)

/-! ### Queues and nodes (R339, R343, R344, R352) -/

def State.modSched (s : State) (f : Sched → Sched) : State := { s with sched := f s.sched }

/-- A queue given its settings; with a new parent it starts there with last finish tag 0 (R344). -/
def Sched.setQueue (c : Sched) (n : Nat) (q : Queue) (parent prio weight qlimit : Nat) (circuit : Bool) : Sched :=
  let q' := { q with circuit := circuit, parent := parent, prio := prio, weight := weight, qlimit := qlimit }
  let q'' := if q.parent = parent then q' else { q' with start := 0, finish := 0, active := false }
  { c with queues := c.queues.put n q'' }.refresh

/-- Whether a circuit entry of either page names a queue. -/
def State.queueNamed (s : State) (n : Nat) : Bool :=
  s.tdm.act.circs.any (fun c => c.2.queue = n) || s.tdm.stby.circs.any fun c => c.2.queue = n

def queueSetCmd : Cmd where
  op := 0x0700
  len := fun n => n = 16
  stage := true
  domains := fun _ _ => [13]
  params := fun _ r _ =>
    let p := r.payload
    let set := fld p 2 1 = 1
    checks
      [param (fld p 0 2 < 32768) 0, param (fld p 2 1 < 2) 2, param (fld p 3 1 < 2) 3, param (!(set && fld p 4 2 ≥ 8192)) 4,
       param (!(set && fld p 6 1 > 7)) 6, resv p 7 1, param (!(set && fld p 8 2 = 0)) 8, resv p 10 2,
       param (!(set && fld p 12 4 > 16777216)) 12]
  act := fun _ r s =>
    let p := r.payload
    let n := fld p 0 2
    let circuit := fld p 3 1 = 1
    match fld p 2 1, s.sched.queues.look n with
    | 0, none => .say s St.noChange
    | 0, some q =>
      if !q.frames.isEmpty || s.queueNamed n then .say s St.collision
      else .say (s.modSched fun c => { c with queues := c.queues.del n }.refresh) St.ok
    | _, q =>
      if !s.sched.nodes.has (nodeKey 2 (fld p 4 2)) then .say s St.badParam 4
      else
        match q with
        | none =>
          let fresh : Queue := { circuit := circuit, parent := fld p 4 2, prio := fld p 6 1, weight := fld p 8 2, qlimit := fld p 12 4 }
          .say (s.modSched fun c => { c with queues := c.queues.put n fresh }) St.ok
        | some q =>
          if q.circuit = circuit && q.parent = fld p 4 2 && q.prio = fld p 6 1 && q.weight = fld p 8 2 && q.qlimit = fld p 12 4 then
            .say s St.noChange
          else if q.circuit != circuit && !q.frames.isEmpty then .say s St.collision
          else .say (s.modSched fun c => c.setQueue n q (fld p 4 2) (fld p 6 1) (fld p 8 2) (fld p 12 4) circuit) St.ok

/-- QUEUE_SET (R352). -/
def execQueueSet (r : Req) (s : State) : Host.Outcome State Fault Refusal := .next (runCmd queueSetCmd r s)

/-- Whether a node of a level has children. -/
def Sched.hasKids (c : Sched) (level n : Nat) : Bool :=
  if level = 2 then !(c.queuesOf n).isEmpty else !(c.kids (level - 1) n).isEmpty

/-- A node given its settings, as `Sched.setQueue` gives a queue its own. -/
def Sched.setNode (c : Sched) (level n : Nat) (x : SNode) (parent prio vt weight : Nat) : Sched :=
  let x' := { x with parent := parent, prio := prio, vt := vt, weight := weight }
  let x'' := if x.parent = parent then x' else { x' with start := 0, finish := 0, active := false }
  { c with nodes := c.nodes.put (nodeKey level n) x'' }.refresh

/-- Whether an Alloc-ID is bound to an S5 node. -/
def State.nodeBound (s : State) (n : Nat) : Bool := s.pon.allocs.any fun a => (a.2.bind.map (·.2)) = some n

def nodeSetCmd : Cmd where
  op := 0x0701
  len := fun n => n = 12
  stage := true
  domains := fun _ _ => [13]
  params := fun _ r _ =>
    let p := r.payload
    let lv := fld p 0 1
    let set := fld p 1 1 = 1
    let ok := 2 ≤ lv && lv ≤ 5
    checks
      [param ok 0, param (fld p 1 1 < 2) 1, param (fld p 2 2 < levelSize lv) 2,
       param (!(set && (if lv = 5 then fld p 4 2 ≠ 0 else fld p 4 2 ≥ levelSize (lv + 1)))) 4,
       param (!(set && (fld p 6 1 > 7 || lv = 5 && fld p 6 1 ≠ 0))) 6,
       param (!(set && (if lv = 4 then fld p 7 1 > 63 else fld p 7 1 ≠ 0))) 7,
       param (!(set && (if lv = 5 then fld p 8 2 ≠ 0 else fld p 8 2 = 0))) 8, resv p 10 2]
  act := fun _ r s =>
    let p := r.payload
    let lv := fld p 0 1
    let n := fld p 2 2
    match fld p 1 1, s.sched.nodes.look (nodeKey lv n) with
    | 0, none => .say s St.noChange
    | 0, some _ =>
      if s.sched.hasKids lv n || lv = 5 && s.nodeBound n then .say s St.collision
      else .say (s.modSched fun c => { c with nodes := c.nodes.del (nodeKey lv n) }.refresh) St.ok
    | _, x =>
      if lv < 5 && !s.sched.nodes.has (nodeKey (lv + 1) (fld p 4 2)) then .say s St.badParam 4
      else
        match x with
        | none =>
          let fresh : SNode := { parent := fld p 4 2, prio := fld p 6 1, vt := fld p 7 1, weight := fld p 8 2 }
          .say (s.modSched fun c => { c with nodes := c.nodes.put (nodeKey lv n) fresh }) St.ok
        | some x =>
          if x.parent = fld p 4 2 && x.prio = fld p 6 1 && x.vt = fld p 7 1 && x.weight = fld p 8 2 then .say s St.noChange
          else if x.vt ≠ fld p 7 1 && s.sched.hasKids lv n then .say s St.collision
          else .say (s.modSched fun c => c.setNode lv n x (fld p 4 2) (fld p 6 1) (fld p 7 1) (fld p 8 2)) St.ok

/-- NODE_SET (R339). -/
def execNodeSet (r : Req) (s : State) : Host.Outcome State Fault Refusal := .next (runCmd nodeSetCmd r s)

/-! ### Shapers and policers (R345, R348) -/

/-- The shaper and policer of a node, where the node exists. -/
def Sched.buckets (c : Sched) (level n : Nat) : Option (Bucket × Bucket) :=
  if level = 1 then (c.queues.look n).map fun q => (q.shaper, q.policer)
  else if level = 6 then some (c.s6.get n {}, {})
  else if level = 7 then some (c.s7, {})
  else (c.nodes.look (nodeKey level n)).map fun x => (x.shaper, x.policer)

/-- A node's shaper replaced. -/
def Sched.setShaper (c : Sched) (level n : Nat) (b : Bucket) : Sched :=
  if level = 1 then { c with queues := c.queues.adj n fun q => { q with shaper := b } }
  else if level = 6 then { c with s6 := c.s6.put n b }
  else if level = 7 then { c with s7 := b }
  else { c with nodes := c.nodes.adj (nodeKey level n) fun x => { x with shaper := b } }

/-- A node's policer replaced. -/
def Sched.setPolicer (c : Sched) (level n : Nat) (b : Bucket) : Sched :=
  if level = 1 then { c with queues := c.queues.adj n fun q => { q with policer := b } }
  else { c with nodes := c.nodes.adj (nodeKey level n) fun x => { x with policer := b } }

/-- The checks of SHAPER_SET and POLICER_SET (R345). -/
def bucketChecks (p : List Byte) (levels : List Nat) : Chk :=
  let lv := fld p 0 1
  let rate := fld p 4 4
  let burst := fld p 8 4
  checks
    [param (levels.contains lv) 0, resv p 1 1, param (fld p 2 2 < (if lv = 1 then 32768 else levelSize lv)) 2,
     param (rate ≤ 200000000) 4, param (if rate = 0 then burst = 0 else 64 ≤ burst && burst ≤ 16777216) 8]

def shaperSetCmd : Cmd where
  op := 0x0702
  len := fun n => n = 12
  stage := true
  domains := fun _ _ => [13]
  params := fun _ r _ => bucketChecks r.payload [1, 2, 3, 4, 5, 6, 7]
  act := fun _ r s =>
    let p := r.payload
    match s.sched.buckets (fld p 0 1) (fld p 2 2) with
    | none => .say s St.notReady
    | some (b, _) =>
      if b.rate = fld p 4 4 && b.burst = fld p 8 4 then .say s St.noChange
      else
        let b : Bucket := { rate := fld p 4 4, burst := fld p 8 4, tokens := 0 }
        .say (s.modSched fun c => (c.setShaper (fld p 0 1) (fld p 2 2) b).refresh) St.ok

/-- SHAPER_SET (R348). -/
def execShaperSet (r : Req) (s : State) : Host.Outcome State Fault Refusal := .next (runCmd shaperSetCmd r s)

def policerSetCmd : Cmd where
  op := 0x0703
  len := fun n => n = 12
  stage := true
  domains := fun _ _ => [13]
  params := fun _ r _ => bucketChecks r.payload [1, 3]
  act := fun _ r s =>
    let p := r.payload
    match s.sched.buckets (fld p 0 1) (fld p 2 2) with
    | none => .say s St.notReady
    | some (_, b) =>
      if b.rate = fld p 4 4 && b.burst = fld p 8 4 then .say s St.noChange
      else
        let b : Bucket := { rate := fld p 4 4, burst := fld p 8 4, tokens := fld p 8 4 * 8000 }
        .say (s.modSched fun c => c.setPolicer (fld p 0 1) (fld p 2 2) b) St.ok

/-- POLICER_SET (R348). -/
def execPolicerSet (r : Req) (s : State) : Host.Outcome State Fault Refusal := .next (runCmd policerSetCmd r s)

/-! ### Reports -/

/-- Bytes beneath an S5 node, with the frames in the queues of the groups bound to it (R350). -/
def State.s5Backlog (s : State) (n : Nat) : Nat :=
  let gs := s.pon.groups.filter fun g => s.pon.allocs.any fun a => a.2.bind = some (some g.1, n)
  s.sched.backlog 4 n + (gs.map fun g => (g.2.queue.map fun f => f.frame.len).sum).sum

/-- QUEUE_STATS's reply. -/
def queueReport (n : Nat) (q : Option Queue) (x : QCount) : List Byte :=
  (match q with
   | none => le 2 n ++ zeros 10
   | some q =>
     le 2 n ++ [byte (1 + 2 * bit q.circuit + 4 * bit q.eligible), 0] ++ le 4 (min 0xFFFFFFFF (q.frames.map (·.len)).sum) ++ le 4 q.frames.length) ++
    zeros 4 ++ le 8 x.selFrames ++ le 8 x.selBytes ++ le 8 x.limitDrop ++ le 8 x.policeDrop

def queueStatsCmd : Cmd where
  op := 0x0704
  len := fun n => n = 4
  domains := fun _ _ => [13]
  params := fun _ r _ => checks [param (fld r.payload 0 2 < 32768) 0, param (fld r.payload 2 1 < 2) 2, resv r.payload 3 1]
  act := fun _ r s =>
    let n := fld r.payload 0 2
    let s' := if fld r.payload 2 1 = 1 then s.modSched fun c => { c with counts := c.counts.del n } else s
    { st := s', payload := queueReport n (s.sched.queues.look n) (s.sched.counts.get n {}) }

/-- QUEUE_STATS (R352). -/
def execQueueStats (r : Req) (s : State) : Host.Outcome State Fault Refusal := .next (runCmd queueStatsCmd r s)

/-- NODE_QUERY's reply. Nothing stands beneath S6 and S7, which only shape (R339). -/
def State.nodeReport (s : State) (lv n : Nat) : List Byte :=
  match s.sched.buckets lv n with
  | none => [byte lv, 0] ++ le 2 n ++ zeros 28
  | some (sh, po) =>
    let data := lv ≤ 5 && s.sched.hasData (lv - 1) n
    let backlog := if lv = 5 then s.s5Backlog n else if lv < 5 then s.sched.backlog (lv - 1) n else 0
    let v := if 2 ≤ lv && lv ≤ 5 then ((s.sched.nodes.look (nodeKey lv n)).map (·.v)).getD 0 else 0
    [byte lv, byte (1 + 2 * bit data + 4 * bit (!sh.allows))] ++ le 2 n ++ le 4 (min 0xFFFFFFFF backlog) ++ le 8 v ++
      le 8 (unsigned 64 sh.tokens) ++ le 8 (unsigned 64 po.tokens)

def nodeQueryCmd : Cmd where
  op := 0x0705
  len := fun n => n = 4
  domains := fun _ _ => [13]
  params := fun _ r _ =>
    let lv := fld r.payload 0 1
    checks
      [param (1 ≤ lv && lv ≤ 7) 0, resv r.payload 1 1, param (fld r.payload 2 2 < (if lv = 1 then 32768 else levelSize lv)) 2]
  act := fun _ r s => { st := s, payload := s.nodeReport (fld r.payload 0 1) (fld r.payload 2 2) }

/-- NODE_QUERY (R339). -/
def execNodeQuery (r : Req) (s : State) : Host.Outcome State Fault Refusal := .next (runCmd nodeQueryCmd r s)

end Sys2Proof.Machine
end

