-- ==== Sys2Proof/Machine/TdmPages.lean ====
section
/-! DEFINITION. AU-4 structures, slots, connections, the circuit table, and the pages that hold them (R169 to R178, R190). -/
namespace Sys2Proof.Machine

/-! ### Slots (R169, R170) -/

/-- Whether a lane is in SDH mode (R161, R355). -/
def State.sdhLane (s : State) (lane : Nat) : Bool := s.rf (engLane lane) LN.MODE = 3

/-- AU-4s at a lane's rate (R160, R355). -/
def State.sdhAus (s : State) (lane : Nat) : Nat :=
  if !s.sdhLane lane then 0
  else match s.rf (engLane lane) LN.RATE with
    | 0x11 => 1
    | 0x12 => 4
    | 0x13 => 16
    | _ => 0

/-- Place of an AU-4 in `TdmPage.structs` (`au` is its number less 1). -/
def auKey (lane au : Nat) : Nat := lane * 16 + au

/-- STRUCT and TU12 of an AU-4. -/
def TdmPage.au (p : TdmPage) (lane au : Nat) : Nat × Nat := p.structs.get (auKey lane au) (0, 0)

/-- Slots of a path (R170). -/
def sizeSlots (size : Nat) : Nat :=
  match size with
  | 0 => 1
  | 1 => 1
  | 2 => 21
  | 3 => 63
  | 4 => 252
  | _ => 1008

def circSlot (c : Nat) : Nat := 64512 + c

/-- Lane, AU-4 number less 1, and place within it, of a client slot. -/
def slotLane (n : Nat) : Nat := n / 1008
def slotAu (n : Nat) : Nat := n % 1008 / 63
def slotPos (n : Nat) : Nat := n % 63

/-- What a slot's structure is: the AU-4's STRUCT, or 8 for a TU-3 and 9 for TU-12s (R160). -/
def slotKind (au : Nat × Nat) (pos : Nat) : Nat := if au.1 = 2 then (if bitOf au.2 (pos / 21) then 9 else 8) else au.1

/-- Whether a slot is aligned for a size: a client slot, or a circuit slot (R170). -/
def slotAligned (n size : Nat) : Bool :=
  if n < 64512 then
    match size with
    | 0 => true
    | 1 => true
    | 2 => n % 63 % 21 = 0
    | 3 => n % 63 = 0
    | 4 => n % 252 = 0
    | _ => n % 1008 = 0
  else (n - 64512) % sizeSlots size = 0 && n + sizeSlots size ≤ 96768

/-- Whether an aligned slot is valid for a size: a client slot's AU-4 exists and its structure matches (R170). -/
def State.slotValid (s : State) (p : TdmPage) (n size : Nat) : Bool :=
  if n ≥ 64512 then true
  else
    let k := slotKind (p.au (slotLane n) (slotAu n)) (slotPos n)
    slotAu n < s.sdhAus (slotLane n) &&
      (match size with
       | 0 => k = 9
       | 1 => k = 9
       | 2 => k = 8
       | 3 => k = 1
       | 4 => k = 3
       | _ => k = 4)

/-- Whether two runs of slots meet. -/
def slotsMeet (a n b m : Nat) : Bool := decide (a < b + m) && decide (b < a + n)

/-- The source of an output slot on a page. -/
def TdmPage.source (p : TdmPage) (out : Nat) : Option Nat :=
  (p.conns.find? fun x => decide (x.1 ≤ out) && decide (out < x.1 + sizeSlots x.2.1)).map fun x => x.2.2 + (out - x.1)

/-- Outputs with a source (OUT_USED). -/
def TdmPage.outUsed (p : TdmPage) : Nat := (p.conns.map fun x => sizeSlots x.2.1).sum

/-! ### TDM_STRUCT -/

/-- AU-4s that a head of a structure covers. -/
def structSpan (st : Nat) : Nat := if st = 3 then 4 else if st = 4 then 16 else 1

/-- The head of the group that an AU-4 belongs to. -/
def TdmPage.headOf (p : TdmPage) (lane au : Nat) : Nat :=
  if (p.au lane au).1 = 5 then
    if (p.au lane 0).1 = 4 then 0 else au / 4 * 4
  else au

/-- Every AU-4 of a lane after AU-4 `au` takes a structure: groups that it cuts into become unused. -/
def TdmPage.restruct (p : TdmPage) (lane au st tu : Nat) : TdmPage :=
  let n := structSpan st
  let cut := ((List.range n).map fun i => p.headOf lane (au + i)).flatMap fun h =>
    (List.range (structSpan (p.au lane h).1)).map fun i => h + i
  let cleared := cut.foldl (fun m a => m.del (auKey lane a)) p.structs
  let members := ((List.range n).drop 1).foldl (fun m i => m.put (auKey lane (au + i)) (5, 0)) cleared
  { p with structs := if st = 0 then members else members.put (auKey lane au) (st, tu) }

/-- Client slots of a lane whose structure differs between two pages. -/
def slotsChanged (p q : TdmPage) (lane : Nat) : List Nat :=
  ((List.range 16).flatMap fun a => (List.range 3).map fun k => (a, k)).flatMap fun x =>
    if slotKind (p.au lane x.1) (21 * x.2) = slotKind (q.au lane x.1) (21 * x.2) then []
    else (List.range 21).map fun i => lane * 1008 + x.1 * 63 + x.2 * 21 + i

/-- Whether a page's connections or a path monitor use one of some client slots. -/
def State.slotsUsed (s : State) (p : TdmPage) (slots : List Nat) : Bool :=
  (p.conns.any fun x => slots.any fun n =>
    slotsMeet x.1 (sizeSlots x.2.1) n 1 || slotsMeet x.2.2 (sizeSlots x.2.1) n 1) ||
    s.tdm.mons.any fun m => m.1 / 2 ^ 28 ≥ 3 && slots.contains (m.1 % 2 ^ 28)

/-- TUG3 bytes as TU12. -/
def tugBits (p : List Byte) : Nat := fld p 4 1 + 2 * fld p 5 1 + 4 * fld p 6 1

/-- Commands that wait while the pages are copied (R176). -/
def State.copyWaits (s : State) : Bool := s.on engTsi TSI.COPYING

def tdmStructCmd : Cmd where
  op := 0x0400
  len := fun n => n = 8
  stage := true
  domains := fun _ _ => [10]
  params := fun _ r _ =>
    let p := r.payload
    let st := fld p 2 1
    checks
      ([param (fld p 0 1 ≤ 63) 0, param (1 ≤ fld p 1 1 && fld p 1 1 ≤ 16) 1, param (st ≤ 4) 2, resv p 3 1] ++
        ((List.range 3).map fun k => param (st ≠ 2 || fld p (4 + k) 1 ≤ 1) (4 + k)) ++ [resv p 7 1])
  act := fun _ r s =>
    let p := r.payload
    let lane := fld p 0 1
    let au := fld p 1 1 - 1
    let st := fld p 2 1
    if s.copyWaits then { st := s, wait := some (.unit engTsi) }
    else if !s.sdhLane lane then .say s St.badParam 0
    else if au + 1 > s.sdhAus lane then .say s St.badParam 1
    else if au % structSpan st ≠ 0 || au + structSpan st > s.sdhAus lane then .say s St.badParam 2
    else
      let tu := if st = 2 then tugBits p else 0
      if s.tdm.stby.au lane au = (st, tu) then .say s St.noChange
      else
        let q := s.tdm.stby.restruct lane au st tu
        if s.slotsUsed s.tdm.stby (slotsChanged s.tdm.stby q lane) then .say s St.collision
        else .say (s.modTdm fun t => { t with stby := q }) St.ok

/-- TDM_STRUCT (R173). -/
def execTdmStruct (r : Req) (s : State) : Host.Outcome State Fault Refusal := .next (runCmd tdmStructCmd r s)

/-! ### TSI_CONNECT (R171) -/

/-- TSI_CONNECT once no copy runs. -/
def tsiConnect (p : List Byte) (s : State) : Act :=
  let size := fld p 1 1
  let out := fld p 4 4
  let src := fld p 8 4
  let page := s.tdm.stby
  if fld p 0 1 = 0 then
    match page.conns.look out with
    | none => .say s St.noChange
    | some (z, _) =>
      if z ≠ size then .say s St.badParam 1
      else .say (s.modTdm fun t => { t with stby := { page with conns := page.conns.del out } }) St.ok
  else if !s.slotValid page out size then .say s St.badParam 4
  else if !s.slotValid page src size then .say s St.badParam 8
  else if page.conns.look out = some (size, src) then .say s St.noChange
  else if page.conns.any fun x => slotsMeet x.1 (sizeSlots x.2.1) out (sizeSlots size) then .say s St.badParam 4
  else .say (s.modTdm fun t => { t with stby := { page with conns := page.conns.put out (size, src) } }) St.ok

def tsiConnectCmd : Cmd where
  op := 0x0401
  len := fun n => n = 12
  stage := true
  domains := fun _ _ => [10]
  params := fun _ r _ =>
    let p := r.payload
    let size := fld p 1 1
    let out := fld p 4 4
    let src := fld p 8 4
    checks
      [param (fld p 0 1 ≤ 1) 0, param (size ≤ 5) 1, resv p 2 2, param (out < 96768 && slotAligned out size) 4,
       param (fld p 0 1 = 0 || src < 96768 && slotAligned src size && !(out ≥ 64512 && src ≥ 64512)) 8]
  act := fun _ r s => if s.copyWaits then { st := s, wait := some (.unit engTsi) } else tsiConnect r.payload s

/-- TSI_CONNECT (R171). -/
def execTsiConnect (r : Req) (s : State) : Host.Outcome State Fault Refusal := .next (runCmd tsiConnectCmd r s)

def tsiReadCmd : Cmd where
  op := 0x0403
  len := fun n => n = 8
  domains := fun _ _ => [10]
  params := fun _ r _ =>
    let p := r.payload
    let n := fld p 2 2
    checks
      [param (fld p 0 1 ≤ 1) 0, resv p 1 1, param (1 ≤ n && n ≤ 1024) 2, param (fld p 4 4 + n ≤ 96768) 4]
  act := fun _ r s =>
    let p := r.payload
    let page := if fld p 0 1 = 0 then s.tdm.act else s.tdm.stby
    { st := s, payload := (List.range (fld p 2 2)).flatMap fun i => le 4 ((page.source (fld p 4 4 + i)).getD 0xFFFFFFFF) }

/-- TSI_READ (R173). -/
def execTsiRead (r : Req) (s : State) : Host.Outcome State Fault Refusal := .next (runCmd tsiReadCmd r s)

/-! ### CIRCUIT_SET (R179, R180, R190) -/

/-- Bytes per millisecond of a size (R180). -/
def sizeRate (size : Nat) : Nat :=
  match size with
  | 0 => 208
  | 1 => 280
  | 2 => 6120
  | 3 => 18792
  | 4 => 75168
  | _ => 300672

/-- Playout blocks of a circuit (R190): DEPTH is in quarters of a millisecond. -/
def Circ.blocks (x : Circ) : Nat := (sizeRate x.size * x.depth + 8 * x.payload + 16383) / 16384

/-- Playout blocks of both pages: an entry that both hold alike counts once. -/
def Tdm.blocks (t : Tdm) : Nat :=
  (t.act.circs.map fun x => x.2.blocks).sum +
    ((t.stby.circs.filter fun x => t.act.circs.look x.1 ≠ some x.2).map fun x => x.2.blocks).sum

/-- Whether a PAYLOAD is one that a mode and a size allow (R179). -/
def payloadOk (mode size n : Nat) : Bool :=
  if mode = 1 then n % 140 = 0 && 140 ≤ n && n ≤ 1400
  else if size = 0 then n % 104 = 0 && 104 ≤ n && n ≤ 1352
  else if size = 1 then n % 140 = 0 && 140 ≤ n && n ≤ 1400
  else 64 ≤ n && n ≤ 1440

/-- The entry of a CIRCUIT_SET payload. -/
def circOf (p : List Byte) : Circ :=
  { mode := fld p 1 1, size := fld p 2 1, payload := fld p 6 2, txSa := fld p 8 2, rxSa := fld p 10 2, txEcid := fld p 12 4,
    rxEcid := fld p 16 4, dst := part p 20 6, src := part p 26 6, tci := fld p 32 2, depth := fld p 34 2, lopsSet := fld p 36 1,
    lopsClr := fld p 37 1, queue := fld p 38 2 }

/-- Whether an SA exists, and whether its key is there. -/
def State.saThere (s : State) (n : Nat) : Bool := s.cry.sas.has n
def State.saKeyed (s : State) (n : Nat) : Bool := ((s.cry.sas.look n).map fun x => s.cry.slots.has x.cur).getD false

/-- The context that a circuit's playout job holds. -/
def State.circCtx (s : State) (c : Nat) : Option Nat :=
  if s.tdm.act.circs.has c then (s.circ c).ctx else s.tdm.ctxStby.look c

/-- A circuit's playout job created where it has none (R187, R333); false when no context is free. -/
def State.playoutJob (s : State) (c : Nat) : Bool × State :=
  match s.circCtx c with
  | some _ => (true, s)
  | none =>
    match s.newJob { work := .playout c, cls := .circuit, prio := 15, list := c % 12, due := some s.idleDue } with
    | (.ok n, s) =>
      (true, s.modTdm fun t =>
        if t.act.circs.has c then { t with rt := t.rt.upd c {} fun x => { x with ctx := some n } }
        else { t with ctxStby := t.ctxStby.put c n })
    | (.error _, s) => (false, s)

/-- A playout job of an entry that neither page holds is cancelled (R326). -/
def State.dropPlayout (s : State) (c : Nat) : State :=
  if s.tdm.act.circs.has c || s.tdm.stby.circs.has c then s
  else
    match s.tdm.ctxStby.look c with
    | some n => (s.modTdm fun t => { t with ctxStby := t.ctxStby.del c }).endJob n false
    | none => s

/-- CIRCUIT_SET's removal. -/
def circuitRemove (c : Nat) (s : State) : Act :=
  if !s.tdm.stby.circs.has c then .say s St.noChange
  else .say ((s.modTdm fun t => { t with stby := { t.stby with circs := t.stby.circs.del c } }).dropPlayout c) St.ok

/-- CIRCUIT_SET's creation or replacement. -/
def circuitCreate (c : Nat) (x : Circ) (s : State) : Act :=
  let page := s.tdm.stby
  let t' : Tdm := { s.tdm with stby := { page with circs := page.circs.put c x } }
  if page.circs.any fun y => y.1 ≠ c && slotsMeet y.1 (sizeSlots y.2.size) c (sizeSlots x.size) then .say s St.badParam 4
  else if page.circs.look c = some x then .say s St.noChange
  else if !s.saThere x.txSa || !s.saThere x.rxSa then .say s St.notReady
  else if !s.saKeyed x.txSa || !s.saKeyed x.rxSa then .say s St.zeroized
  else if page.circs.any fun y => y.1 ≠ c && y.2.rxSa = x.rxSa && y.2.rxEcid = x.rxEcid then .say s St.collision
  else if t'.blocks > 65536 then .say s St.exhausted
  else
    match s.playoutJob c with
    | (false, s) => .say s St.busy 3
    | (true, s) => .say (s.modTdm fun t => { t with stby := { t.stby with circs := t.stby.circs.put c x } }) St.ok

def circuitSetCmd : Cmd where
  op := 0x0404
  len := fun n => n = 40
  stage := true
  domains := fun _ _ => [10, 13]
  params := fun _ r _ =>
    let p := r.payload
    let x := circOf p
    let add := fld p 0 1 = 1
    let c := fld p 4 2
    let ok (b : Bool) (off : Nat) : Chk := param (!add || b) off
    checks
      [param (fld p 0 1 ≤ 1) 0, ok (x.mode = 0 || x.mode = 1 && x.size = 1) 1, ok (x.size ≤ 5) 2, resv p 3 1,
       param (c ≤ 32255 && (!add || c % sizeSlots x.size = 0)) 4, ok (payloadOk x.mode x.size x.payload) 6,
       ok (x.txEcid ≤ 0xFFFFF) 12, ok (x.rxEcid ≤ 0xFFFFF) 16, ok (1 ≤ x.depth && x.depth ≤ 256) 34, ok (1 ≤ x.lopsSet) 36,
       ok (1 ≤ x.lopsClr) 37, ok (x.queue < 32768) 38]
  act := fun _ r s =>
    let p := r.payload
    if s.copyWaits then { st := s, wait := some (.unit engTsi) }
    else if fld p 0 1 = 0 then circuitRemove (fld p 4 2) s
    else circuitCreate (fld p 4 2) (circOf p) s

/-- CIRCUIT_SET (R179). -/
def execCircuitSet (r : Req) (s : State) : Host.Outcome State Fault Refusal := .next (runCmd circuitSetCmd r s)

/-! ### Splices (R174 to R177) -/

def tsiSpliceCmd : Cmd where
  op := 0x0402
  len := fun n => n = 0
  domains := fun _ _ => [10]
  act := fun _ _ s =>
    if s.copyWaits || s.tdm.splice.isSome then { st := s, wait := some (.unit engTsi) }
    else if s.tdm.act = s.tdm.stby then .say s St.noChange
    else { st := (s.modTdm fun t => { t with splice := some .command }).wf engTsi TSI.PENDING 1, wait := some .splice }

/-- TSI_SPLICE (R174). -/
def execTsiSplice (r : Req) (s : State) : Host.Outcome State Fault Refusal := .next (runCmd tsiSpliceCmd r s)

/-- One circuit across a splice (R175, R188): its entries before and after. -/
def State.spliceCirc (s : State) (c : Nat) (before after : Option Circ) : State :=
  match before, after with
  | none, some _ =>
    let ctx := s.tdm.ctxStby.look c
    (s.modTdm fun t => { t with rt := t.rt.put c { ctx := ctx }, ctxStby := t.ctxStby.del c }).circTo c 1 0
  | some _, none =>
    let ctx := (s.circ c).ctx
    let s := (s.circEmpty c).circTo c 0 0
    s.modTdm fun t => { t with rt := t.rt.del c, ctxStby := match ctx with
      | some n => t.ctxStby.put c n
      | none => t.ctxStby }
  | some x, some y =>
    if x = y then s
    else ((s.circEmpty c).modCirc c fun x => { x with txSeq := 0, aisOut := true }).circTo c 1 0
  | none, none => s

/-- The generator of an output path: lane, AU-4 and tributary as one number (0 = the AU-4 itself). -/
def genKey (lane au unit : Nat) : Nat := (lane * 16 + au) * 64 + unit

/-- The output slot of a generator, and the generator of an output slot, by the structure. -/
def genSlot (k : Nat) : Nat := k / 1024 * 1008 + k / 64 % 16 * 63 + (k % 64 - 1)

/-- The structure of a client slot on a page. -/
def TdmPage.kindOf (p : TdmPage) (n : Nat) : Nat := slotKind (p.au (slotLane n) (slotAu n)) (slotPos n)

/-- Whether a generator's path goes on over a splice (R166, R175): an AU-4 whose VC-4 the part builds before and after, or a path with the same source
and structure. -/
def sameGen (old new : TdmPage) (k : Nat) : Bool :=
  let n := genSlot k
  let st (p : TdmPage) : Nat := (p.structs.get (k / 64) (0, 0)).1
  if k % 64 = 0 then st old = st new && (st new = 2 || old.source n = new.source n)
  else old.source n = new.source n && old.kindOf n = new.kindOf n

/-- A generator after a splice: it starts anew where its path changed. -/
def PtrTx.splice (old new : TdmPage) (k : Nat) (g : PtrTx) : PtrTx := if sameGen old new k then g else { g with fresh := true }

/-- Generators after a splice. -/
def State.freshGens (s : State) (old new : TdmPage) : State :=
  s.modTdm fun t => { t with gens := t.gens.each fun k g => g.splice old new k }

/-- Whether an AU-4's pointer is interpreted for itself: it is used, and no member of a group. -/
def TdmPage.ownPtr (p : TdmPage) (k : Nat) : Bool :=
  let st := (p.structs.get k (0, 0)).1
  st ≠ 0 && st ≠ 5

/-- The state that an AU-4's own pointer shows on a page: NORM where it has none. -/
def Tdm.ownState (t : Tdm) (p : TdmPage) (k : Nat) : Nat := if p.ownPtr k then ((t.aus.look k).map (·.state)).getD 0 else 0

/-- AU-AIS (6) or AU-LOP (7) as a pointer state. -/
def ptrDefects : List (Nat × Nat) := [(6, 2), (7, 1)]

/-- Pointer interpreters over a splice (R168, R175): an AU-4 that is used on both pages goes on with its own; one that comes into use or leaves it
changes what is reported of it. Those of tributaries go on where their structure stays. -/
def State.freshPtrs (s : State) (old new : TdmPage) : State :=
  let used (p : TdmPage) (k : Nat) : Bool := (p.structs.get k (0, 0)).1 ≠ 0
  let tug (p : TdmPage) (k : Nat) : Bool := (p.structs.get k (0, 0)).1 = 2
  let before := s.tdm
  let s := s.modTdm fun t => { t with
    aus := t.aus.keep fun k _ => used new k
    loms := t.loms.keep fun k _ => tug old k && tug new k
    tus := t.tus.keep fun n _ => decide (old.kindOf n = new.kindOf n) }
  (before.aus.map (·.1)).foldl (fun s k => ptrDefects.foldl (fun s d =>
    let was := decide (before.ownState old k = d.2)
    let on := decide (before.ownState new k = d.2)
    if was = on then s else s.cue 0x4001 (le 4 (3 * 2 ^ 28 + k / 16 * 1008 + k % 16 * 63) ++ [byte d.1, byte (bit on), 0, 0])) s) s

/-- Whether an entity of a path monitor exists on a page: a VC-4 or VC-4-Xc, or a VC-3, VC-12 or VC-11 (R193, PM_CONFIG). -/
def State.pathThere (s : State) (p : TdmPage) (kind n : Nat) : Bool :=
  n < 64512 && slotAu n < s.sdhAus (slotLane n) &&
    (let k := p.kindOf n
     if kind = 3 then slotPos n = 0 && (k = 1 || k = 3 || k = 4 || k = 8 || k = 9)
     else k = 9 || k = 8 && slotPos n % 21 = 0)

/-- What path an entity's first slot begins: 1 a VC-4, 3 a VC-4-4c, 4 a VC-4-16c; 8 a VC-3, 9 a VC-12 or VC-11. -/
def TdmPage.pathOf (p : TdmPage) (kind n : Nat) : Nat :=
  let k := p.kindOf n
  if kind = 3 && k ≥ 8 then 1 else k

/-- Path monitors whose entity is gone, or has become another path, return to the pool (R176). -/
def State.dropMons (s : State) (old : TdmPage) : State :=
  let stays (k : Nat) : Bool :=
    let kind := k / 2 ^ 28
    let n := k % 2 ^ 28
    decide (kind < 3) || s.pathThere s.tdm.act kind n && decide (old.pathOf kind n = s.tdm.act.pathOf kind n)
  s.modTdm fun t => { t with mons := t.mons.keep fun k _ => stays k }

/-- The circuits of two pages, lowest first. -/
def bothCircs (p q : TdmPage) : List Nat :=
  let m : SMap Unit := (p.circs ++ q.circs).foldl (fun m x => m.put x.1 ()) []
  m.map (·.1)

/-- The pages swap (R174 step 2): every output, entry and structure of the standby page is in force, and TSI_SPLICED is raised. `reply`
is what answers the splice, before its cues. -/
def State.swapPages (s : State) (source : Nat) (reply : State → State) : State :=
  let old := s.tdm.act
  let new := s.tdm.stby
  let page := 1 - s.rf engTsi TSI.ACTIVE
  let s := s.modTdm fun t => { t with act := new, stby := old, splicesCold := (t.splicesCold + 1) % 2 ^ 32, splice := none }
  let s := (((s.wf engTsi TSI.ACTIVE page).bump engTsi TSI.SPLICES).wf engTsi TSI.PENDING 0).wf engTsi TSI.COPYING 1
  let s := (reply s).cue 0x4002 (le 4 (s.rf engTsi TSI.MF_STAMP) ++ [byte page, byte source, 0, 0])
  let s := (bothCircs old new).foldl (fun s c => s.spliceCirc c (old.circs.look c) (new.circs.look c)) s
  ((s.freshGens old new).freshPtrs old new).dropMons old

/-- The copy of R174 step 4: both pages are alike, and playout jobs of entries that are gone end. -/
def State.copyDone (s : State) : State :=
  let s := (s.modTdm fun t => { t with stby := t.act }).wf engTsi TSI.COPYING 0
  (s.tdm.ctxStby.map (·.1)).foldl State.dropPlayout s

end Sys2Proof.Machine
end

