-- ==== Sys2Proof/Machine/Sdh.lean ====
section
/-! DEFINITION. SDH framers: framing, overhead, pointers, defects, and the monitors' counting (R160 to R168, R172, R193 to R198). -/
namespace Sys2Proof.Machine

/-! ### Entities and monitors (R193 to R198) -/

def entRs (lane : Nat) : Nat := 1 * 2 ^ 28 + lane
def entMs (lane : Nat) : Nat := 2 * 2 ^ 28 + lane
def entHp (slot : Nat) : Nat := 3 * 2 ^ 28 + slot
def entLp (slot : Nat) : Nat := 4 * 2 ^ 28 + slot

/-- Start of the 15-minute bin at or before a time (R196). -/
def quarterStart (sec : Nat) : Nat := sec / 900 * 900

/-- Start of the day bin at or before a time (R196). -/
def State.dayStart (s : State) (sec : Nat) : Nat :=
  let off := s.rf engPm PMON.DAY_OFFSET
  if sec < off then 0 else (sec - off) / 86400 * 86400 + off

/-- A monitor; one with no bins yet has the present ones, SUSPECT (R196). -/
def State.mon (s : State) (ent : Nat) : PmMon :=
  let m := s.tdm.mons.get ent {}
  if m.bins.isEmpty then
    { m with bins := [{ start := quarterStart s.nowSec, era := m.era }], days := [{ start := s.dayStart s.nowSec, era := m.era }] }
  else m

/-- A monitor changed. -/
def State.setMon (s : State) (ent : Nat) (m : PmMon) : State := s.modTdm fun t => { t with mons := t.mons.put ent m }

/-- The present bins marked SUSPECT. -/
def PmMon.suspect (m : PmMon) : PmMon :=
  let f (bs : List PmBin) : List PmBin := match bs with
    | b :: bs => { b with suspect := true } :: bs
    | [] => []
  { m with bins := f m.bins, days := f m.days }

/-- The monitors that `p` picks were not counting for part of their present bins (R196). -/
def State.pmSuspect (s : State) (p : Nat → Bool) : State :=
  s.modTdm fun t => { t with mons := t.mons.each fun e m => if p e then m.suspect else m }

/-- Lane of an entity. -/
def entLane (ent : Nat) : Nat := if ent / 2 ^ 28 < 3 then ent % 2 ^ 28 else slotLane (ent % 2 ^ 28)

/-- Whether an entity is counted: RS and MS of a lane in SDH mode, and paths with a monitor (R193). -/
def State.counted (s : State) (ent : Nat) : Bool :=
  if ent / 2 ^ 28 < 3 then s.sdhLane (ent % 2 ^ 28) else s.tdm.mons.has ent

/-- Whether an entity's defects are reported (R168, PM_CONFIG). -/
def State.reports (s : State) (ent : Nat) : Bool :=
  if ent / 2 ^ 28 < 3 then (s.tdm.mons.get ent {}).on else s.tdm.mons.has ent

/-- TDM_DEFECT (R168, R200). -/
def State.defectCue (s : State) (ent code : Nat) (on : Bool) : State := s.cue 0x4001 (le 4 ent ++ [byte code, byte (bit on), 0, 0])

/-- TDM_DEFECT where the entity is reported and the defect has changed. -/
def State.defect (s : State) (ent code : Nat) (was on : Bool) : State :=
  if was != on && s.reports ent then s.defectCue ent code on else s

/-- Addition to a bin's counter (R197). -/
def PmBin.add (b : PmBin) (i n : Nat) : PmBin :=
  { b with counts := b.counts.mapIdx fun j c => if j = i then satAdd 0xFFFFFFFF c n else c }

/-- Whether a second lies in a bin or behind it: after a step of part time, bins of the time before it are other bins (R195, R196). -/
def PmBin.holds (b : PmBin) (era sec : Nat) : Bool := b.era = era && decide (b.start ≤ sec)

/-- The bin of a list, newest first, in which a second lies, changed. -/
def addTo (era sec : Nat) (f : PmBin → PmBin) : List PmBin → List PmBin
  | [] => []
  | b :: bs => if b.holds era sec then f b :: bs else b :: addTo era sec f bs

/-- A justification that R164 accepts on a monitored path: PJC or NJC of the present bins (R195). -/
def State.countJust (s : State) (ent : Nat) (just : Int) : State :=
  if just = 0 || !s.counted ent then s
  else
    let m := s.mon ent
    let f (b : PmBin) : PmBin := b.add (if just > 0 then 4 else 5) 1
    s.setMon ent { m with bins := addTo m.era s.nowSec f m.bins, days := addTo m.era s.nowSec f m.days }

/-- One block of an entity: errored or not, with the defect now present (R194). -/
def State.countBlock (s : State) (ent : Nat) (errored defect : Bool) : State :=
  if s.counted ent then
    let m := s.mon ent
    s.setMon ent { m with eb := m.eb + bit errored, defect := m.defect || defect }
  else s

/-! ### Defects (R168, R194) -/

def State.auSt (s : State) (lane au : Nat) : Nat := ((s.tdm.aus.look (auKey lane au)).map (·.state)).getD 0
def State.tuSt (s : State) (slot : Nat) : Nat := ((s.tdm.tus.look slot).map (·.state)).getD 0
def State.lomOf (s : State) (slot : Nat) : Bool := ((s.tdm.loms.look (auKey (slotLane slot) (slotAu slot))).map (·.lom)).getD false

/-- LOS, LOF or MS-AIS of a lane: AIS into the TSI (R168). -/
def State.laneAis (s : State) (lane : Nat) : Bool :=
  s.on (engLane lane) LN.LOS || s.on (engSdh lane) SF.LOF || s.on (engSdh lane) SF.MS_AIS

def State.rsDefect (s : State) (lane : Nat) : Bool :=
  s.on (engLane lane) LN.LOS || s.on (engSdh lane) SF.LOF || s.on (engSdh lane) SF.RS_TIM

def State.msDefect (s : State) (lane : Nat) : Bool := s.rsDefect lane || s.on (engSdh lane) SF.MS_AIS

/-- Defects that a path's monitor holds. -/
def PmMon.bad (m : PmMon) : Bool := m.tim || m.plm || m.uneq

def State.hpDefect (s : State) (slot : Nat) : Bool :=
  s.msDefect (slotLane slot) || s.auSt (slotLane slot) (slotAu slot) ≠ 0 || ((s.tdm.mons.look (entHp slot)).map (·.bad)).getD false

def State.lpDefect (s : State) (slot : Nat) : Bool :=
  s.hpDefect (slot - slotPos slot) || s.tuSt slot ≠ 0 || (s.tdm.act.kindOf slot = 9 && s.lomOf slot) ||
    ((s.tdm.mons.look (entLp slot)).map (·.bad)).getD false

/-- The defect of an entity or of one that carries it (R194). -/
def State.entDefect (s : State) (ent : Nat) : Bool :=
  let n := ent % 2 ^ 28
  match ent / 2 ^ 28 with
  | 1 => s.rsDefect n
  | 2 => s.msDefect n
  | 3 => s.hpDefect n
  | _ => s.lpDefect n

/-- The defects of a lane's entities as they now stand count for the present second (R194). -/
def State.noteDefects (s : State) (lane : Nat) : State :=
  s.modTdm fun t => { t with mons := t.mons.each fun e m => if entLane e = lane then { m with defect := m.defect || s.entDefect e } else m }

/-- Whether a client slot's path enters the TSI as all ones (R168). -/
def State.srcAis (s : State) (slot : Nat) : Bool :=
  let k := s.tdm.act.kindOf slot
  s.laneAis (slotLane slot) || s.auSt (slotLane slot) (slotAu slot) ≠ 0 ||
    (k = 8 || k = 9) && s.tuSt (if k = 8 then slot - slotPos slot % 21 else slot) ≠ 0 || k = 9 && s.lomOf slot

/-! ### Pointers (R164, R165) -/

def ones4 (v : BitVec 4) : Nat := ((List.range 4).filter fun i => v.getLsbD i).length
/-- NDF enabled or disabled: at most one bit from 0b1001 or 0b0110 (R165). -/
def PtrWord.ndfOn (w : PtrWord) : Bool := ones4 (w.ndf ^^^ 0b1001#4) ≤ 1
def PtrWord.ndfOff (w : PtrWord) : Bool := ones4 (w.ndf ^^^ 0b0110#4) ≤ 1

/-- An offset accepted. -/
def PtrRx.accept (x : PtrRx) (off since : Nat) : PtrRx := { x with state := 0, off := off, since := since, newCnt := 0, bad := 0, ndf := 0, ais := 0 }

/-- A word that is invalid, or an offset not yet accepted: `cnt` times this offset in a row (R164, R165). -/
def PtrRx.invalid (x : PtrRx) (off cnt : Nat) (ndfOn : Bool) : PtrRx :=
  let x := { x with newOff := off, newCnt := cnt, bad := x.bad + 1, ndf := if ndfOn then x.ndf + 1 else 0, ais := 0, since := min 3 (x.since + 1) }
  if x.state ≠ 1 && (x.bad ≥ 8 || x.state = 0 && x.ndf ≥ 8) then { x with state := 1, bad := 0, ndf := 0, newCnt := 0 } else x

/-- One pointer word: the machine of R164, and a justification that it accepts. `top` is the highest offset. -/
def PtrRx.step (x : PtrRx) (top : Nat) (w : PtrWord) : PtrRx × Int :=
  let fresh := x.since + 1 ≥ 3
  let offOk := w.off ≤ top
  if w.ones then
    let x := { x with ais := x.ais + 1, bad := 0, ndf := 0, newCnt := 0, since := min 3 (x.since + 1) }
    (if x.state ≠ 2 && x.ais ≥ 3 then { x with state := 2 } else x, 0)
  else if x.state = 0 && w.ndfOff && w.iInv ≥ 8 && w.dInv < 8 && fresh then (x.accept (if x.off ≥ top then 0 else x.off + 1) 0, 1)
  else if x.state = 0 && w.ndfOff && w.dInv ≥ 8 && w.iInv < 8 && fresh then (x.accept (if x.off = 0 then top else x.off - 1) 0, -1)
  else if x.state = 0 && w.ndfOff && w.off = x.off && offOk then (x.accept x.off (min 3 (x.since + 1)), 0)
  else if x.state ≠ 1 && w.ndfOn && offOk then
    let n := x.ndf + 1
    if x.state = 0 && n ≥ 8 then ({ x with state := 1, bad := 0, ndf := 0, newCnt := 0, ais := 0 }, 0)
    else ({ (x.accept w.off 0) with ndf := n }, 0)
  else if w.ndfOff && offOk then
    let n := if x.newCnt > 0 && x.newOff = w.off then x.newCnt + 1 else 1
    if n ≥ 3 then (x.accept w.off 0, 0) else (x.invalid w.off n false, 0)
  else (x.invalid 0 0 w.ndfOn, 0)

/-- The highest offset of a pointer (G.707): AU-4, TU-3, TU-12. -/
def auTop : Nat := 782
def tuTop (kind : Nat) : Nat := if kind = 8 then 764 else 139

/-- An AU-4 pointer, or the head's of a concatenated group (R164, R165): `whole` says that every member carries the concatenation
indication. -/
def State.auPtr (s : State) (lane au : Nat) (w : PtrWord) (whole : Bool) (members : Nat) : State :=
  let x := s.tdm.aus.get (auKey lane au) {}
  let (y, just) := x.step auTop w
  let y := if whole then y else { y with state := 1, newCnt := 0, bad := 0, ndf := 0 }
  let s := s.modTdm fun t => { t with aus := (List.range (members + 1)).foldl (fun m i => m.put (auKey lane (au + i)) y) t.aus }
  let ent := entHp (lane * 1008 + au * 63)
  let tell (s : State) (code : Nat) (was on : Bool) : State := if was != on then s.defectCue ent code on else s
  let s := tell s 6 (x.state = 2) (y.state = 2)
  (tell s 7 (x.state = 1) (y.state = 1)).countJust ent (if whole then just else 0)

/-- The AU-4 pointers of a frame. -/
def State.auPtrs (s : State) (lane : Nat) (ws : List PtrWord) : State :=
  ws.zipIdx.foldl (fun s x =>
    let st := (s.tdm.act.au lane x.2).1
    if st = 1 || st = 2 then s.auPtr lane x.2 x.1 true 0
    else if st = 3 || st = 4 then
      let n := structSpan st - 1
      s.auPtr lane x.2 x.1 (((ws.drop (x.2 + 1)).take n).all (·.conc)) n
    else s) s

/-- A TU pointer. -/
def State.tuPtr (s : State) (slot : Nat) (w : PtrWord) : State :=
  let k := s.tdm.act.kindOf slot
  if k = 9 || k = 8 && slotPos slot % 21 = 0 then
    let x := s.tdm.tus.get slot {}
    let (y, just) := x.step (tuTop k) w
    let s := s.modTdm fun t => { t with tus := t.tus.put slot y }
    let s := (s.defect (entLp slot) 6 (x.state = 2) (y.state = 2)).defect (entLp slot) 7 (x.state = 1) (y.state = 1)
    s.countJust (entLp slot) just
  else s

/-- H4 of a TUG-structured VC-4: LOM after 8 frames out of sequence, cleared after 2 in sequence (R168). -/
def State.h4 (s : State) (lane : Nat) (x : Nat × Bool) : State :=
  if (s.tdm.act.au lane x.1).1 ≠ 2 then s
  else
    let l := s.tdm.loms.get (auKey lane x.1) {}
    let l' := { l with bad := if x.2 then 0 else l.bad + 1, good := if x.2 then l.good + 1 else 0 }
    let lom := if l.lom then decide (l'.good < 2) else decide (l'.bad ≥ 8)
    let s := s.modTdm fun t => { t with loms := t.loms.put (auKey lane x.1) { l' with lom := lom } }
    let base := lane * 1008 + x.1 * 63
    (s.tdm.mons.filter fun m => m.1 / 2 ^ 28 = 4 && slotsMeet (m.1 % 2 ^ 28) 1 base 63 && s.tdm.act.kindOf (m.1 % 2 ^ 28) = 9).foldl
      (fun s m => s.defect m.1 8 l.lom lom) s

/-! ### Path overhead (R163, R168) -/

/-- A defect that is declared after `k` frames in a row and cleared after `k` of the other kind. -/
def latch (on : Bool) (set clear k : Nat) : Bool := if on then decide (clear < k) else decide (set ≥ k)

/-- Frames in a row. -/
def inRow (hit : Bool) (n : Nat) : Nat := if hit then n + 1 else 0

/-- One block's overhead at a path's monitor. -/
def PmMon.path (m : PmMon) (x : PathIn) : PmMon :=
  let m := match x.trace with
    | some t => if t = m.tr then { m with trCnt := min 3 (m.trCnt + 1) } else { m with tr := t, trCnt := 1 }
    | none => m
  let m := { m with
    mis := inRow (x.label ≠ 0 && x.label ≠ m.label) m.mis
    hit := inRow (x.label = m.label) m.hit
    zero := inRow (x.label = 0) m.zero
    live := inRow (x.label ≠ 0) m.live
    rdi1 := inRow x.rdi m.rdi1
    rdi0 := inRow (!x.rdi) m.rdi0 }
  { m with
    tim := m.trace && (if m.trCnt = 3 then m.tr != m.expTrace else m.tim)
    plm := m.label ≠ 0xFF && latch m.plm m.mis m.hit 5
    uneq := latch m.uneq m.zero m.live 5
    rdi := latch m.rdi m.rdi1 m.rdi0 5 }

/-- One path's block in a frame. -/
def State.pathIn (s : State) (x : PathIn) : State :=
  let ent := if x.hp then entHp x.slot else entLp x.slot
  let s := if x.hp && s.tdm.act.kindOf x.slot ≥ 8 then
      s.modTdm fun t => { t with loms := t.loms.upd (auKey (slotLane x.slot) (slotAu x.slot)) {} fun l => { l with b3 := x.errors } }
    else s
  if s.tdm.mons.has ent then
    let m := s.mon ent
    let m' := m.path x
    let s := s.setMon ent m'
    let s := (((s.defect ent 9 m.tim m'.tim).defect ent 0xA m.plm m'.plm).defect ent 0xB m.uneq m'.uneq).defect ent 0xC m.rdi m'.rdi
    s.countBlock ent (x.errors > 0) (s.entDefect ent)
  else s

/-! ### The section (R162, R163, R168) -/

/-- A framer's defect bit set, with EVENTS where it is declared. -/
def State.sfBit (s : State) (lane : Nat) (f : Fld) (i : Nat) (on : Bool) : State :=
  let e := engSdh lane
  let s := if on && !s.on e f then s.wf e SF.EVENTS (s.rf e SF.EVENTS ||| 2 ^ i) else s
  s.wf e f (bit on)

/-- A section defect declared or cleared, and reported. -/
def State.sfDefect (s : State) (lane : Nat) (f : Fld) (i ent code : Nat) (on : Bool) : State :=
  (s.sfBit lane f i on).defect ent code (s.on (engSdh lane) f) on

/-- Four registers as 16 bytes. -/
def State.msg16 (s : State) (e : Nat) (f : Fld) : List Byte := (List.range 4).flatMap fun i => le 4 (s.rf e (f.idx i))

/-- A 16-byte message into four registers. -/
def State.setMsg16 (s : State) (e : Nat) (f : Fld) (b : List Byte) : State :=
  (List.range 4).foldl (fun s i => s.wf e (f.idx i) (fld b (4 * i) 4)) s

/-- J0 (R163). -/
def State.takeJ0 (s : State) (lane : Nat) (j0 : Option (List Byte)) : State :=
  let e := engSdh lane
  let x := s.tdm.lanes.get lane {}
  let s := match j0 with
    | none => s
    | some m =>
      let n := if m = x.j0 then min 3 (x.j0Cnt + 1) else 1
      let s := s.modTdm fun t => { t with lanes := t.lanes.put lane { x with j0 := m, j0Cnt := n, j0Acc := x.j0Acc || n = 3 } }
      if n = 3 then s.setMsg16 e SF.J0_RX m else s
  let acc := (s.tdm.lanes.get lane {}).j0Acc
  s.sfDefect lane SF.RS_TIM 2 (entRs lane) 3 (s.on e SF.J0_CMP && acc && s.msg16 e SF.J0_RX ≠ s.msg16 e SF.J0_EXP)

/-- K2 and S1 (R163, R168). -/
def State.takeK2S1 (s : State) (lane : Nat) (k2 : BitVec 3) (s1 : Nat) : State :=
  let e := engSdh lane
  let x := s.tdm.lanes.get lane {}
  let y := { x with
    ais := inRow (k2 = 7) x.ais
    notAis := inRow (k2 ≠ 7) x.notAis
    rdi := inRow (k2 = 6) x.rdi
    notRdi := inRow (k2 ≠ 6) x.notRdi
    s1 := s1
    s1Cnt := if s1 = x.s1 then min 8 (x.s1Cnt + 1) else 1 }
  let s := s.modTdm fun t => { t with lanes := t.lanes.put lane y }
  let s := if y.s1Cnt ≥ 8 then s.wf e SF.S1_RX s1 else s
  let s := s.sfDefect lane SF.MS_AIS 3 (entMs lane) 4 (latch (s.on e SF.MS_AIS) y.ais y.notAis 3)
  s.sfDefect lane SF.MS_RDI 4 (entMs lane) 5 (latch (s.on e SF.MS_RDI) y.rdi y.notRdi 5)

/-- Framing: OOF after 4 frames in error, cleared after 2 right ones (R162). -/
def State.takeA1A2 (s : State) (lane : Nat) (ok : Bool) : State :=
  let x := s.tdm.lanes.get lane {}
  let y := { x with badA := inRow (!ok) x.badA, goodA := inRow ok x.goodA }
  let s := s.modTdm fun t => { t with lanes := t.lanes.put lane y }
  let oof := s.on (engSdh lane) SF.OOF
  s.sfBit lane SF.OOF 0 (if oof then decide (y.goodA < 2) else decide (y.badA ≥ 4))

/-- Whether a framer passes data: ON, awake, its lane in SDH mode (R161). -/
def State.sdhWorks (s : State) (lane : Nat) : Bool := s.works (engSdh lane) && s.sdhLane lane

/-- The overhead of a frame that is in frame. -/
def State.sdhFrame (s : State) (lane : Nat) (f : SdhIn) : State :=
  let e := engSdh lane
  let s := s.takeJ0 lane f.j0
  let s := ((s.bumpN e SF.FR_B1 f.b1).bumpN e SF.FR_B2 f.b2).bumpN e SF.FR_MS_REI f.rei
  let s := s.modTdm fun t => { t with lanes := t.lanes.upd lane {} fun x => { x with b2Prev := f.b2 } }
  let s := s.takeK2S1 lane f.k2 f.s1.toNat
  let s := s.auPtrs lane (f.aus.take (s.sdhAus lane))
  let s := f.h4.foldl (fun s x => s.h4 lane x) s
  let s := (f.tus.filter fun x => slotLane x.1 = lane).foldl (fun s x => s.tuPtr x.1 x.2) s
  let s := (f.paths.filter fun x => slotLane x.slot = lane).foldl State.pathIn s
  let s := s.countBlock (entRs lane) (f.b1 > 0) (s.rsDefect lane)
  s.countBlock (entMs lane) (f.b2 > 0) (s.msDefect lane)

/-- A frame whose overhead is not taken has no B2 violations to send back (R163). -/
def State.sdhBlind (s : State) (lane : Nat) : State := s.modTdm fun t => { t with lanes := t.lanes.upd lane {} fun x => { x with b2Prev := 0 } }

/-- SDH_FRAME_RX (R162 to R165, R168). Framing is judged under LOS too; nothing else of a frame is taken under LOS or OOF. A far-end loop sends the
frame back (R368). -/
def execSdhFrameRx (lane : Fin 64) (f : SdhIn) (s : State) : Host.Outcome State Fault Refusal :=
  let l := lane.val
  if s.sdhWorks l then
    let s := if s.rf (engLane l) LN.LOOP = 3 then s.emit (.sdhEcho l f) else s
    let s := s.takeA1A2 l f.a1a2
    .next ((if s.on (engLane l) LN.LOS || s.on (engSdh l) SF.OOF then s.sdhBlind l else s.sdhFrame l f).noteDefects l)
  else .next s

/-- LOF_TIMER (R162): OOF, or the in-frame state, has lasted 3 ms. -/
def execLofTimer (lane : Fin 64) (s : State) : Host.Outcome State Fault Refusal :=
  let l := lane.val
  if s.sdhWorks l then .next ((s.sfDefect l SF.LOF 1 (entRs l) 2 (s.on (engSdh l) SF.OOF)).noteDefects l) else .next s

/-- LOS of a lane in SDH mode reported (R168). -/
def State.sdhLos (s : State) (lane : Nat) (on : Bool) : State :=
  if s.sdhLane lane then (s.defect (entRs lane) 1 (!on) on).noteDefects lane else s

/-- A lane's SDH receivers and generators begin anew. -/
def State.clearSdh (s : State) (l : Nat) : State :=
  (s.modTdm fun t => { t with lanes := t.lanes.del l, aus := t.aus.keep fun k _ => k / 16 ≠ l, loms := t.loms.keep fun k _ => k / 16 ≠ l,
                              tus := t.tus.keep fun k _ => slotLane k ≠ l, gens := t.gens.keep fun k _ => k / 1024 ≠ l }).pmSuspect
    fun x => entLane x = l

/-! ### Transmit (R163, R166, R167, R172) -/

/-- The circuit of the active page that a circuit slot belongs to. -/
def State.circAt (s : State) (n : Nat) : Option (Nat × Circ) :=
  s.tdm.act.circs.find? fun c => slotsMeet (circSlot c.1) (sizeSlots c.2.size) n 1

/-- What an output slot's source feeds it (R168, R172, R189). -/
def State.outVc (s : State) (slot : Nat) : VcOut :=
  match s.tdm.act.source slot with
  | none => .unequipped
  | some n =>
    if n < 64512 then (if s.srcAis n then .ais else .carried n)
    else
      match s.circAt n with
      | none => .zeros
      | some c =>
        let r := s.circ c.1
        if r.state = 0 then .zeros else if r.state ≠ 2 || r.aisOut then .ais else .carried n

/-- Where the structure pointer of the packet that an output's circuit plays places the VC (R182). -/
def State.outSp (s : State) (slot : Nat) : Option Nat :=
  match s.tdm.act.source slot with
  | some n => if n < 64512 then none else (s.circAt n).bind fun c => (s.circ c.1).sp
  | none => none

/-- The kind of pointer that a path sent needs: its highest offset, or none where the path does not exist. -/
def State.outTop (s : State) (lane : Nat) (p : PathOut) : Option Nat :=
  let slot := genSlot (genKey lane p.au.val p.unit.val)
  if p.au.val ≥ s.sdhAus lane then none
  else if p.unit.val = 0 then some auTop
  else
    let k := s.tdm.act.kindOf slot
    if k = 9 || k = 8 && slotPos slot % 21 = 0 then some (tuTop k) else none

/-- A pointer sent: the generator, what it sends, and its justification (R166). `new` is the value of a new pointer. -/
def PtrTx.send (g : PtrTx) (top new : Nat) (ais : Bool) (fill : StoreFill) : PtrTx × PtrOut × Int :=
  let spaced (n : Nat) : Bool := top = 139 || decide (n ≥ 4)
  let g := { g with sincePos := min 4 (g.sincePos + 1), sinceNeg := min 4 (g.sinceNeg + 1) }
  if ais then ({ g with ais := true }, .ais, 0)
  else if g.fresh || g.ais || fill = .slip then ({ g with off := new, fresh := false, ais := false }, .offset new true, 0)
  else if fill = .above && spaced g.sinceNeg then
    let off := if g.off = 0 then top else g.off - 1
    ({ g with off := off, sinceNeg := 0 }, .offset off false, -1)
  else if fill = .below && spaced g.sincePos then
    let off := if g.off ≥ top then 0 else g.off + 1
    ({ g with off := off, sincePos := 0 }, .offset off false, 1)
  else (g, .offset g.off false, 0)

/-- The phase of a frame sent in the TU multiframe (R163, R174): 125 µs frames since the latest boundary, modulo 4. -/
def State.mfPhase (s : State) : Nat := (s.short + 2 ^ 32 - s.rf engTsi TSI.MF_STAMP) % 2 ^ 32 / 125000 % 4

/-- The path overhead of a VC-4 that the part builds (R163). What B3 is computed over, the model does not hold: a free value (log entry 142). -/
def State.buildPath (s : State) (lane au : Nat) : State :=
  let (b3, s) := s.draw 8
  s.emit (.sdhPath lane (au + 1)
    { j1 := s.msg16 (engSdh lane) SF.J1_TX
      b3 := b3
      rei := ((s.tdm.loms.look (auKey lane au)).map (·.b3)).getD 0
      rdi := s.laneAis lane || s.auSt lane au ≠ 0
      h4 := s.mfPhase })

/-- One path of a frame sent. -/
def State.sendPath (s : State) (lane : Nat) (p : PathOut) : State :=
  match s.outTop lane p with
  | none => s
  | some top =>
    let e := engSdh lane
    let key := genKey lane p.au.val p.unit.val
    let st := (s.tdm.act.au lane p.au.val).1
    if p.unit.val = 0 && st = 5 then
      let head := s.outVc (genSlot (genKey lane (s.tdm.act.headOf lane p.au.val) 0))
      s.emit (.sdh lane (p.au.val + 1) 0 (if head = .ais then .ais else .conc) 0 .member)
    else
      let vc : VcOut := if p.unit.val = 0 && st = 2 then .built else s.outVc (genSlot key)
      let (v, s) := s.draw 10
      let (g, ptr, just) := (s.tdm.gens.get key {}).send top (Config.newPointer (s.outSp (genSlot key)) v % (top + 1)) (vc = .ais) p.fill
      let s := s.modTdm fun t => { t with gens := t.gens.put key g }
      let s := if p.fill = .slip && vc ≠ .ais then s.bump e SF.FR_ES_SLIP else s
      let s := if just > 0 then s.bump e SF.FR_PJ_GEN else if just < 0 then s.bump e SF.FR_NJ_GEN else s
      let s := s.emit (.sdh lane (p.au.val + 1) p.unit.val ptr just vc)
      if vc = .built then s.buildPath lane p.au.val else s

/-- Whether what a framer sends reaches the line: no squelch (R150), no near-end serial or far-end loop (R368). -/
def State.lineSends (s : State) (l : Nat) : Bool :=
  !s.squelched l && s.rf (engLane l) LN.LOOP ≠ 1 && s.rf (engLane l) LN.LOOP ≠ 3

/-- The section overhead of a frame sent (R163). What B1 and B2 are computed over, the model does not hold: free values (log entry 142). -/
def State.sendSection (s : State) (lane : Nat) : State :=
  let e := engSdh lane
  let (b1, s) := s.draw 8
  let (b2, s) := s.drawBytes (3 * s.sdhAus lane)
  s.emit (.sdhSection lane
    { j0 := s.msg16 e SF.J0_TX
      b1 := b1
      b2 := b2
      k2 := if s.laneAis lane then 0b110 else 0
      s1 := s.rf e SF.S1_TX
      m1 := (s.tdm.lanes.get lane {}).b2Prev })

/-- SDH_FRAME_TX (R163, R166). -/
def execSdhFrameTx (lane : Fin 64) (paths : List PathOut) (s : State) : Host.Outcome State Fault Refusal :=
  let l := lane.val
  if s.sdhWorks l then
    let s' := s.sendSection l
    let s' := paths.foldl (fun s p => s.sendPath l p) s'
    .next (if s.lineSends l then s' else { s' with emitted := s.emitted })
  else .next s

end Sys2Proof.Machine
end

