-- ==== Sys2Proof/Machine/Circuits.lean ====
section
/-! DEFINITION. Circuits: packets formed and sealed, packets received, playout (R179 to R192). -/
namespace Sys2Proof.Machine

/-! ### Packets formed (R181 to R183) -/

/-- The header or control word of a circuit packet (R182): the CEP header of RFC 4842, or the control word of RFC 4553. -/
def circHeader (mode : Nat) (l r : Bool) (seq sp : Nat) : Nat :=
  if mode = 0 then (Config.cepHeader l r false false seq sp).toNat else bit l * 2 ^ 27 + bit r * 2 ^ 26 + seq % 2 ^ 16

/-- L, R and the sequence number of a received header or control word, and under CEP the structure pointer (R182). -/
def circRead (mode : Nat) (w : Nat) : Bool × Bool × Nat × Option Nat :=
  if mode = 0 then
    let x := Config.cepRead (BitVec.ofNat 32 w)
    (x.1, x.2.1, x.2.2.1.toNat, some x.2.2.2)
  else (bitOf w 27, bitOf w 26, w % 2 ^ 16, none)

/-- A circuit packet before sealing, FCS excluded (R181). -/
def circFrame (x : Circ) (word : Nat) (payload : List Byte) : List Byte :=
  x.dst ++ x.src ++ (if x.tci = 0 then [] else [0x81, 0x00] ++ be 2 x.tci) ++ [0x88, 0xD8] ++
    be 4 (x.txEcid * 4096 + 0x102) ++ be 4 word ++ payload

/-- The source path of a circuit on the active page: the client slot that feeds its circuit slot. -/
def State.circSource (s : State) (c : Nat) : Option Nat := (s.tdm.act.conns.look (circSlot c)).map (·.2)

/-- Whether an SA is EXPIRED. -/
def State.saExpired (s : State) (n : Nat) : Bool := ((s.cry.sas.look n).map (·.expired)).getD false

/-- The frame overhead of an SA's format (R343). -/
def State.saOverhead (s : State) (n : Nat) : Nat := ((s.cry.sas.look n).map fun x => x.fmt.overhead).getD 0

/-- A packet formed goes to sealing: the queue's limit, red pages, a context, its place in the queue (R183, R352). -/
def State.sealCirc (s : State) (c : Nat) (x : Circ) (frame : List Byte) : State :=
  let len := frameCost frame.length (s.saOverhead x.txSa)
  match s.underLimit x.queue len with
  | (false, s) => s
  | (true, s) =>
    match s.allocPages true frame with
    | none => s.bump engPack PK.PK_NOCTX
    | some (pages, s1) =>
      let d : CJob :=
        { isSeal := true, cls := 3, sa := x.txSa, src := pages, len := frame.length, hdr := s.hdrAt x.txSa frame,
          dest := .queue x.queue, prio := 14, circuit := some c }
      match s1.newCrypto d with
      | (.error _, s2) => (s2.freePages pages).bump engPack PK.PK_NOCTX
      | (.ok n, s2) =>
        let f : QFrame := { pages := [], bytes := frame.length, len := len, sealed := false, job := n, circuit := true }
        (s2.enqueue x.queue f).modCirc c fun r => { r with tx := satAdd 0xFFFFFFFF r.tx 1 }

/-- CIRCUIT_PACKET_FORM (R182, R183): a payload is complete; `pointer` is the offset of J1 or V5 in it. -/
def execCircuitPacketForm (circuit : Fin 32256) (payload : List Byte) (pointer : Fin 4096) (s : State) : Host.Outcome State Fault Refusal :=
  let c := circuit.val
  match s.tdm.act.circs.look c, s.circSource c with
  | some x, some src =>
    if !s.works engPack || payload.length ≠ x.payload then .next s
    else
      let l := s.srcAis src
      let r := s.circ c
      let bytes := if l then List.replicate x.payload 0xFF else payload
      let frame := circFrame x (circHeader x.mode l (r.state = 3) r.txSeq pointer.val) bytes
      let s := (s.modCirc c fun r => { r with txSeq := (r.txSeq + 1) % 2 ^ 16, lTx := l }).bump engPack PK.PK_PKTS
      if s.saExpired x.txSa then
        .next ((s.bump engPack PK.PK_EXPIRED).modCirc c fun r => { r with expiredDrop := satAdd 0xFFFFFFFF r.expiredDrop 1 })
      else .next (s.sealCirc c x frame)
  | _, _ => .next s

/-! ### Playout times (R180, R185) -/

/-- The packet period in 1/256 ns. -/
def Circ.period (x : Circ) : Nat := (x.payload * 256000000 + sizeRate x.size / 2) / sizeRate x.size

/-- playout(s) as a tick (R185). -/
def playoutAt (x : Circ) (r : CircRt) (seq : Nat) : Nat :=
  let d := signed 16 ((seq + 2 ^ 16 - r.s1 % 2 ^ 16) % 2 ^ 16)
  let t : Int := r.t1 + x.depth * 125 * 256000 + d * x.period
  unsigned 32 ((t + 128000) / 256000)

/-- The reference moves with the packet played, so that a sequence distance stays small. -/
def CircRt.rebase (r : CircRt) (x : Circ) (seq : Nat) : CircRt :=
  let n := (seq + 2 ^ 16 - r.s1 % 2 ^ 16) % 2 ^ 16
  if 2 ^ 14 ≤ n && n < 2 ^ 15 then { r with s1 := seq, t1 := r.t1 + n * x.period } else r

/-- The playout job waits for the next playout time (R187). -/
def State.rearmPlayout (s : State) (c : Nat) (x : Circ) : State :=
  let r := s.circ c
  s.rearm r.ctx (s.dueTick (playoutAt x r r.next))

/-- The playout jobs that an engine stop or a reset of the dispatcher has cancelled are created anew, for every entry that a page holds (R187). -/
def State.retakePlayout (s : State) : State :=
  (bothCircs s.tdm.act s.tdm.stby).foldl (fun s c =>
    let s := (s.playoutJob c).2
    match s.tdm.act.circs.look c with
    | some x => if (s.circ c).state = 2 then s.rearmPlayout c x else s
    | none => s) s

/-! ### Packets received (R184 to R188) -/

/-- A circuit's counter raised. -/
def CircRt.held1 (r : CircRt) : CircRt := { r with rx := satAdd 0xFFFFFFFF r.rx 1 }

/-- A packet of a run whose circuit acquires (R185, R186, R188). -/
def State.acquire (s : State) (c : Nat) (x : Circ) (seq : Nat) (p : HeldPkt) : State :=
  let r := s.circ c
  let run := match r.run.getLast? with
    | some (q, _) => if seq = (q + 1) % 2 ^ 16 then r.run ++ [(seq, p)] else [(seq, p)]
    | none => [(seq, p)]
  if run.length < x.lopsClr then s.modCirc c fun r => { r with run := run }
  else
    let r' : CircRt := { r with run := [], s1 := seq, t1 := s.disp.tick * 256000, filled := 0, earlyRun := 0, top := some seq, held := [] }
    let live := run.filter fun q => ahead 32 (playoutAt x r' q.1) s.disp.tick
    let first := ((live.head?).map (·.1)).getD seq
    let r'' := { r' with
      next := first
      held := live.foldl (fun m q => m.put q.1 q.2) []
      rx := satAdd 0xFFFFFFFF r'.rx live.length
      lastHeld := some (seq, s.disp.tick) }
    let s := ((s.modCirc c fun _ => r'').bumpN engPlay PO.PO_PKTS live.length).circTo c 2 1
    s.rearmPlayout c x

/-- A packet of a circuit that plays (R186, R188). -/
def State.place (s : State) (c : Nat) (x : Circ) (seq : Nat) (p : HeldPkt) : State :=
  let r := s.circ c
  let at_ := playoutAt x r seq
  let re := match r.top with
    | some t => ahead 16 t seq
    | none => false
  let top := if re then r.top else some seq
  let up (f : CircRt → CircRt) : State := s.modCirc c fun r => { f r with top := top }
  if !ahead 32 at_ s.disp.tick then up fun r => { r with late := satAdd 0xFFFFFFFF r.late 1, earlyRun := 0 }
  else if r.held.has seq then up fun r => { r with dup := satAdd 0xFFFFFFFF r.dup 1, earlyRun := 0 }
  else if (at_ + 2 ^ 32 - s.disp.tick) % 2 ^ 32 > x.depth * 250 then
    let s := up fun r => { r with early := satAdd 0xFFFFFFFF r.early 1, earlyRun := r.earlyRun + 1 }
    if r.earlyRun + 1 ≥ 8 then
      ((s.circEmpty c).modCirc c fun r => { r with reprime := satAdd 0xFFFFFFFF r.reprime 1, aisOut := true }).circTo c 1 3
    else s
  else
    (up fun r => { r.held1 with
      held := r.held.put seq p
      earlyRun := 0
      reordered := if re then satAdd 0xFFFFFFFF r.reordered 1 else r.reordered
      lastHeld := some (seq, s.disp.tick) }).bump engPlay PO.PO_PKTS

/-- The circuit on the active page that a packet belongs to, with a connection from its circuit slot (R184). -/
def State.circFor (s : State) (sa ecid : Nat) : Option (Nat × Circ) :=
  match s.tdm.act.circs.find? fun c => c.2.rxSa = sa && c.2.rxEcid = ecid with
  | some c => if s.tdm.act.conns.any fun n => n.2.2 = circSlot c.1 then some c else none
  | none => none

/-- A frame of EtherType 0x88D8 that an SA has opened (R184). -/
def State.circPacket (s : State) (sa : Nat) (b : List Byte) : State :=
  let t := typeOff b + 2
  match s.circFor sa (fbe b t 4 / 4096) with
  | none => s.bump engPlay PO.PO_UNKNOWN
  | some (c, x) =>
    if b.length ≠ t + 8 + x.payload then s.bump engPlay PO.PO_UNKNOWN
    else
      let (l, r, seq, sp) := circRead x.mode (fbe b (t + 4) 4)
      let s := s.modCirc c fun y => { y with lRx := l, remote := r }
      let p : HeldPkt := { bytes := b.drop (t + 8), lBit := l, tick := s.disp.tick, sp := sp }
      match (s.circ c).state with
      | 1 => s.acquire c x seq p
      | 3 => s.acquire c x seq p
      | 2 => s.place c x seq p
      | _ => s

/-- CIRCUIT_PACKET_RX (R184, R186): the oldest opened circuit packet. -/
def execCircuitPacketRx (s : State) : Host.Outcome State Fault Refusal :=
  match s.tdm.rx with
  | [] => .next s
  | i :: is =>
    if !s.works engPlay then .next s
    else
      let b := s.readPages i.pages i.len
      .next (((s.modTdm fun t => { t with rx := is }).freePages i.pages).circPacket i.sa b)

/-! ### Playout (R185, R188, R189) -/

/-- The fill, and what AIS plays as. -/
def aisBytes (x : Circ) : List Byte := List.replicate x.payload 0xFF

/-- A playout tick of a circuit that plays. -/
def State.playout (s : State) (c : Nat) (x : Circ) : State :=
  let r := s.circ c
  let next (r : CircRt) : CircRt := { (r.rebase x r.next) with next := (r.next + 1) % 2 ^ 16, held := r.held.del r.next }
  match r.held.look r.next with
  | some p =>
    let s := s.modCirc c fun r => { next r with filled := 0, aisOut := p.lBit, sp := p.sp }
    (s.emit (.play c (if p.lBit then aisBytes x else p.bytes))).rearmPlayout c x
  | none =>
    let s := s.modCirc c fun r =>
      { next r with lost := satAdd 0xFFFFFFFF r.lost 1, filled := r.filled + 1, aisOut := decide (x.mode = 0) }
    let s := (s.bump engPlay PO.PO_FILLED).emit (.play c (aisBytes x))
    if r.filled + 1 ≥ x.lopsSet then ((s.circEmpty c).modCirc c fun r => { r with aisOut := true }).circTo c 3 2
    else s.rearmPlayout c x

/-- PLAYOUT_TICK (R187, R189): the circuit's playout job is served. -/
def execPlayoutTick (circuit : Fin 32256) (s : State) : Host.Outcome State Fault Refusal :=
  let c := circuit.val
  match s.tdm.act.circs.look c, (s.circ c).ctx with
  | some x, some n =>
    if ((s.disp.jobs.look n).map (·.state)) = some .running && s.works engPlay then
      let r := s.circ c
      if r.state ≠ 2 then .next (s.parkJob (some n))
      else if ahead 32 (playoutAt x r r.next) s.disp.tick then .next (s.rearmPlayout c x)
      else .next (s.playout c x)
    else .next s
  | _, _ => .next s

/-! ### CIRCUIT_QUERY -/

/-- Microseconds between the arrival and the playout time of the newest packet held. -/
def State.circLead (s : State) (c : Nat) (x : Circ) : Nat :=
  let r := s.circ c
  match r.lastHeld with
  | some (seq, tick) => if r.held.has seq then (playoutAt x r seq + 2 ^ 32 - tick % 2 ^ 32) % 2 ^ 32 else 0
  | none => 0

/-- CIRCUIT_QUERY's reply. -/
def State.circReport (s : State) (c : Nat) (x : Circ) : List Byte :=
  let r := s.circ c
  let flags := bit r.lRx + 2 * bit r.remote + 4 * bit r.lTx + 8 * bit (decide (r.state = 3)) + 16 * bit (s.saExpired x.txSa)
  le 2 c ++ [byte r.state, byte flags] ++ le 4 (s.circLead c x) ++ le 4 r.tx ++ le 4 r.rx ++ le 4 r.lost ++ le 4 r.late ++ le 4 r.early ++
    le 4 r.dup ++ le 4 r.reordered ++ le 4 r.reprime ++ le 4 r.expiredDrop ++ zeros 4

/-- A circuit's counters cleared (R191). -/
def CircRt.clear (r : CircRt) : CircRt :=
  { r with tx := 0, rx := 0, lost := 0, late := 0, early := 0, dup := 0, reordered := 0, reprime := 0, expiredDrop := 0 }

def circuitQueryCmd : Cmd where
  op := 0x0405
  len := fun n => n = 4
  domains := fun _ _ => [10]
  params := fun _ r _ => checks [param (fld r.payload 0 2 ≤ 32255) 0, param (fld r.payload 2 1 < 2) 2, resv r.payload 3 1]
  act := fun _ r s =>
    let c := fld r.payload 0 2
    match s.tdm.act.circs.look c with
    | none => .say s St.notReady
    | some x =>
      let s' := if fld r.payload 2 1 = 1 then s.modCirc c CircRt.clear else s
      { st := s', payload := s.circReport c x }

/-- CIRCUIT_QUERY (R191). -/
def execCircuitQuery (r : Req) (s : State) : Host.Outcome State Fault Refusal := .next (runCmd circuitQueryCmd r s)

end Sys2Proof.Machine
end

