-- ==== Sys2Proof/Machine/Pm.lean ====
section
/-! DEFINITION. Performance monitoring: seconds, bins, thresholds, and its commands (R193 to R198). -/
namespace Sys2Proof.Machine

/-! ### Seconds (R194, R195) -/

/-- Errored blocks that make an SES of an entity (R194). -/
def State.sesLimit (s : State) (ent : Nat) : Nat :=
  if ent / 2 ^ 28 = 4 && s.tdm.act.kindOf (ent % 2 ^ 28) = 9 then 600 else 2400

/-- Whether a second is an SES. -/
def PmSec.ses (x : PmSec) (limit : Nat) : Bool := x.defect || decide (x.eb ≥ limit)

/-- What a classified second adds: (parameter, count) with 0 ES, 1 SES, 2 BBE, 3 UAS (R194). -/
def PmSec.adds (x : PmSec) (limit : Nat) (unavail : Bool) : List (Nat × Nat) :=
  if unavail then [(3, 1)]
  else
    (if x.defect || x.eb > 0 then [(0, 1)] else []) ++ (if x.ses limit then [(1, 1)] else if x.eb > 0 then [(2, x.eb)] else [])

/-- Parameters whose threshold a bin has newly reached (R198). -/
def PmMon.reached (m : PmMon) (b : PmBin) : List Nat :=
  (List.range 4).filter fun i =>
    let t := m.tcas.getD i 0
    t ≠ 0 && b.counts.getD i 0 ≥ t && !b.tca.contains i

/-- PM_TCA (R198, R200). -/
def State.tcaCue (s : State) (ent start i : Nat) : State :=
  (s.cue 0x4004 (le 4 ent ++ [byte i, 0, 0, 0] ++ le 6 start ++ [0, 0])).bump engPm PMON.PM_TCA_CNT

/-- A second's counts added to the bins of its time, with the thresholds that its 15-minute bin reaches. -/
def State.addSecond (s : State) (ent : Nat) (m : PmMon) (x : PmSec) (unavail : Bool) : State :=
  let f (b : PmBin) : PmBin := { (x.adds (s.sesLimit ent) unavail).foldl (fun b a => b.add a.1 a.2) b with unavail := unavail }
  let bins := addTo x.era x.sec f m.bins
  let hit := (bins.find? fun b => b.holds x.era x.sec).map fun b => (b.start, if m.on then m.reached b else [])
  let mark (b : PmBin) : PmBin := { b with tca := b.tca ++ m.reached b }
  let m' := { m with bins := if m.on then addTo x.era x.sec mark bins else bins, days := addTo x.era x.sec f m.days }
  let s := s.setMon ent m'
  match hit with
  | some (start, is) => is.foldl (fun s i => s.tcaCue ent start i) s
  | none => s

/-- An entity's second ends; the second that ended 10 s ago is classified (R195). -/
def State.endSecond (s : State) (sec ent : Nat) : State :=
  let m := s.mon ent
  let secs := m.secs ++ [{ sec := sec, era := m.era, eb := m.eb, defect := m.defect || s.entDefect ent }]
  let m := { m with eb := 0, defect := false, secs := secs }
  match secs with
  | x :: rest =>
    if rest.length < 10 then s.setMon ent m
    else
      let limit := s.sesLimit ent
      let ten := secs.take 10
      let unavail := if m.unavail then !(ten.all fun y => !y.ses limit) else ten.all fun y => y.ses limit
      s.addSecond ent { m with unavail := unavail, secs := rest } x unavail
  | [] => s.setMon ent m

/-- The entities counted now: RS and MS of every lane in SDH mode, and every path monitor. -/
def State.entities (s : State) : List Nat :=
  (((List.range 64).filter fun l => s.sdhLane l).flatMap fun l => [entRs l, entMs l]) ++
    ((s.tdm.mons.filter fun m => m.1 / 2 ^ 28 ≥ 3).map (·.1))

/-- Whether the lane and the framer of an entity count now (R196). -/
def State.counting (s : State) (ent : Nat) : Bool :=
  let l := entLane ent
  s.works engPm && s.works (engSdh l) && s.works (engLane l)

/-- PM_SECOND_CLASSIFY (R195): second `sec` of part time has ended. The bins of what did not count in it are SUSPECT. -/
def execPmSecondClassify (sec : Nat) (s : State) : Host.Outcome State Fault Refusal :=
  let s := s.pmSuspect fun e => !s.counting e
  if s.works engPm then .next (s.entities.foldl (fun s e => s.endSecond sec e) s) else .next s

/-! ### Bins (R196) -/

/-- A new bin in front of a history of `n`. -/
def newBin (n era start : Nat) (suspect : Bool) (bs : List PmBin) : List PmBin := ({ start := start, era := era, suspect := suspect } :: bs).take n

/-- Whether a bin that begins at `start` stands at the head of a history already. -/
def begunBin (era start : Nat) (bs : List PmBin) : Bool := match bs with
  | b :: _ => b.era = era && decide (start ≤ b.start)
  | [] => false

/-- PM_BIN_BOUNDARY (R196): a 15-minute or day bin begins at `start`, the boundary that part time has reached; another start, and a bin that has begun, is
no boundary. A bin passed through during a slew is SUSPECT (R395), as is one whose entity does not count. -/
def execPmBinBoundary (start : Nat) (day : Bool) (s : State) : Host.Outcome State Fault Refusal :=
  let due := if day then s.dayStart s.nowSec else quarterStart s.nowSec
  if start ≠ due then .next s
  else .next (s.entities.foldl (fun s e =>
    let m := s.mon e
    let bad := !s.counting e || decide (s.clk.slewLeft > 0) || decide ((start : Int) * 1000000000 ≤ s.clk.barredNs)
    if begunBin m.era start (if day then m.days else m.bins) then s.setMon e m
    else if day then s.setMon e { m with days := newBin 8 m.era start bad m.days }
    else s.setMon e { m with bins := newBin 97 m.era start bad m.bins }) s)

/-- A step of part time (R196): the present bins close SUSPECT, and new ones begin at the boundaries at or before the new time, SUSPECT. -/
def State.pmStep (s : State) : State :=
  let sec := s.nowSec
  s.modTdm fun t => { t with mons := t.mons.each fun _ m =>
    let m := m.suspect
    let era := m.era + 1
    { m with era := era, bins := newBin 97 era (quarterStart sec) true m.bins, days := newBin 8 era (s.dayStart sec) true m.days } }

/-! ### Commands -/

/-- Whether ENTITY names a lane in SDH mode, or the first slot of a path of its kind on the active page. -/
def State.entityOk (s : State) (ent : Nat) : Bool :=
  let k := ent / 2 ^ 28
  let n := ent % 2 ^ 28
  if k = 1 || k = 2 then n < 64 && s.sdhLane n
  else if k = 3 || k = 4 then s.pathThere s.tdm.act k n
  else false

/-- The settings of a PM_CONFIG payload in a monitor. -/
def PmMon.config (m : PmMon) (ent : Nat) (p : List Byte) : PmMon :=
  let t := [fld p 8 2, fld p 10 2, fld p 16 4, fld p 12 2]
  if ent / 2 ^ 28 < 3 then { m with on := true, tcas := t }
  else { m with trace := fld p 5 1 = 1, label := fld p 6 1, tcas := t, expTrace := part p 20 16 }

/-- PM_CONFIG once its checks have passed. -/
def pmConfig (ent : Nat) (p : List Byte) (s : State) : Act :=
  let line := ent / 2 ^ 28 < 3
  let m := s.mon ent
  if fld p 4 1 = 0 then
    if line then
      let m' := { m with on := false, tcas := [0, 0, 0, 0] }
      if m' = m then .say s St.noChange else .say (s.setMon ent m') St.ok
    else if s.tdm.mons.has ent then .say (s.modTdm fun t => { t with mons := t.mons.del ent }) St.ok
    else .say s St.noChange
  else if !line && !s.tdm.mons.has ent then
    if (s.tdm.mons.filter fun x => x.1 / 2 ^ 28 ≥ 3).length ≥ 64512 then .say s St.exhausted
    else .say (s.setMon ent (m.config ent p)) St.ok
  else if m.config ent p = m then .say s St.noChange
  else .say (s.setMon ent (m.config ent p)) St.ok

def pmConfigCmd : Cmd where
  op := 0x0406
  len := fun n => n = 36
  domains := fun _ _ => [10]
  params := fun _ r s =>
    let p := r.payload
    let k := fld p 0 4 / 2 ^ 28
    checks
      [param (1 ≤ k && k ≤ 4 && fld p 0 4 % 2 ^ 28 < 2 ^ 17 && s.entityOk (fld p 0 4)) 0, param (fld p 4 1 ≤ 1) 4,
       param (k < 3 || fld p 5 1 ≤ 1) 5, resv p 7 1, resv p 14 2]
  act := fun _ r s => pmConfig (fld r.payload 0 4) r.payload s

/-- PM_CONFIG (R193, R198). -/
def execPmConfig (r : Req) (s : State) : Host.Outcome State Fault Refusal := .next (runCmd pmConfigCmd r s)

/-- The end of bin `i` of a history: the next one's start, or its own length. -/
def binEnd (bs : List PmBin) (i len : Nat) : Nat :=
  match i, bs[i]? with
  | 0, some b => b.start + len
  | n + 1, some _ => ((bs[n]?).map (·.start)).getD 0
  | _, none => 0

/-- One record of PM_READ. -/
def State.pmRecord (s : State) (bs : List PmBin) (i len : Nat) : List Byte :=
  match bs[i]? with
  | none => zeros 32
  | some b =>
    let opn := decide (s.nowSec < binEnd bs i len + 10)
    le 6 b.start ++ [byte (1 + 2 * bit b.suspect + 4 * bit opn + 8 * bit b.unavail), 0] ++ b.counts.flatMap fun c => le 4 c

def pmReadCmd : Cmd where
  op := 0x0407
  len := fun n => n = 8
  domains := fun _ _ => [10]
  params := fun _ r s =>
    let p := r.payload
    let most := if fld p 4 1 = 0 then 97 else 8
    checks
      [param (s.entityOk (fld p 0 4)) 0, param (fld p 4 1 ≤ 1) 4, param (fld p 5 1 + fld p 6 1 ≤ most) 5, resv p 7 1]
  act := fun _ r s =>
    let p := r.payload
    let ent := fld p 0 4
    if !s.counted ent then .say s St.notReady
    else
      let m := s.mon ent
      let bs := if fld p 4 1 = 0 then m.bins else m.days
      let len := if fld p 4 1 = 0 then 900 else 86400
      { st := s, payload := (List.range (fld p 6 1)).flatMap fun i => s.pmRecord bs (fld p 5 1 + i) len }

/-- PM_READ (R196). -/
def execPmRead (r : Req) (s : State) : Host.Outcome State Fault Refusal := .next (runCmd pmReadCmd r s)

end Sys2Proof.Machine
end

