-- ==== Sys2Proof/Machine/Classify.lean ====
section
/-! DEFINITION. The table chain: keys, lookups, result blocks, metadata; the flow table (R296 to R305). -/
namespace Sys2Proof.Machine

def State.modCls (s : State) (f : Cls → Cls) : State := { s with cls := f s.cls }

/-- Bytes with `bs` in place of those at `off`. -/
def setAt (m : List Byte) (off : Nat) (bs : List Byte) : List Byte := m.take off ++ bs ++ m.drop (off + bs.length)

/-! ### Metadata (R296, R297) -/

/-- Metadata at the start of the chain. -/
def metaStart (record : List Byte) (prog : Nat) : List Byte :=
  le 2 0xFFFF ++ le 2 0xFFFF ++ ([0xFF, 0xFF, byte (fld record 22 1 % 8 * 16), byte prog] : List Byte) ++ zeros 24

def Meta.sa (m : List Byte) : Nat := fld m 0 2
def Meta.queue (m : List Byte) : Nat := fld m 2 2
def Meta.vt (m : List Byte) : Nat := fld m 4 1
def Meta.lane (m : List Byte) : Nat := fld m 5 1
def Meta.disp (m : List Byte) : Nat := fld m 6 1 % 4
def Meta.cls (m : List Byte) : Nat := fld m 6 1 / 4 % 4
def Meta.prio (m : List Byte) : Nat := fld m 6 1 / 16 % 8
def Meta.prog (m : List Byte) : Nat := fld m 7 1
def Meta.flow (m : List Byte) : Nat := fld m 8 4

/-- The bits of a byte under a mask replaced. -/
def maskByte (old new mask : Byte) : Byte := (old &&& ~~~mask) ||| (new &&& mask)

/-- CTRL after a result block: DISP, CLASS and PRIO each under its SET bit. -/
def ctrlMask (set : Nat) : Byte :=
  (if bitOf set 4 then 0x03#8 else 0) ||| (if bitOf set 5 then 0x0C#8 else 0) ||| (if bitOf set 6 then 0x70#8 else 0)

/-- A result block applied to the metadata (R297). -/
def applyResult (m r : List Byte) : List Byte :=
  let set := fld r 0 2
  let put (i off : Nat) (bs : List Byte) (m : List Byte) : List Byte := if bitOf set i then setAt m off bs else m
  let m := put 3 5 (part r 7 1) (put 2 4 (part r 6 1) (put 1 2 (part r 4 2) (put 0 0 (part r 2 2) m)))
  let m := setAt m 6 [maskByte (m.getD 6 0) (r.getD 8 0) (ctrlMask set)]
  put 9 (fld r 11 1) (part r 12 4) (put 7 7 (part r 9 1) m)

/-- NEXT of a result block, where it sets one. -/
def resultNext (r : List Byte) : Option Nat := if bitOf (fld r 0 2) 8 then some (fld r 10 1) else none

/-- The checks of a result block for a table: SET bits 15:10, NEXT in (TABLE, 7], USER_OFF in 16 to 28 (R297, R299); `off` is where the block
stands in the payload. -/
def resultCheck (r : List Byte) (table off : Nat) : Chk :=
  let set := fld r 0 2
  checks
    [param (set < 1024) off, param (!(bitOf set 8 && (fld r 10 1 ≤ table || fld r 10 1 > 7))) (off + 10),
     param (!(bitOf set 9 && (fld r 11 1 < 16 || fld r 11 1 > 28))) (off + 11)]

/-! ### Keys (R298) -/

/-- What a frame's keys and programs read: its window, its parse record, its metadata. -/
structure KeySrc where
  win : List Byte
  record : List Byte
  data : List Byte

/-- The bytes that a base names, from its start on; none where it is absent. -/
def KeySrc.base (k : KeySrc) (src : Nat) : Option (List Byte) :=
  let at_ (o : Nat) : Option (List Byte) := if o = 0xFF then none else some (k.win.drop o)
  let layer := src / 16 % 4
  match src % 16 with
  | 0 => some k.record
  | 1 => some k.data
  | 2 => some k.win
  | 7 => at_ (fld k.record 20 1)
  | b => if 3 ≤ b && b ≤ 6 && layer < 3 then at_ (fld k.record (4 + 4 * layer + (b - 3)) 1) else none

/-- The bytes of one key field: SRC, OFFSET, LEN; what is absent or beyond reads as 0. -/
def KeySrc.field (k : KeySrc) (f : List Byte) : List Byte :=
  let b := (k.base (fld f 0 1)).getD []
  (List.range (fld f 2 1)).map fun i => b.getD (fld f 1 1 + i) 0

/-- The six key fields of a table. -/
def keyFields (fields : List Byte) : List (List Byte) := (List.range 6).map fun i => part fields (4 * i) 4

/-- The key of a table's fields. -/
def KeySrc.key (k : KeySrc) (fields : List Byte) : List Byte := (keyFields fields).flatMap fun f => k.field f

/-- Key length of a table. -/
def keyLen (fields : List Byte) : Nat := ((keyFields fields).map fun f => fld f 2 1).sum

/-! ### The flow table (R301 to R305) -/

/-- A key filled with zeros to 24 bytes. -/
def pad24 (key : List Byte) : List Byte := key ++ zeros (24 - key.length)

/-- The bucket of a key (R302). -/
def bucketOf (table : Nat) (key : List Byte) : Nat := (crc32c (byte table :: key)).toNat % 2 ^ 22

/-- The bucket an entry belongs to. -/
def FlowE.bucket (x : FlowE) : Nat := bucketOf x.table x.key

/-- An entry's place: a table entry, or a stash slot. -/
inductive FlowAt where
  | entry (i : Nat)
  | stash (i : Nat)
deriving DecidableEq, Repr

/-- The handle of a place (R305). -/
def FlowAt.handle : FlowAt → Nat
  | .entry i => 2 ^ 31 + i
  | .stash i => 2 ^ 31 + 2 ^ 30 + i

/-- The place that a handle names. -/
def flowOf (h : Nat) : Option FlowAt :=
  if !bitOf h 31 then none else if bitOf h 30 then some (.stash (h % 2 ^ 16)) else some (.entry (h % 2 ^ 25))

def Cls.flowGet (c : Cls) (a : FlowAt) : Option FlowE :=
  match a with
  | .entry i => c.flows.look i
  | .stash i => c.stash.look i

def Cls.flowMod (c : Cls) (a : FlowAt) (f : FlowE → FlowE) : Cls :=
  match a with
  | .entry i => { c with flows := c.flows.adj i f }
  | .stash i => { c with stash := c.stash.adj i f }

/-- The entry of a key in its table: the bucket and the stash at once (R302). -/
def Cls.findFlow (c : Cls) (table : Nat) (key : List Byte) : Option (FlowAt × FlowE) :=
  let b := bucketOf table key
  let hit (x : FlowE) : Bool := x.table == table && x.key == key
  match ((List.range 8).map fun i => 8 * b + i).find? fun i => ((c.flows.look i).map hit).getD false with
  | some i => (c.flows.look i).map fun x => (.entry i, x)
  | none => (c.stash.find? fun x => hit x.2).map fun x => (.stash x.1, x.2)

/-- The lowest free slot of a bucket. -/
def Cls.freeSlot (c : Cls) (b : Nat) : Option Nat := ((List.range 8).map fun i => 8 * b + i).find? fun i => !c.flows.has i

/-- Entries of a table. -/
def Cls.entriesOf (c : Cls) (t : Nat) : Nat :=
  (c.flows.filter fun x => x.2.table == t).length + (c.stash.filter fun x => x.2.table == t).length

/-- FT_USED: the entries in the table; the stash's are FT_STASH_USED (R320). -/
def Cls.used (c : Cls) : Nat := c.flows.length

/-! ### Lookups (R299, R306) -/

def Cls.table (c : Cls) (t : Nat) : TableC := c.tables.get t {}

/-- Whether a rule matches a key. -/
def Rule.hits (r : Rule) (key : List Byte) : Bool :=
  (key.zip (r.key.zip r.mask)).all fun x => x.1 &&& x.2.2 == x.2.1 &&& x.2.2

/-- What a lookup finds: the result block, and the place of an exact table's entry. -/
def Cls.lookup (c : Cls) (t : Nat) (x : TableC) (key : List Byte) : Option (List Byte × Option FlowAt) :=
  if x.kind = 1 then (c.findFlow t (pad24 key)).map fun f => (f.2.result, some f.1)
  else (x.act.find? fun r => r.2.hits key).map fun r => (r.2.result, none)

/-- HIT of an entry written where it differs from the current second (R301). -/
def State.noteHit (s : State) (a : Option FlowAt) : State :=
  match a with
  | some a => s.modCls fun c => c.flowMod a fun f => { f with hit := s.nowSec % 2 ^ 32 }
  | none => s

/-- A table's lookup for a frame: metadata and NEXT after it. -/
def State.runTable (s : State) (t : Nat) (k : KeySrc) : List Byte × Option Nat × State :=
  let x := s.cls.table t
  let m := setAt k.data 13 [byte t]
  let s := s.bump (engTable t) TB.TB_LOOKUPS
  match s.cls.lookup t x ({ k with data := m }.key x.fields) with
  | none => (applyResult m x.miss, resultNext x.miss, s)
  | some (r, a) =>
    let m := setAt m 12 [m.getD 12 0 ||| byte (2 ^ (t - 1))]
    let m := match a with
      | some a => setAt m 8 (le 4 a.handle)
      | none => m
    (applyResult m r, resultNext r, (s.bump (engTable t) TB.TB_HITS).noteHit a)

/-- The chain from table `t` on (R299): a table that is off, or whose engine does not work, passes to the next. -/
def State.chain (s : State) (k : KeySrc) : Nat → Nat → List Byte × State
  | 0, _ => (k.data, s)
  | n + 1, t =>
    if t < 1 || t > 6 then (k.data, s)
    else if (s.cls.table t).kind = 0 || !s.works (engTable t) then s.chain k n (t + 1)
    else
      let (m, next, s) := s.runTable t k
      s.chain { k with data := m } n (next.getD (t + 1))

end Sys2Proof.Machine
end

