-- ==== Sys2Proof/Machine/Actions.lean ====
section
/-! DEFINITION. Action programs: the instruction set of the action units, counters and meters, exceptions (R308 to R317). -/
namespace Sys2Proof.Machine

/-! ### Instruction words (R310) -/

def Aw.op (w : Nat) : Nat := bits w 63 58
def Aw.d (w : Nat) : Nat := bits w 57 54
def Aw.a (w : Nat) : Nat := bits w 53 50
def Aw.b (w : Nat) : Nat := bits w 49 46
def Aw.i (w : Nat) : Bool := bitOf w 45
def Aw.sz (w : Nat) : Nat := 2 ^ bits w 44 43
def Aw.sp (w : Nat) : Nat := bits w 42 41
def Aw.x (w : Nat) : Nat := bits w 39 32

/-- IMM, sign-extended to 64 bits. -/
def Aw.imm (w : Nat) : BitVec 64 := (BitVec.ofNat 32 w).signExtend 64

/-! ### Arithmetic (R312): result, V, and DZ where the instruction writes it -/

def MIN64 : BitVec 64 := 0x8000000000000000#64

/-- Whether an exact result does not fit in 64 bits, signed. -/
def overflows (x : Int) : Bool := decide (x < -(2 ^ 63 : Int)) || decide (x ≥ (2 ^ 63 : Int))

/-- Quotient and remainder: signed or unsigned, toward zero. -/
def auDiv (isSigned rem : Bool) (a b : BitVec 64) : BitVec 64 × Bool × Bool :=
  if b = 0 then (if rem then a else 0, false, true)
  else if isSigned && a = MIN64 && b = -1#64 then (if rem then 0 else MIN64, true, false)
  else if isSigned then (if rem then a.srem b else a.sdiv b, false, false)
  else (if rem then a.umod b else a.udiv b, false, false)

/-- Shifts, by an amount taken as unsigned and never reduced (R312). -/
def auShift (op : Nat) (a b : BitVec 64) : BitVec 64 :=
  match op with
  | 0x10 => if b.toNat ≥ 64 then 0 else a <<< b.toNat
  | 0x11 => if b.toNat ≥ 64 then 0 else a >>> b.toNat
  | _ => if b.toNat ≥ 64 then (if a.msb then -1#64 else 0) else a.sshiftRight b.toNat

/-- Arithmetic and logic: the result, V where it is written, DZ where it is written; none for another opcode. -/
def auAlu (op : Nat) (a b imm : BitVec 64) : Option (BitVec 64 × Option Bool × Option Bool) :=
  let quot (sg rem : Bool) : Option (BitVec 64 × Option Bool × Option Bool) :=
    let r := auDiv sg rem a b
    some (r.1, some r.2.1, some r.2.2)
  match op with
  | 0x01 => some (b, none, none)
  | 0x02 => some ((a &&& 0xFFFFFFFF#64) ||| (imm <<< 32), none, none)
  | 0x04 => some (a + b, some (overflows (a.toInt + b.toInt)), none)
  | 0x05 => some (a - b, some (overflows (a.toInt - b.toInt)), none)
  | 0x06 => some (-a, some (a == MIN64), none)
  | 0x07 => some (a * b, some (overflows (a.toInt * b.toInt)), none)
  | 0x08 => quot true false
  | 0x09 => quot false false
  | 0x0A => quot true true
  | 0x0B => quot false true
  | 0x0C => some (a &&& b, none, none)
  | 0x0D => some (a ||| b, none, none)
  | 0x0E => some (a ^^^ b, none, none)
  | 0x0F => some (~~~a, none, none)
  | 0x10 => some (auShift op a b, none, none)
  | 0x11 => some (auShift op a b, none, none)
  | 0x12 => some (auShift op a b, none, none)
  | _ => none

/-- Whether a branch is taken; none for another opcode. -/
def auBranch (op : Nat) (a b : BitVec 64) (v dz : Bool) : Option Bool :=
  match op with
  | 0x20 => some (a == b)
  | 0x21 => some (a != b)
  | 0x22 => some (a.slt b)
  | 0x23 => some (!a.slt b)
  | 0x24 => some (a.ult b)
  | 0x25 => some (!a.ult b)
  | 0x26 => some v
  | 0x27 => some dz
  | 0x28 => some true
  | _ => none

/-! ### Counters and meters (R315) -/

/-- The pair of a counter after one frame. -/
def State.countPair (s : State) (i len : Nat) : State :=
  s.modCls fun c => { c with counters := c.counters.upd i (0, 0) fun p => (satAdd (2 ^ 64 - 1) p.1 1, satAdd (2 ^ 64 - 1) p.2 len) }

/-- Bytes that a meter's CIR has earned since it was set. -/
def Meter.earned (m : Meter) (now : Nat) : Nat := (now - m.since) * m.cir * 125 / (1000000000 * 2 ^ 32)

/-- A meter's buckets brought up to now: the committed bucket first, then the excess bucket (RFC 2697). -/
def Meter.fill (m : Meter) (now : Nat) : Meter :=
  let n := m.earned now - m.given
  let tc := min m.cbs (m.tc + n)
  { m with tc := tc, te := min m.ebs (m.te + (m.tc + n - tc)), given := m.earned now }

/-- The colour of `len` bytes in colour-blind mode, and the meter after it. -/
def Meter.mark (m : Meter) (now len : Nat) : Nat × Meter :=
  let m := m.fill now
  if len ≤ m.tc then (0, { m with tc := m.tc - len })
  else if len ≤ m.te then (1, { m with te := m.te - len })
  else (2, m)

/-- METER: a meter that has never been set is green and spends nothing. -/
def State.meter (s : State) (i len : Nat) : Nat × State :=
  match s.cls.meters.look i with
  | none => (0, s)
  | some m =>
    let r := m.mark s.elapsed len
    (r.1, s.modCls fun c => { c with meters := c.meters.put i r.2 })

/-! ### A program's run (R309, R311, R313, R316) -/

/-- An action unit at work. `entry` is the working copy of ENTRY, or none where FLOW names no entry; `stored` whether a store to it has been
made; `lastSt` the space, address and size of a store that the instruction before made; `waits` the partial waits of R313; `exc` the DETAILs
of EXC records, oldest first. -/
structure Au where
  regs : List (BitVec 64)
  v : Bool := false
  dz : Bool := false
  data : List Byte
  entry : Option (List Byte)
  stored : Bool := false
  lastSt : Option (Nat × Nat × Nat) := none
  waits : Nat := 0
  exc : List Nat := []

/-- How a program ended: END, or a stop with its record's CODE (R316). -/
inductive AuEnd where
  | done
  | stop (code : Nat)

/-- What an instruction leads to. -/
inductive AuNext where
  | go (pc : Nat)
  | over (e : AuEnd)

def Au.reg (u : Au) (i : Nat) : BitVec 64 := if i = 0 then 0 else u.regs.getD i 0
def Au.setReg (u : Au) (i : Nat) (x : BitVec 64) : Au := if i = 0 then u else { u with regs := u.regs.set i x }

/-- The bytes of a space; none where it cannot be accessed (R309, R314). -/
def Au.space (u : Au) (k : KeySrc) (sp : Nat) : Option (List Byte) :=
  match sp with
  | 0 => some u.data
  | 1 => u.entry
  | 2 => some k.record
  | _ => some k.win

/-- A load that follows a store right away waits where the store overlaps it and does not cover it (R313). -/
def Au.partialWait (u : Au) (sp off n : Nat) : Bool :=
  match u.lastSt with
  | some (sp', o, m) => sp' = sp && o < off + n && off < o + m && !(o ≤ off && off + n ≤ o + m)
  | none => false

/-- LD and LDS: the value, or the CODE of the stop. -/
def Au.load (u : Au) (k : KeySrc) (w : Nat) (addr : BitVec 64) : Except Nat Nat :=
  match u.space k (Aw.sp w) with
  | none => .error 4
  | some b =>
    if addr.toNat + Aw.sz w > b.length then .error 3
    else
      let x := part b addr.toNat (Aw.sz w)
      .ok (if Aw.sp w = 3 then beVal x else leVal x)

/-- ST into META or ENTRY. -/
def Au.store (u : Au) (k : KeySrc) (w : Nat) (addr x : BitVec 64) : Except Nat Au :=
  match u.space k (Aw.sp w) with
  | none => .error 4
  | some b =>
    if addr.toNat + Aw.sz w > b.length then .error 3
    else
      let b' := setAt b addr.toNat (le (Aw.sz w) x.toNat)
      let u := { u with lastSt := some (Aw.sp w, addr.toNat, Aw.sz w) }
      if Aw.sp w = 0 then .ok { u with data := b' } else if Aw.sp w = 1 then .ok { u with entry := some b', stored := true } else .ok u

/-- The value a load puts in its register. -/
def auExtend (op n v : Nat) : BitVec 64 :=
  if op = 0x19 then BitVec.ofInt 64 (signed (8 * n) v) else BitVec.ofNat 64 v

/-- A load, and the wait it may meet. -/
def Au.doLoad (u : Au) (k : KeySrc) (w pc : Nat) (addr : BitVec 64) : Au × AuNext :=
  match u.load k w addr with
  | .error c => (u, .over (.stop c))
  | .ok v =>
    let wait := u.partialWait (Aw.sp w) addr.toNat (Aw.sz w)
    ({ u.setReg (Aw.d w) (auExtend (Aw.op w) (Aw.sz w) v) with waits := u.waits + bit wait, lastSt := none }, .go (pc + 1))

/-- COUNT, METER, EXC and END. -/
def Au.special (u : Au) (w pc len : Nat) (addr : BitVec 64) (s : State) : Au × AuNext × State :=
  match Aw.op w with
  | 0x30 => if addr.toNat < 1048576 then (u, .go (pc + 1), s.countPair addr.toNat len) else (u, .over (.stop 3), s)
  | 0x31 =>
    if addr.toNat < 65536 then
      let (c, s) := s.meter addr.toNat len
      (u.setReg (Aw.d w) (BitVec.ofNat 64 c), .go (pc + 1), s)
    else (u, .over (.stop 3), s)
  | 0x38 => ({ u with exc := u.exc ++ [w % 2 ^ 16] }, .go (pc + 1), s)
  | 0x3F => (u, .over .done, s)
  | _ => (u, .go (pc + 1), s)

/-- An arithmetic result written; a division by 0 stops a program with TRAP_DZ (R312, R316). -/
def Au.result (u : Au) (w pc : Nat) (trap : Bool) (r : BitVec 64 × Option Bool × Option Bool) : Au × AuNext :=
  if trap && r.2.2 = some true then (u, .over (.stop 2))
  else ({ u.setReg (Aw.d w) r.1 with v := r.2.1.getD u.v, dz := r.2.2.getD u.dz, lastSt := none }, .go (pc + 1))

/-- One instruction. -/
def Au.step (u : Au) (k : KeySrc) (trap : Bool) (len w pc : Nat) (s : State) : Au × AuNext × State :=
  let a := u.reg (Aw.a w)
  let b := if Aw.i w then Aw.imm w else u.reg (Aw.b w)
  let addr := a + Aw.imm w
  match auAlu (Aw.op w) a b (Aw.imm w) with
  | some r =>
    let x := u.result w pc trap r
    (x.1, x.2, s)
  | none =>
    match auBranch (Aw.op w) a b u.v u.dz with
    | some t => ({ u with lastSt := none }, .go (if t then Aw.x w else pc + 1), s)
    | none =>
      if Aw.op w = 0x18 || Aw.op w = 0x19 then
        let x := u.doLoad k w pc addr
        (x.1, x.2, s)
      else if Aw.op w = 0x1A then
        match u.store k w addr (u.reg (Aw.b w)) with
        | .ok u => (u, .go (pc + 1), s)
        | .error c => (u, .over (.stop c), s)
      else ({ u with lastSt := none } : Au).special w pc len addr s

/-- A program from `pc` on: it ends at END or past its last instruction. The answer's index is where it ended. -/
def Au.run (k : KeySrc) (p : Prog) (len : Nat) : Nat → Nat → Au → State → Au × AuEnd × Nat × State
  | 0, pc, u, s => (u, .done, pc, s)
  | n + 1, pc, u, s =>
    match p.words[pc]? with
    | none => (u, .done, pc, s)
    | some w =>
      match u.step k p.trap len w pc s with
      | (u, .over e, s) => (u, e, pc, s)
      | (u, .go pc', s) => Au.run k p len n pc' u s

/-- An action unit at a program's start (R309). -/
def Au.start (data : List Byte) (entry : Option (List Byte)) (len : Nat) : Au :=
  { regs := (List.replicate 16 0#64).set 1 (BitVec.ofNat 64 len) |>.set 2 (BitVec.ofNat 64 (Meta.flow data)), data := data, entry := entry }

/-- Whether a program locks its entry: it contains an ST with SP = 1 (R314). -/
def Prog.locks (p : Prog) : Bool := p.words.any fun w => Aw.op w = 0x1A && Aw.sp w = 1

/-! ### Exception records (R317) -/

/-- A record. -/
def excRecord (s : State) (code detail unit pc : Nat) (down : Bool) (k : KeySrc) : List Byte :=
  le 2 code ++ le 2 detail ++ [byte unit, byte pc, byte (bit down), byte (fld k.record 23 1)] ++ le 4 s.short ++ part k.data 8 4 ++
    k.data.take 16 ++ k.record

/-- A record into the exception queue of 1,024; the first into an empty queue raises EXC_PENDING. -/
def State.pushExc (s : State) (r : List Byte) : State :=
  let n := s.cls.excq.length
  if n ≥ 1024 then s.bump engParser PS.EXC_OVF
  else
    let s := s.modCls fun c => { c with excq := c.excq ++ [r] }
    if n = 0 then s.cue 0x5002 (le 2 1 ++ [0, 0]) else s

end Sys2Proof.Machine
end

