-- ==== Sys2Proof/Machine/Settle.lean ====
section
/-! DEFINITION. A frame's passage: parsing, the chain, its program, and settling (R291, R299, R300, R308, R314, R316, R333, R335). -/
namespace Sys2Proof.Machine

/-- A classified frame: its input, its context upstream, what keys and programs read, and the unit and index at which its program ended. -/
structure Passage where
  frame : ClsIn
  ctx : Option Nat
  k : KeySrc
  unit : Nat := 0xFF
  pc : Nat := 0

/-- FRAME_LEN: with FCS. -/
def ClsIn.len (x : ClsIn) : Nat := x.bytes.length + 4

/-- A frame discarded: its context freed at once (R333), its pages freed. -/
def State.dropFrame (s : State) (p : Passage) : State :=
  let s := s.freePages p.frame.pages
  match p.ctx with
  | some c => s.dropCtx c
  | none => s

/-- Why R300 discards a frame: the counter. -/
def State.settleFails (s : State) (p : Passage) : Option Fld :=
  let m := p.k.data
  if Meta.disp m % 2 = 1 then some PS.CL_DROP_DISP
  else if p.frame.down then
    (if Meta.lane m < 64 && s.carries (Meta.lane m) && s.works (engMac (Meta.lane m)) then none else some PS.CL_DROP_LANE)
  else if !((s.cry.sas.look (Meta.sa m)).map fun x => x.fmt.tx).getD false then some PS.CL_DROP_SA
  else if Meta.queue m = 0xFFFF || !s.sched.queues.has (Meta.queue m) then some PS.CL_DROP_QUEUE
  else if Meta.vt m ≠ 0xFF && s.queueVt (Meta.queue m) ≠ some (Meta.vt m) then some PS.CL_DROP_QUEUE
  else none

/-- CLASS 3 is taken as 0 (R300). -/
def classOf (m : List Byte) : Nat := if Meta.cls m = 3 then 0 else Meta.cls m

/-- The seal job of a settled frame, in the context it has held since it left its FIFO (R219, R333). -/
def State.issueSeal (s : State) (p : Passage) (ctx : Nat) (pages : List Nat) (cost : Nat) : State :=
  let m := p.k.data
  let n := p.frame.bytes.length
  let d : CJob :=
    { isSeal := true, cls := classOf m, sa := Meta.sa m, src := pages, len := n, hdr := s.hdrAt (Meta.sa m) p.frame.bytes, ready := s.short,
      dest := .queue (Meta.queue m), prio := Meta.prio m }
  let s := { s with disp := { s.disp with jobs := s.disp.jobs.adj ctx fun j => { j with work := .crypto d, prio := d.readyPrio } } }
  (s.enqueue (Meta.queue m) { pages := [], bytes := n, len := cost, sealed := false, job := ctx, circuit := false }).arm ctx

/-- An upstream frame that passed R300: the queue's limit, the policers, red pages, a seal job (R347, R352). -/
def State.sealUp (s : State) (p : Passage) : State :=
  let m := p.k.data
  let cost := frameCost p.frame.bytes.length (s.saOverhead (Meta.sa m))
  match s.underLimit (Meta.queue m) cost with
  | (false, s) => s.dropFrame p
  | (true, s) =>
    match s.police (Meta.queue m) p.frame.len with
    | (false, s) => s.dropFrame p
    | (true, s) =>
      match p.ctx, s.allocPages true p.frame.bytes with
      | some c, some (pages, s) => s.issueSeal p c pages cost
      | _, _ => s.dropFrame p

/-- R300: the record of DISP, the checks in order, and where the frame goes. -/
def State.settleFrame (s : State) (p : Passage) : State :=
  let m := p.k.data
  let s := if Meta.disp m ≥ 2 then s.pushExc (excRecord s 1 0 p.unit p.pc p.frame.down p.k) else s
  let s := if Meta.cls m = 3 then s.bump engParser PS.CL_CLASS_FIX else s
  match s.settleFails p with
  | some f => (s.bump engParser f).dropFrame p
  | none => if p.frame.down then s.toMac (Meta.lane m) (Meta.prio m) p.frame.pages p.frame.bytes.length else s.sealUp p

/-! ### CLASSIFY_FRAME -/

/-- What the parser counts. -/
def State.countParse (s : State) (p : Parse) : State :=
  let s := s.bump engParser PS.PS_FRAMES
  match p.stop with
  | 1 => s.bump engParser PS.PS_TRUNC
  | 2 => s.bump engParser PS.PS_MALFORMED
  | 3 => s.bump engParser PS.PS_LIMIT
  | _ => s

/-- A frame parsed and passed through the chain; its program waits for an action unit, or it settles at once (R299, R300). -/
def State.classify (s : State) (x : ClsIn) (ctx : Option Nat) : State :=
  let w := pwin x.bytes (s.rf engParser PS.DEPTH)
  let p := parseFrame w x.down
  let record := p.record (if x.down then 0xFF else x.lane) x.len x.arrival
  let m := metaStart record (s.rf engParser (if x.down then PS.DEF_PROG_DN else PS.DEF_PROG_UP))
  let k : KeySrc := { win := w.frame.take w.win, record := record, data := m }
  let (m, s) := (s.countParse p).chain k 6 (s.rf engParser (if x.down then PS.FIRST_DN else PS.FIRST_UP))
  if Meta.prog m = 0xFF then s.settleFrame { frame := x, ctx := ctx, k := { k with data := m } }
  else s.modCls fun c => { c with progq := c.progq ++ [{ frame := x, record := record, data := m, ctx := ctx }] }

/-- The first entry that `p` picks, and the list without it. -/
def pickOut {α : Type} (p : α → Bool) : List α → Option (α × List α)
  | [] => none
  | x :: xs => if p x then some (x, xs) else (pickOut p xs).map fun y => (y.1, x :: y.2)

/-- The input FIFO that is served next: highest priority first, in rotation among the MACs (R335). -/
def Cls.nextFifo (c : Cls) : Option (Nat × Nat) :=
  let ups := c.inq.filter fun x => !x.down
  match [7, 6, 5, 4, 3, 2, 1, 0].find? fun p => ups.any fun x => framePcp x.bytes = p with
  | none => none
  | some p =>
    (((List.range 64).map fun i => (c.lastMac + 1 + i) % 64).find? fun l => ups.any fun x => x.inFifo l p).map fun l => (l, p)

/-- What holds a context while its frame is classified: the seal job is created when the frame settles (R219). -/
def State.heldJob (s : State) (pool : Nat) : Job :=
  { work := .crypto { isSeal := true, cls := 0, sa := 0xFFFF, src := [], len := 0, dest := .firmware }, state := .held, prio := 0, pool := pool,
    created := s.short }

/-- An upstream frame takes its context as it leaves its input FIFO (R333). -/
def State.classifyUp (s : State) : State :=
  match s.cls.nextFifo with
  | none => s
  | some (l, p) =>
    match pickOut (fun x => x.inFifo l p) s.cls.inq with
    | none => s
    | some (x, rest) =>
      match s.takeSlot .datapath s.heldJob with
      | (none, s) => s
      | (some c, s) =>
        ((s.modCls fun q => { q with inq := rest, lastMac := l }).pfcWatch l).classify x (some c)

/-- An action unit's engine. -/
def engAction (u : Nat) : Nat := eng 11 (0x10 + u)

/-- Action units that work. -/
def State.unitsUp (s : State) : Nat := ((List.range 32).filter fun u => s.works (engAction u)).length

/-- Whether the chain has room for a frame: no more of them wait for an action unit than there are units (R308, R334, log entry 161). -/
def State.chainRoom (s : State) : Bool := decide (s.cls.progq.length < max 1 s.unitsUp)

/-- CLASSIFY_FRAME (R291, R299, R308, R333): the oldest downstream frame with `down`, else the upstream frame that R335 puts first. Frames beyond what the
action units take stay where they are. -/
def execClassifyFrame (down : Bool) (s : State) : Host.Outcome State Fault Refusal :=
  if !s.works engParser || !s.chainRoom then .next s
  else if down then
    match pickOut (fun x => x.down) s.cls.inq with
    | none => .next s
    | some (x, rest) => .next ((s.modCls fun c => { c with inq := rest }).classify x none)
  else .next s.classifyUp

/-! ### ACTION_PROGRAM -/

/-- A program in its slot; an empty slot runs as a single END (R308). -/
def Cls.prog (c : Cls) (i : Nat) : Prog := (c.progs.look i).getD { trap := false, words := [0xFC00000000000000] }

/-- EXC records of a program (R317). -/
def State.excAll (s : State) (details : List Nat) (unit pc : Nat) (down : Bool) (k : KeySrc) : State :=
  details.foldl (fun s d => s.pushExc (excRecord s 5 d unit pc down k)) s

/-- A program has ended: DATA written back and the frame settled, or a fault or trap that discards it (R314, R316). -/
def State.progDone (s : State) (e : Nat) (x : ProgIn) (k : KeySrc) (u : Au) (how : AuEnd) (pc : Nat) : State :=
  let unit := engNo e
  let s := s.bumpN e AU.AU_PARTIAL_WAIT u.waits
  match how with
  | .stop code =>
    let s := s.bump e (if code = 2 then AU.AU_TRAPS else AU.AU_FAULTS)
    let s := (s.excAll u.exc unit pc x.frame.down k)
    (s.pushExc (excRecord s code pc unit pc x.frame.down k)).dropFrame { frame := x.frame, ctx := x.ctx, k := k }
  | .done =>
    let k := { k with data := u.data }
    let s := match u.stored, u.entry, flowOf (Meta.flow x.data) with
      | true, some d, some a => s.modCls fun c => c.flowMod a fun f => { f with data := d }
      | _, _, _ => s
    (s.excAll u.exc unit pc x.frame.down k).settleFrame { frame := x.frame, ctx := x.ctx, k := k, unit := unit, pc := pc }

/-- ACTION_PROGRAM (R308, R314): the oldest waiting program runs on an action unit; `waited` says that it waited for its entry's lock. -/
def execActionProgram (unit : Fin 32) (waited : Bool) (s : State) : Host.Outcome State Fault Refusal :=
  let e := engAction unit.val
  match s.cls.progq with
  | [] => .next s
  | x :: rest =>
    if !s.works e then .next s
    else
      let s := (s.modCls fun c => { c with progq := rest }).bump e AU.AU_PROGS
      let w := pwin x.frame.bytes (s.rf engParser PS.DEPTH)
      let k : KeySrc := { win := w.frame.take w.win, record := x.record, data := x.data }
      let p := s.cls.prog (Meta.prog x.data)
      let s := if waited && p.locks && Meta.flow x.data ≠ 0 then s.bump e AU.AU_ENTRY_WAIT else s
      let entry := ((flowOf (Meta.flow x.data)).bind s.cls.flowGet).map (·.data)
      let (u, how, pc, s) := Au.run k p x.frame.len (p.words.length + 1) 0 (Au.start x.data entry x.frame.len) s
      .next (s.progDone e x k u how pc)

end Sys2Proof.Machine
end

