-- ==== Sys2Proof/Machine/ClassRows.lean ====
section
/-! DEFINITION. The classifier's commands (R297 to R307, R310, R315, R317, R318, R321). -/
namespace Sys2Proof.Machine

/-! ### TABLE_CONFIG -/

/-- The checks of a table's key fields. -/
def fieldChecks (p : List Byte) (i : Nat) : Chk :=
  let o := 4 + 4 * i
  let base := fld p o 1 % 16
  checks
    [param (fld p o 1 < 64 && base ≤ 7 && !(3 ≤ base && base ≤ 6 && fld p o 1 / 16 = 3)) o, param (fld p (o + 2) 1 ≤ 40) (o + 2),
     resv p (o + 3) 1]

/-- Whether a key length suits a table's KIND (R298). -/
def keyLenOk (kind n : Nat) : Bool := kind = 0 || 1 ≤ n && n ≤ (if kind = 1 then 24 else 40)

/-- Whether a table holds entries or rules. -/
def Cls.holds (c : Cls) (t : Nat) : Bool := !((c.table t).act.isEmpty && (c.table t).stby.isEmpty) || decide (c.entriesOf t > 0)

/-- Exact tables but for `t`. -/
def Cls.exactOthers (c : Cls) (t : Nat) : Nat := (c.tables.filter fun x => x.1 != t && x.2.kind == 1).length

/-- TABLE_CONFIG's effect. -/
def tableConfig (p : List Byte) (s : State) : Act :=
  let t := fld p 0 1
  let x := s.cls.table t
  let kind := fld p 1 1
  let fields := part p 4 24
  if kind = 1 && s.cls.exactOthers t ≥ 4 then .say s St.badParam 1
  else if x.kind = kind && x.fields = fields && x.miss = part p 28 16 then .say s St.noChange
  else if (x.kind ≠ kind || x.fields ≠ fields) && s.cls.holds t then .say s St.collision
  else
    .say (s.modCls fun c => { c with tables := c.tables.put t { x with kind := kind, fields := fields, miss := part p 28 16 } }) St.ok

def tableConfigCmd : Cmd where
  op := 0x0500
  len := fun n => n = 44
  stage := true
  domains := fun _ _ => [11]
  params := fun _ r _ =>
    let p := r.payload
    checks
      [param (1 ≤ fld p 0 1 && fld p 0 1 ≤ 6) 0, param (fld p 1 1 ≤ 2) 1, resv p 2 2, checks ((List.range 6).map (fieldChecks p)),
       param (keyLenOk (fld p 1 1) (keyLen (part p 4 24))) 4, resultCheck (part p 28 16) (fld p 0 1) 28]
  act := fun _ r s => issueTable (tableConfig r.payload) s

/-- TABLE_CONFIG (R298, R299). -/
def execTableConfig (r : Req) (s : State) : Host.Outcome State Fault Refusal := .next (runCmd tableConfigCmd r s)

/-! ### The flow table's commands (R301 to R305) -/

/-- An entry as R301 lays it out. -/
def FlowE.bytes (x : FlowE) : List Byte :=
  [byte (1 + 2 * x.table), byte x.keyLen, 0, 0] ++ le 4 x.hit ++ x.key ++ x.result ++ x.data

/-- The stash's high-water mark follows. -/
def State.noteStash (s : State) : State := s.raiseTo (engTable 1) FT.FT_STASH_HWM s.cls.stash.length

/-- FLOW_EXHAUSTED, at most once in each second of part time (R303). -/
def State.flowFull (s : State) (table : Nat) (txn : Bool) : State :=
  let s := s.bump (engTable 1) FT.FT_EXHAUSTED
  if s.cls.exhSec = some s.nowSec then s
  else
    (s.modCls fun c => { c with exhSec := some s.nowSec }).cue 0x5001
      ([byte table, byte (bit txn), 0, 0] ++ le 4 s.cls.used ++ le 4 (s.rf (engTable 1) FT.FT_STASH_HWM))

/-- An entry placed: the lowest free slot of its bucket, else of the stash (R303). -/
def State.flowPut (s : State) (x : FlowE) : Option (FlowAt × State) :=
  match s.cls.freeSlot x.bucket with
  | some i => some (.entry i, s.modCls fun c => { c with flows := c.flows.put i x })
  | none =>
    (s.cls.stash.freeFrom 0 65536).map fun i =>
      (.stash i, (s.modCls fun c => { c with stash := c.stash.put i { x with order := c.adds }, adds := c.adds + 1 }).noteStash)

/-- Whether a command's key suits its table: an exact table, its key length, zero padding (R301). -/
def State.flowKeyCheck (s : State) (p : List Byte) (table offTable offLen offKey : Nat) : Chk :=
  let x := s.cls.table table
  let n := keyLen x.fields
  checks
    [param (x.kind = 1) offTable, param (fld p offLen 1 = n) offLen, param ((firstNonzero p (offKey + n) (24 - n)).isNone) offKey]

/-- FLOW_ADD's effect; `txn` says that a transaction's prepare makes it. -/
def flowAdd (txn : Bool) (p : List Byte) (s : State) : Act :=
  let t := fld p 4 1 / 2 % 8
  match s.flowKeyCheck p t 4 5 12 with
  | some f => .fail s f
  | none =>
    let x : FlowE := { table := t, keyLen := fld p 5 1, hit := 0, key := part p 12 24, result := part p 36 16, data := part p 52 16 }
    let replace := bitOf (fld p 0 1) 0
    match s.cls.findFlow t x.key with
    | some (a, _) =>
      if !replace then .say s St.collision
      else
        { st := s.modCls fun c => c.flowMod a fun f => { f with result := x.result, data := x.data }, payload := le 4 a.handle }
    | none =>
      if replace then .say s St.notReady
      else
        match s.flowPut x with
        | some (a, s) => { st := s, payload := le 4 a.handle }
        | none => .say (s.flowFull t txn) St.exhausted

def flowAddCmd : Cmd where
  op := 0x0501
  len := fun n => n = 68
  stage := true
  domains := fun _ _ => [11]
  params := fun _ r _ =>
    let p := r.payload
    let t := fld p 4 1 / 2 % 8
    checks
      [param (fld p 0 1 < 2) 0, resv p 1 3, param (bitOf (fld p 4 1) 0 && fld p 4 1 < 16 && 1 ≤ t && t ≤ 6) 4, resv p 6 2,
       resultCheck (part p 36 16) t 36]
  act := fun _ r s => issueTable (flowAdd false r.payload) s

/-- FLOW_ADD (R303). -/
def execFlowAdd (r : Req) (s : State) : Host.Outcome State Fault Refusal := .next (runCmd flowAddCmd r s)

/-- The stash entry of a bucket that was added first. -/
def Cls.oldestOf (c : Cls) (b : Nat) : Option (Nat × FlowE) :=
  (c.stash.filter fun x => x.2.bucket == b).foldl
    (fun best x => match best with
      | none => some x
      | some y => if x.2.order < y.2.order then some x else some y) none

/-- An entry leaves; a freed slot takes the oldest stash entry of its bucket (R304). -/
def State.flowDrop (s : State) (a : FlowAt) (x : FlowE) : State :=
  match a with
  | .stash i => s.modCls fun c => { c with stash := c.stash.del i }
  | .entry i =>
    let s := s.modCls fun c => { c with flows := c.flows.del i }
    match s.cls.oldestOf x.bucket with
    | none => s
    | some (j, y) =>
      (s.modCls fun c => { c with flows := c.flows.put i { y with order := 0 }, stash := c.stash.del j }).bump (engTable 1) FT.FT_MOVES

/-- The static checks of FLOW_DEL and FLOW_READ. -/
def flowNameChecks (p : List Byte) : Chk := checks [param (1 ≤ fld p 0 1 && fld p 0 1 ≤ 6) 0, resv p 2 2]

/-- FLOW_DEL's effect. -/
def flowDel (p : List Byte) (s : State) : Act :=
  match s.flowKeyCheck p (fld p 0 1) 0 1 4 with
  | some f => .fail s f
  | none =>
    match s.cls.findFlow (fld p 0 1) (part p 4 24) with
    | none => .say s St.noChange
    | some (a, x) => .say (s.flowDrop a x) St.ok

def flowDelCmd : Cmd where
  op := 0x0502
  len := fun n => n = 28
  stage := true
  domains := fun _ _ => [11]
  params := fun _ r _ => flowNameChecks r.payload
  act := fun _ r s => issueTable (flowDel r.payload) s

/-- FLOW_DEL (R304). -/
def execFlowDel (r : Req) (s : State) : Host.Outcome State Fault Refusal := .next (runCmd flowDelCmd r s)

def flowReadCmd : Cmd where
  op := 0x0503
  len := fun n => n = 28
  domains := fun _ _ => [11]
  params := fun _ r s => Chk.andThen (flowNameChecks r.payload) (s.flowKeyCheck r.payload (fld r.payload 0 1) 0 1 4)
  act := fun _ r s =>
    let p := r.payload
    match s.cls.findFlow (fld p 0 1) (part p 4 24) with
    | none => .say s St.notReady
    | some (a, x) => { st := s, payload := le 4 a.handle ++ x.bytes }

/-- FLOW_READ (R301). -/
def execFlowRead (r : Req) (s : State) : Host.Outcome State Fault Refusal := .next (runCmd flowReadCmd r s)

/-! ### Ternary tables (R306, R307) -/

def State.modTable (s : State) (t : Nat) (f : TableC → TableC) : State := s.modCls fun c => { c with tables := c.tables.upd t {} f }

/-- Whether a table's copy is running. -/
def State.tableCopying (s : State) (t : Nat) : Bool := s.on (engTable t) TB.COPYING

/-- RULE_SET's effect. -/
def ruleSet (p : List Byte) (s : State) : Act :=
  let t := fld p 0 1
  let x := s.cls.table t
  let n := keyLen x.fields
  let rule : Rule := { key := part p 4 40, mask := part p 44 40, result := part p 84 16 }
  let old := x.stby.look (fld p 2 2)
  if x.kind ≠ 2 then .say s St.badParam 0
  else if s.tableCopying t then { st := s, wait := some (.unit (engTable t)) }
  else if fld p 1 1 = 0 then
    if old.isNone then .say s St.noChange
    else .say (s.modTable t fun y => { y with stby := y.stby.del (fld p 2 2) }) St.ok
  else if (firstNonzero p (4 + n) (40 - n)).isSome then .say s St.badParam 4
  else if (firstNonzero p (44 + n) (40 - n)).isSome then .say s St.badParam 44
  else if old = some rule then .say s St.noChange
  else .say (s.modTable t fun y => { y with stby := y.stby.put (fld p 2 2) rule }) St.ok

def ruleSetCmd : Cmd where
  op := 0x0504
  len := fun n => n = 100
  stage := true
  domains := fun _ _ => [11]
  params := fun _ r _ =>
    let p := r.payload
    checks
      [param (1 ≤ fld p 0 1 && fld p 0 1 ≤ 6) 0, param (fld p 1 1 < 2) 1, param (fld p 2 2 < 4096) 2,
       if fld p 1 1 = 1 then resultCheck (part p 84 16) (fld p 0 1) 84 else none]
  act := fun _ r s => issueTable (ruleSet r.payload) s

/-- RULE_SET (R306). -/
def execRuleSet (r : Req) (s : State) : Host.Outcome State Fault Refusal := .next (runCmd ruleSetCmd r s)

/-- A table's pages swapped, its copy running, TABLE_SPLICED raised (R307); `txn` names a transaction as the source. -/
def State.spliceTable (s : State) (t : Nat) (txn : Bool) : State :=
  let e := engTable t
  let s := s.modTable t fun x => { x with act := x.stby, stby := x.act }
  let s := (s.wf e TB.ACTIVE (1 - s.rf e TB.ACTIVE)).wf e TB.COPYING 1
  s.cue 0x5003 [byte t, byte (s.rf e TB.ACTIVE), byte (bit txn), 0]

/-- TABLE_SPLICE's effect. -/
def tableSplice (t : Nat) (s : State) : Act :=
  let x := s.cls.table t
  if x.kind ≠ 2 then .say s St.badParam 0
  else if s.tableCopying t then { st := s, wait := some (.unit (engTable t)) }
  else if x.act = x.stby then .say s St.noChange
  else .say (s.spliceTable t false) St.ok

def tableSpliceCmd : Cmd where
  op := 0x0505
  len := fun n => n = 4
  domains := fun _ _ => [11]
  params := fun _ r s =>
    let t := fld r.payload 0 1
    checks [param (1 ≤ t && t ≤ 6 && (s.cls.table t).kind = 2) 0, resv r.payload 1 3]
  act := fun _ r s => issueTable (tableSplice (fld r.payload 0 1)) s

/-- TABLE_SPLICE (R307). -/
def execTableSplice (r : Req) (s : State) : Host.Outcome State Fault Refusal := .next (runCmd tableSpliceCmd r s)

/-- A table's copy ends (R307). -/
def State.tableCopied (s : State) (t : Nat) : State := (s.modTable t fun x => { x with stby := x.act }).wf (engTable t) TB.COPYING 0

/-! ### Programs, meters, counters, records -/

/-- Opcodes of R311. -/
def auOps : List Nat :=
  [0x00, 0x01, 0x02, 0x04, 0x05, 0x06, 0x07, 0x08, 0x09, 0x0A, 0x0B, 0x0C, 0x0D, 0x0E, 0x0F, 0x10, 0x11, 0x12, 0x18, 0x19, 0x1A, 0x20,
   0x21, 0x22, 0x23, 0x24, 0x25, 0x26, 0x27, 0x28, 0x30, 0x31, 0x38, 0x3F]

/-- Whether R318 refuses an instruction at an index of a program of `len`. -/
def auRefused (len i w : Nat) : Bool :=
  let op := Aw.op w
  !auOps.contains op || bitOf w 40 || 0x20 ≤ op && op ≤ 0x28 && (Aw.x w ≤ i || Aw.x w > len) || op = 0x1A && Aw.sp w ≥ 2 ||
    bits w 44 43 ≠ 0 && !(0x18 ≤ op && op ≤ 0x1A)

/-- The instruction words of PROG_LOAD's payload. -/
def progWords (p : List Byte) : List Nat := (List.range (fld p 1 1)).map fun i => fld p (4 + 8 * i) 8

/-- The payload offset of the first word that R318 refuses. -/
def progFault (p : List Byte) : Chk :=
  let ws := progWords p
  (ws.zipIdx.find? fun x => auRefused ws.length x.2 x.1).map fun x => (St.badParam, 4 + 8 * x.2)

def progLoadCmd : Cmd where
  op := 0x0506
  len := fun n => 4 ≤ n && n % 8 = 4
  fits := fun r _ => need (r.payload.length = 4 + 8 * fld r.payload 1 1) St.badLength 1
  stage := true
  domains := fun _ _ => [11]
  params := fun _ r _ =>
    let p := r.payload
    checks
      [param (fld p 0 1 ≠ 0xFF) 0, param (fld p 1 1 ≤ 32) 1, param (fld p 2 1 < 2) 2,
       resv p 3 1, progFault p]
  act := fun _ r s =>
    let p := r.payload
    let ws := progWords p
    if ws.isEmpty then .say (s.modCls fun c => { c with progs := c.progs.del (fld p 0 1) }) St.ok
    else .say (s.modCls fun c => { c with progs := c.progs.put (fld p 0 1) { trap := fld p 2 1 = 1, words := ws } }) St.ok

/-- PROG_LOAD (R308, R318). -/
def execProgLoad (r : Req) (s : State) : Host.Outcome State Fault Refusal := .next (runCmd progLoadCmd r s)

def meterSetCmd : Cmd where
  op := 0x0507
  len := fun n => n = 16
  stage := true
  domains := fun _ _ => [11]
  params := fun _ r _ =>
    let p := r.payload
    let size (o : Nat) : Nat := fld p o 4
    checks
      [param (size 0 < 65536) 0, param (1 ≤ size 4 && size 4 ≤ 200000000) 4, param (size 8 ≤ 16777216 && !(size 8 = 0 && size 12 = 0)) 8,
       param (size 12 ≤ 16777216) 12]
  act := fun _ r s =>
    let p := r.payload
    let m : Meter := { cir := fld p 4 4, cbs := fld p 8 4, ebs := fld p 12 4, tc := fld p 8 4, te := fld p 12 4, since := s.elapsed }
    .say (s.modCls fun c => { c with meters := c.meters.put (fld p 0 4) m }) St.ok

/-- METER_SET (R315). -/
def execMeterSet (r : Req) (s : State) : Host.Outcome State Fault Refusal := .next (runCmd meterSetCmd r s)

def counterReadCmd : Cmd where
  op := 0x0508
  len := fun n => n = 8
  domains := fun _ _ => [11]
  params := fun _ r _ =>
    let p := r.payload
    checks
      [param (fld p 0 4 < 1048576) 0, param (1 ≤ fld p 4 2 && fld p 4 2 ≤ 256 && fld p 0 4 + fld p 4 2 ≤ 1048576) 4, param (fld p 6 1 < 2) 6,
       resv p 7 1]
  act := fun _ r s =>
    let p := r.payload
    let is := (List.range (fld p 4 2)).map fun i => fld p 0 4 + i
    let out := is.flatMap fun i => let c := s.cls.counters.get i (0, 0); le 8 c.1 ++ le 8 c.2
    { st := if fld p 6 1 = 1 then s.modCls fun c => { c with counters := c.counters.keep fun i _ => !is.contains i } else s, payload := out }

/-- COUNTER_READ (R315). -/
def execCounterRead (r : Req) (s : State) : Host.Outcome State Fault Refusal := .next (runCmd counterReadCmd r s)

def excReadCmd : Cmd where
  op := 0x0509
  len := fun n => n = 4
  domains := fun _ _ => [11]
  params := fun _ r _ => checks [param (1 ≤ fld r.payload 0 2 && fld r.payload 0 2 ≤ 64) 0, resv r.payload 2 2]
  act := fun _ r s =>
    let n := fld r.payload 0 2
    { st := s.modCls fun c => { c with excq := c.excq.drop n }, payload := (s.cls.excq.take n).flatten }

/-- EXC_READ (R317). -/
def execExcRead (r : Req) (s : State) : Host.Outcome State Fault Refusal := .next (runCmd excReadCmd r s)

end Sys2Proof.Machine
end

