-- ==== Sys2Proof/Machine/LaneBase.lean ====
section
/-! DEFINITION. Client lanes: bring-up, links, spare substitution (R355 to R375, R456). -/
namespace Sys2Proof.Machine

/-! ### Lanes, units, families -/

/-- Domain of a lane or unit 0 to 67 (R20). -/
def laneDomain (l : Nat) : Nat := engDomain (engLane l)

/-- The lane whose engine this is. -/
def laneOf (e : Nat) : Nat :=
  let n := engNo e
  if engDomain e = 8 then (if n < 32 then n else 32 + n) else (if n < 32 then 32 + n else 34 + n)

/-- Whether a lane's PLL runs in the SDH family (R356). -/
def State.sdhFamily (s : State) (l : Nat) : Bool := s.laneMode l = 3

/-- The PLL of a physical unit: its quad in its domain, or 8 for the spare pair (R40). -/
def pllOf (unit : Nat) : Nat := if unit < 0x20 then unit / 4 else 8

/-- Logical lanes, not OFF, that a PLL feeds. -/
def State.onPll (s : State) (d p : Nat) : List Nat :=
  (List.range 64).filter fun l => laneDomain l = d && pllOf (s.punit (engLane l)) = p && s.engState (engLane l) ≠ 0

/-- RATES of a RATE code (R362). -/
def ratesOf (rate : Nat) : Nat := rate - 1

/-- Whether a lane takes its signal from the line: not in a near-end loop (R368). -/
def State.fromLine (s : State) (l : Nat) : Bool := s.rf (engLane l) LN.LOOP = 0 || s.rf (engLane l) LN.LOOP = 3

/-- Whether a substitution of a lane, or of a member of its quad, runs (R375). -/
def State.substRuns (s : State) (l : Nat) : Bool := (s.members l).any fun m => (s.lane m).subst.isSome

/-! ### Links (R363 to R365, R386) -/

/-- LANE_LINK. -/
def State.linkCue (s : State) (l : Nat) (up : Bool) (cause : Nat) : State :=
  s.cue 0x3001 [byte l, byte (bit up), byte (s.rf (engLane l) LN.RATE_NOW), byte cause, byte (s.rf (engLane l) LN.FOM), 0, 0, 0]

/-- A lane begins at step 1 of R363, or with AN = 0 at its RATE (R364, R365); an SDH lane has no bring-up. -/
def State.startLane (s : State) (l : Nat) : State :=
  let e := engLane l
  let an := s.on e LN.AN && s.laneMode l != 3
  let s := s.wf e LN.RATE_NOW (if an then 1 else s.rf e LN.RATE)
  (s.wf e LN.SYNC 0).modLane l fun x => { x with step := if an then .pages else .done, ready := false }

/-- Every member of a lane's group begins again. -/
def State.startGroup (s : State) (l : Nat) : State := ((s.members l).foldl State.startLane s).wf (engLane (s.head l)) LN.ALIGNED 0

/-- The link of a lane or group comes up: bring-up is done, but a loop, which has stopped it, leaves it where it was (R368). -/
def State.linkUp (s : State) (l : Nat) : State :=
  let h := s.head l
  let loop := s.rf (engLane h) LN.LOOP ≠ 0
  let s := (s.members l).foldl (fun s m => s.modLane m fun x => { x with step := if loop then x.step else .done, sampled := false }) s
  if s.on (engLane h) LN.LINK then s
  else ((s.wf (engLane h) LN.LINK 1).wf (engLane h) LN.LINK_CHG 1).linkCue h true (if loop then 5 else 0)

/-- A group that was aligned, headed by lane `h`, loses alignment (R359). -/
def State.alignGone (s : State) (h : Nat) : State :=
  if s.on (engLane h) LN.ALIGNED then ((s.wf (engLane h) LN.ALIGNED 0).wf (engLane h) LN.ALIGN_LOST 1).bump (engLane h) LN.LN_ALIGN_LOSS else s

/-- Sync of a lane is gone (R359): it counts where it was there, and its group loses alignment. -/
def State.syncGone (s : State) (l : Nat) : State :=
  let s := if s.on (engLane l) LN.SYNC then (s.wf (engLane l) LN.SYNC 0).bump (engLane l) LN.LN_SYNC_LOSS else s
  s.alignGone (s.head l)

/-- The link of a lane or group goes down, where it was up. -/
def State.linkOff (s : State) (l cause : Nat) : State :=
  let h := s.head l
  if s.on (engLane h) LN.LINK then
    let s := ((s.wf (engLane h) LN.LINK 0).wf (engLane h) LN.LINK_CHG 1).linkCue h false cause
    (s.members l).foldl (fun s m => s.modLane m fun x => { x with sampled := false }) s
  else s

/-- The link, up or not, goes down and bring-up begins again (R369). -/
def State.linkAgain (s : State) (l cause : Nat) : State := (s.linkOff l cause).startGroup l

/-- A link that was up goes down: with AN = 1 bring-up begins again, with AN = 0 the lane waits at its rate (R364). What bring-up does while the link is
not up yet is its own (R363, R365). -/
def State.linkLost (s : State) (l cause : Nat) : State :=
  if !s.on (engLane (s.head l)) LN.LINK then s
  else if s.on (engLane l) LN.AN then s.linkAgain l cause
  else s.linkOff l cause

/-- A quad group does not come up: 1.25 Gbaud, and a new try after 1 s (R365). -/
def State.quadFail (s : State) (l : Nat) (mismatch : Bool) : State :=
  let h := s.head l
  let s := if mismatch then s.wf (engLane l) LN.QUAD_MISMATCH 1 else s
  let s := (s.members l).foldl (fun s m =>
    ((s.wf (engLane m) LN.RATE_NOW 1).wf (engLane m) LN.SYNC 0).modLane m fun x => { x with step := .retry, ready := false }) s
  s.linkCue h false (if mismatch then 4 else 3)

/-! ### Loops (R368) -/

/-- The loop of a lane, and of its quad, ends: what a near-end loop still holds is lost, and a link that came up in a loop before bring-up was done
goes down. -/
def State.endLoop (s : State) (l : Nat) : State :=
  let h := s.head l
  let s := if s.rf (engLane h) LN.LOOP ≠ 0 && (s.lane h).step ≠ .done then s.linkOff h 5 else s
  let s := (s.members l).foldl (fun s m => s.wf (engLane m) LN.LOOP 0) s
  s.modMac h fun m => { m with looped := [] }

/-! ### Figure of merit (R366, R367) -/

/-- FOM of an eye (R366): 255 times the smaller of h / 250 mV and w / 0.5 UI, at most 255. -/
def Eye.fom (x : Eye) : Nat := min 255 (min (255 * x.h / 250000) (255 * x.w / 500000))

/-- A DFE tap t (1 to 5) of the DFE field, and the field with it changed (R384). -/
def dfeTap (v t : Nat) : Int := let x := v / 2 ^ (6 * (t - 1)) % 64; if x < 32 then x else (x : Int) - 64
def setTap (v t : Nat) (x : Int) : Nat :=
  v - v / 2 ^ (6 * (t - 1)) % 64 * 2 ^ (6 * (t - 1)) + (x % 64).toNat * 2 ^ (6 * (t - 1))

/-- ENG_WEAR of a lane (R367). -/
def laneWear (trend retire : Nat) : Nat := min 0xFFFF (65535 * (255 - trend) / (255 - retire))

/-- WEAR of a lane follows TREND and RETIRE_FOM (R367). -/
def State.wearNow (s : State) (l : Nat) : State := s.wf (engLane l) HDR.WEAR (laneWear (s.rf (engLane l) LN.TREND) (s.rf (engLane l) LN.RETIRE_FOM))

/-- The trend set, with TREND and WEAR. -/
def State.setTrend (s : State) (l t : Nat) : State :=
  let s := s.modLane l fun x => { x with t256 := t, sampled := true }
  (s.wf (engLane l) LN.TREND (t / 256)).wearNow l

/-- One sample of the trend. -/
def nextTrend (t256 fom : Nat) : Nat := ((t256 : Int) + ((fom * 256 : Nat) - (t256 : Int)).tdiv 64).toNat

/-! ### Spare substitution (R371 to R375) -/

/-- The spares of a lane's domain, as units 64 to 67. -/
def sparesOf (l : Nat) : List Nat := if laneDomain l = 8 then [64, 65] else [66, 67]

/-- Spares of a domain that stand in SPARE. -/
def State.laneSpares (s : State) (l : Nat) : List Nat :=
  (s.client.pool.filter fun u => laneDomain u = laneDomain l) ++ (sparesOf l).filter fun u => s.engState (engLane u) = 6

/-- Lanes for which a unit of a PLL is being checked to take over: its PLL has been started in their family (R372). -/
def State.seekingOn (s : State) (d p : Nat) : List Nat :=
  (List.range 64).filter fun m => laneDomain m = d && match (s.lane m).subst with
    | some { step := .check v, .. } => pllOf (engNo (engLane v)) = p
    | _ => false

/-- Whether a spare's PLL serves a lane: stopped, or in the lane's family (R371). -/
def State.spareSuits (s : State) (l u : Nat) : Bool :=
  let p := pllOf (engNo (engLane u))
  (s.onPll (laneDomain l) p ++ s.seekingOn (laneDomain l) p).all fun m => s.sdhFamily m == s.sdhFamily l

/-- LANE_SUBST. -/
def State.substCue (s : State) (l cause old new hit : Nat) : State :=
  s.cue 0x3002 ([byte l, byte cause, byte (laneDomain l), byte old, byte new, 0] ++ le 2 hit)

/-- A unit 0 to 67 by its engine number in a lane's domain. -/
def unitOf (l n : Nat) : Nat := laneOf (eng (laneDomain l) n)

/-- A physical unit leaves service: RETIRED, with the lane it last served (R456, R457). -/
def State.retireUnit (s : State) (u l : Nat) : State :=
  let s := { s with client := { s.client with out := s.client.out.put u l, pool := s.client.pool.filter (· != u) } }
  if u < 64 then s else (s.setEng (engLane u) 5).wf (engLane u) HDR.LUNIT 0xFF

/-- No unit is left for a lane: it stays on its unit, or is RETIRED (R375, R447). -/
def State.noUnit (s : State) (l cause : Nat) : State :=
  let e := engLane l
  let s := s.modLane l fun x => { x with subst := none }
  if cause = 0 then
    if (s.lane l).noSpare then s else (s.modLane l fun x => { x with noSpare := true }).substCue l 0 (s.punit e) 0xFF 0
  else
    let s := { s with client := { s.client with out := s.client.out.put (unitOf l (s.punit e)) l } }
    (s.setEng e 5).noSpare e 1 (locOf e)

/-- A substitution begins, or goes on to the next unit: the reserve first where a unit FAILED, then the lowest spare (R371, R374). -/
def State.seekUnit (s : State) (l cause trend : Nat) : State :=
  let go (s : State) (u cause : Nat) : State := s.modLane l fun x => { x with subst := some { cause := cause, trend := trend, step := .check u } }
  match (s.lane l).reserve with
  | some u => if cause = 0 then spare s go else go (s.modLane l fun x => { x with reserve := none }) u 2
  | none => spare s go
where
  spare (s : State) (go : State → Nat → Nat → State) : State :=
    match (s.laneSpares l).find? fun u => !s.unitsInTest.contains u && s.spareSuits l u with
    | some u => go s u (if cause = 2 then 1 else cause)
    | none => s.noUnit l cause

/-- A lane's unit becomes FAILED (R27, R371, R372). The ENG_FAULT bit is set before. -/
def State.laneFail (s : State) (l : Nat) : State :=
  let e := engLane l
  if s.engState e = 4 || s.engState e = 5 then s
  else
    let trend := s.rf e LN.TREND
    let s := (s.linkOff l 6).failEngine e
    match (s.lane l).subst with
    | some { step := .check u, .. } => s.modLane l fun x => { x with subst := some { cause := 1, trend := trend, step := .check u } }
    | some { step := .freed u, .. } => (s.modLane l fun x => { x with subst := none, reserve := some u }).seekUnit l 1 trend
    | none => s.seekUnit l 1 trend

/-- A unit that passed its self-check takes over a lane (R23, R372, R456): ENG_SUBST, LANE_SUBST, SPARE_TAKEN. -/
def State.cutOver (s : State) (l u : Nat) (x : Subst) (hit : Nat) : State :=
  let e := engLane l
  let old := unitOf l (s.punit e)
  let n := engNo (engLane u)
  let s := ((s.wf e HDR.PUNIT n).bump e HDR.NSUBST).endLoop l
  let s := { s with client := { s.client with pool := s.client.pool.filter (· != u) } }
  let s := if u < 64 then s else (s.setEng (engLane u) 2).wf (engLane u) HDR.LUNIT (engNo e)
  let s := s.modLane l fun y => { y with sampled := false, subst := none }
  let s :=
    if x.cause = 0 then s.modLane l fun y => { y with subst := some { x with step := .freed old } }
    else ((s.retireUnit old l).setEng e 1).startGroup l
  let s := s.substCue l x.cause (engNo (engLane old)) n hit
  s.spareTaken e 1 (if x.cause = 0 then 0 else 1) (locOf e) (s.laneSpares l).length

/-- The freed unit's own self-check (R374). -/
def State.freedCheck (s : State) (l u : Nat) (x : Subst) (pass : Bool) : State :=
  let s := s.modLane l fun y => { y with subst := none }
  if pass then
    let s := (s.modLane l fun y => { y with reserve := some u, noTrend := true }).wf (engLane l) LN.EXT 1
    s.cue 0x3003 [byte l, byte x.trend, byte (s.rf (engLane l) LN.FOM), 0]
  else s.retireUnit u l

/-- A falling trend starts a substitution (R367, R374, R375). -/
def State.trendFalls (s : State) (l : Nat) : State :=
  let e := engLane l
  if (s.lane l).t256 < s.rf e LN.RETIRE_FOM * 256 && !(s.lane l).noTrend && (s.lane l).subst.isNone then s.seekUnit l 0 (s.rf e LN.TREND)
  else s

end Sys2Proof.Machine
end

