-- ==== Sys2Proof/Machine/LaneRows.lean ====
section
/-! DEFINITION. Lane events and the lane commands (R355 to R375, R383). -/
namespace Sys2Proof.Machine

/-- Whether a loop stands on a lane, which stops auto-negotiation (R368). -/
def State.looped (s : State) (l : Nat) : Bool := s.rf (engLane l) LN.LOOP ≠ 0

/-- Whether bring-up of a lane goes on: its engine runs and no loop stands. -/
def State.bringsUp (s : State) (l : Nat) : Bool := s.laneWorks l && !s.looped l

/-! ### LOS and synchronisation (R361, R364) -/

/-- LANE_LOS_DECLARE (R361). -/
def execLaneLosDeclare (lane : Fin 64) (s : State) : Host.Outcome State Fault Refusal :=
  let l := lane.val
  let e := engLane l
  if !(s.laneWorks l && s.fromLine l) || s.on e LN.LOS then .next s
  else
    let s := ((s.wf e LN.LOS 1).wf e LN.LOS_SEEN 1).bump e LN.LN_LOS_CNT
    if s.laneMode l = 3 then .next (s.sdhLos l true) else .next ((s.syncGone l).linkLost l 1)

/-- LANE_LOS_CLEAR (R361, R366): the CDR has locked, and the search that follows found these settings. In a near-end loop the receiver sees the lane's own signal. -/
def execLaneLosClear (lane : Fin 64) (eye : Eye) (ctle : BitVec 4) (dfe : BitVec 30) (s : State) : Host.Outcome State Fault Refusal :=
  let l := lane.val
  let e := engLane l
  if !(s.laneWorks l && s.on e LN.LOS) then .next s
  else
    let s := ((((s.wf e LN.LOS 0).wf e LN.FOM eye.fom).wf e LN.CTLE ctle.toNat).wf e LN.DFE dfe.toNat)
    .next (if s.laneMode l = 3 then s.sdhLos l false else s)

/-- LANE_SYNC_ACQUIRED (R359, R364, R365): a lane in sync, or with `aligned` the quad group aligned. The link comes up where no exchange or
step is running, for a quad that has switched to its group rate, and in a loop, which has stopped the exchange. -/
def execLaneSyncAcquired (lane : Fin 64) (aligned : Bool) (s : State) : Host.Outcome State Fault Refusal :=
  let l := lane.val
  let h := s.head l
  if !s.laneWorks l || s.laneMode l = 3 then .next s
  else if s.laneMode l ≠ 2 then
    let s := s.wf (engLane l) LN.SYNC 1
    .next (if (s.lane l).step = .done || s.looped l then s.linkUp l else s)
  else if !aligned then .next (s.wf (engLane l) LN.SYNC 1)
  else
    let up := match (s.lane h).step with
      | .done => true
      | .stepping _ => true
      | _ => s.looped h
    .next (if up then (s.wf (engLane h) LN.ALIGNED 1).linkUp h else s)

/-- LANE_SYNC_LOSS (R359, R361, R364): a lane loses sync, or with `align` a quad group loses alignment. A member's loss of sync is a loss
of alignment too. -/
def execLaneSyncLoss (lane : Fin 64) (align : Bool) (s : State) : Host.Outcome State Fault Refusal :=
  let l := lane.val
  let h := s.head l
  if !(s.laneWorks l && s.fromLine l) || s.laneMode l = 3 then .next s
  else
    .next ((if align then s.alignGone h else s.syncGone l).linkLost l 2)

/-! ### The lane-speed exchange and rate steps (R362, R363, R365) -/

/-- RATES that a lane sends: the highest it may step to, lowered by CAP (R362, R363). -/
def State.ownRates (s : State) (l : Nat) : Nat :=
  let r := ratesOf (s.rf (engLane l) LN.RATE)
  if s.laneMode l = 2 then r else min r (s.rf (engLane l) LN.CAP)

/-- Whether a lane takes no part in the exchange: one of its own with RATE 0x01 (R362). -/
def State.noExchange (s : State) (l : Nat) : Bool := s.laneMode l != 2 && s.rf (engLane l) LN.RATE = 1

/-- The pages that a lane has sent at its present rate (R362). -/
def State.sendPages (s : State) (l : Nat) : State :=
  s.emit (.pages { lane := l, np := !s.noExchange l, rates := s.ownRates l, quad := s.laneMode l = 2, step := s.rf (engLane l) LN.RATE_NOW - 1 })

/-- RATES of a partner's page: none, or the reserved value, is 1.25 Gbaud. -/
def pageRates (page : Option (BitVec 11)) : Nat :=
  match page with
  | none => 0
  | some p => if p.toNat % 4 = 3 then 0 else p.toNat % 4

/-- A partner's page shown in LN_PARTNER. -/
def State.notePage (s : State) (l : Nat) (page : Option (BitVec 11)) : State :=
  match page with
  | none => s
  | some p => (s.wf (engLane l) LN.PARTNER p.toNat).wf (engLane l) LN.PVALID 1

/-- A quad member has agreed; when all four have, they switch together to the group rate (R365). -/
def State.memberReady (s : State) (l : Nat) : State :=
  let s := s.modLane l fun x => { x with ready := true }
  let ms := s.members l
  if ms.all fun m => (s.lane m).ready then
    ms.foldl (fun s m =>
      let r := s.rf (engLane m) LN.RATE
      ((s.wf (engLane m) LN.RATE_NOW r).wf (engLane m) LN.SYNC 0).modLane m fun x => { x with step := .stepping (ratesOf r), ready := false }) s
  else s

/-- LANE_SPEED_EXCHANGE_DONE (R362, R363, R365): `page` is the unformatted page received, if the partner sent one. -/
def execLaneSpeedExchangeDone (lane : Fin 64) (page : Option (BitVec 11)) (s : State) : Host.Outcome State Fault Refusal :=
  let l := lane.val
  if !(s.bringsUp l && (s.lane l).step = .pages) || s.laneMode l = 3 || !s.on (engLane l) LN.AN then .next s
  else
    let s := s.sendPages l
    let page := if s.noExchange l then none else page
    let s := s.notePage l page
    if s.laneMode l = 2 then
      let quad := (page.map fun p => p.getLsbD 2).getD false
      if !quad then .next (s.quadFail l true)
      else if pageRates page < ratesOf (s.rf (engLane l) LN.RATE) then .next (s.quadFail l false)
      else .next (s.memberReady l)
    else
      let agreed := min (s.ownRates l) (pageRates page)
      if agreed = 0 then .next (s.linkUp l) else .next (s.modLane l fun x => { x with step := .switchDue agreed })

/-- RATE_STEP_SWITCH (R363 step 4). -/
def execRateStepSwitch (lane : Fin 64) (s : State) : Host.Outcome State Fault Refusal :=
  let l := lane.val
  let e := engLane l
  match (s.lane l).step, s.bringsUp l with
  | .switchDue a, true =>
    .next (((s.wf e LN.RATE_NOW (s.rf e LN.RATE_NOW + 1)).wf e LN.SYNC 0).modLane l fun x => { x with step := .stepping a })
  | _, _ => .next s

/-- RATE_STEP_COMPLETE (R363 steps 5 and 6): lock, adaptation to `eye`, sync and the exchange at the new rate. A FOM below STEP_FOM does not complete it. -/
def execRateStepComplete (lane : Fin 64) (eye : Eye) (page : Option (BitVec 11)) (s : State) : Host.Outcome State Fault Refusal :=
  let l := lane.val
  let e := engLane l
  match (s.lane l).step, s.bringsUp l && s.laneMode l != 2 && decide (eye.fom ≥ s.rf e LN.STEP_FOM) with
  | .stepping a, true =>
    let s := (((s.sendPages l).notePage l page).wf e LN.FOM eye.fom).wf e LN.SYNC 1
    if s.rf e LN.RATE_NOW < a + 1 then .next (s.modLane l fun x => { x with step := .switchDue a }) else .next (s.linkUp l)
  | _, _ => .next s

/-- RATE_STEP_TIMEOUT (R363, R365): 20 ms have passed since a switch. -/
def execRateStepTimeout (lane : Fin 64) (s : State) : Host.Outcome State Fault Refusal :=
  let l := lane.val
  let e := engLane l
  match (s.lane l).step, s.bringsUp l with
  | .stepping _, true =>
    if s.laneMode l = 2 then .next (s.quadFail l false)
    else
      let s := ((s.wf e LN.CAP (s.rf e LN.RATE_NOW - 2)).wf e LN.STEP_FAIL 1).bump e LN.LN_STEP_FAIL
      .next ((s.startLane l).linkCue l false 3)
  | _, _ => .next s

/-- QUAD_RETRY_TIMER (R365). -/
def execQuadRetryTimer (quad : Fin 16) (s : State) : Host.Outcome State Fault Refusal :=
  let l := quad.val * 4
  if s.laneMode l = 2 && s.bringsUp l && (s.lane l).step = .retry then .next (s.startGroup l) else .next s

/-! ### Adaptation and trend (R366, R367) -/

/-- One step of one setting tried (R366): kept where it stays in range and FOM does not fall. -/
def State.tryStep (s : State) (e : Nat) (t : TryStep) : State :=
  let d : Int := if t.up then 1 else -1
  let keep (s : State) : State := s.wf e LN.FOM t.eye.fom
  if t.eye.fom < s.rf e LN.FOM then s
  else if t.setting.val = 0 then
    let c := (s.rf e LN.CTLE : Int) + d
    if 0 ≤ c && c ≤ 15 then keep (s.wf e LN.CTLE c.toNat) else s
  else
    let x := dfeTap (s.rf e LN.DFE) t.setting.val + d
    if -31 ≤ x && x ≤ 31 then keep (s.wf e LN.DFE (setTap (s.rf e LN.DFE) t.setting.val x)) else s

/-- ADAPTATION_REPEAT (R366): the height and width of the eye now, the steps that are tried, in the order they are (the setting, 0 for CTLE and t for
DFE tap t, and whether up), and the eye with each. -/
def execAdaptationRepeat (lane : Fin 64) (h w : Nat) (steps : List (Fin 6 × Bool)) (eyes : List Eye) (s : State) : Host.Outcome State Fault Refusal :=
  let e := engLane lane.val
  .next (if !s.bringsUp lane.val || s.laneTesting lane.val || s.on e LN.LOS then s
    else (triesOf steps eyes).foldl (fun s t => s.tryStep e t) (s.wf e LN.FOM (Eye.mk h w).fom))

/-- FOM_TREND_UPDATE (R367): the once-a-second sample. -/
def execFomTrendUpdate (lane : Fin 64) (eye : Eye) (s : State) : Host.Outcome State Fault Refusal :=
  let l := lane.val
  let e := engLane l
  let up := if s.laneMode l = 3 then !s.on e LN.LOS else s.on (engLane (s.head l)) LN.LINK
  if !(s.laneWorks l && up && s.rf e LN.LOOP = 0) then .next s
  else
    let x := s.lane l
    let s := (s.wf e LN.FOM eye.fom).setTrend l (if x.sampled then nextTrend x.t256 eye.fom else eye.fom * 256)
    let s := if s.rf e LN.TREND ≥ s.rf e LN.RETIRE_FOM + 8 then s.modLane l fun x => { x with noSpare := false } else s
    .next (s.trendFalls l)

/-! ### Self-checks (R370, R372, R374) -/

/-- The substitution that tests a unit, with its lane. -/
def State.substOf (s : State) (u : Nat) : Option (Nat × Subst) :=
  (s.client.lanes.find? fun x => match x.2.subst with
    | some { step := .check v, .. } => v == u
    | some { step := .freed v, .. } => v == u
    | none => false).bind fun x => x.2.subst.map fun y => (x.1, y)

/-- The logical lane that a unit serves, if it serves one. -/
def State.servedBy (s : State) (u : Nat) : Option Nat :=
  ((List.range 64).find? fun l => laneDomain l = laneDomain u && s.punit (engLane l) = engNo (engLane u))

/-- A unit that was to take over failed its self-check: FAILED, RETIRED if it was the lane's reserve; the next one is sought (R371). -/
def State.checkFailed (s : State) (l u : Nat) (x : Subst) : State :=
  let s := if u < 64 then s.retireUnit u l else (s.wf (engLane u) HDR.SELFTEST 1).failEngine (engLane u)
  s.seekUnit l x.cause x.trend

/-- A self-check of a unit completes, passed or not; `live` and `hit` are the FOM on the live signal and the hit of a cut (R372). -/
def State.selfChecked (s : State) (u : Nat) (pass : Bool) (live hit : Nat) : State :=
  match s.substOf u with
  | some (l, { cause := c, trend := t, step := .check v }) =>
    let x : Subst := { cause := c, trend := t, step := .check v }
    if pass then (s.wf (engLane l) LN.FOM live).cutOver l u x hit else s.checkFailed l u x
  | some (l, x) => s.freedCheck l u x pass
  | none =>
    if s.client.checking.contains u then
      let s := { s with client := { s.client with checking := s.client.checking.filter (· != u) } }
      if pass then s
      else if u < 64 then s.retireUnit u u
      else (s.wf (engLane u) HDR.SELFTEST 1).failEngine (engLane u)
    else
      match s.servedBy u with
      | some l =>
        let e := engLane l
        if s.engState e = 1 && !(s.lane l).checked then
          if pass then ((s.modLane l fun y => { y with checked := true }).initDone e).startLane l
          else (s.wf e HDR.SELFTEST 1).laneFail l
        else s
      | none => s

/-- RETIRE_FOM that judges a unit: the lane's it serves or is to serve, else its own window's. -/
def State.retireFom (s : State) (u : Nat) : Nat :=
  match s.substOf u with
  | some (l, _) => s.rf (engLane l) LN.RETIRE_FOM
  | none => s.rf (engLane ((s.servedBy u).getD u)) LN.RETIRE_FOM

/-- The window that shows a unit's test: the lane it serves, or a spare's own. -/
def State.testWindow (s : State) (u : Nat) : Nat := engLane ((s.servedBy u).getD u)

/-- A unit's self-check (R370): PRBS31 in the near-end serial loop for 1 ms on a unit: bit errors, checker lock, the eye at the end; then, where a
cut follows, the eye on the live signal and the hit in µs. -/
def State.selfCheckRow (s : State) (unit : Fin 68) (errors : Word) (lock : Bool) (eye live : Eye) (hit : BitVec 16) : State :=
  let u := unit.val
  let due := (s.substOf u).isSome || s.client.checking.contains u ||
    ((s.servedBy u).map fun l => s.engState (engLane l) = 1 && !(s.lane l).checked).getD false
  if !due then s
  else
    let pass := lock && errors = 0 && decide (eye.fom ≥ s.retireFom u)
    (s.wf (s.testWindow u) LN.PRBS_ERR errors.toNat).selfChecked u pass live.fom hit.toNat

/-- SPARE_SELF_CHECK_TIMER (R370): the daily check of each idle spare begins. -/
def execSpareSelfCheckTimer (s : State) : Host.Outcome State Fault Refusal :=
  let idle := (s.client.pool ++ [64, 65, 66, 67].filter fun u => s.engState (engLane u) = 6).filter fun u => !s.unitsInTest.contains u
  .next { s with client := { s.client with checking := s.client.checking ++ idle.filter fun u => !s.client.checking.contains u } }

/-! ### LANE_MODE (R355, R356) -/

/-- Whether RATE is allowed for MODE (R355). -/
def rateOk (mode rate : Nat) : Bool :=
  match mode with
  | 2 => rate = 2 || rate = 3
  | 3 => rate = 0x11 || rate = 0x12 || rate = 0x13
  | _ => 1 ≤ rate && rate ≤ 3

/-- The lanes that a LANE_MODE changes: the quad that is left or formed, or the lane. -/
def State.modeLanes (s : State) (l mode : Nat) : List Nat :=
  if mode = 2 || s.laneMode l = 2 then (List.range 4).map fun i => l / 4 * 4 + i else [l]

/-- Whether a page holds a structure or connection on a lane. -/
def TdmPage.onLane (p : TdmPage) (l : Nat) : Bool :=
  (p.structs.any fun x => x.1 / 16 == l && x.2.1 != 0) ||
    p.conns.any fun c => (c.1 < 64512 && slotLane c.1 = l) || (c.2.2 < 64512 && slotLane c.2.2 = l)

/-- Whether something holds a lane in SDH mode (LANE_MODE, COLLISION). -/
def State.sdhHeld (s : State) (l : Nat) : Bool :=
  s.tdm.act.onLane l || s.tdm.stby.onLane l || s.tdm.mons.any fun m => m.1 / 2 ^ 28 ≥ 3 && slotLane (m.1 % 2 ^ 28) = l

/-- Whether the family rule of R356 would break: a unit on the lane's PLL, not OFF, runs in the other family. -/
def State.familyBreaks (s : State) (l mode : Nat) (ls : List Nat) : Bool :=
  ls.any fun m =>
    (s.onPll (laneDomain m) (pllOf (s.punit (engLane m)))).any fun o => !ls.contains o && s.sdhFamily o != (mode == 3 && m == l)

/-- The checks of LANE_MODE that the state decides. -/
def State.modeChecks (s : State) (l mode : Nat) : Chk :=
  let ls := s.modeLanes l mode
  let pairs := ((List.range 64).filter fun m => m != l && s.laneMode m = 4).length
  let inQuad := s.laneMode l = 2
  checks
    [param (ls.all fun m => s.engState (engLane m) = 0) 0, param (!(mode = 2 && l % 4 ≠ 0)) 0,
     param (!s.familyBreaks l mode ls) 1,
     param (!(mode = 4 && (pairs ≥ 2 || l = s.mgmtLane || inQuad))) 1,
     param (!(mode = 2 && ls.contains s.mgmtLane && s.mgmtLane % 4 ≠ 0)) 1]

/-- One lane's mode set; CAP and EXT are cleared. -/
def State.setMode (s : State) (l mode rate an member : Nat) : State :=
  let e := engLane l
  let s := (((s.wf e LN.MODE mode).wf e LN.RATE rate).wf e LN.AN an).wf e LN.MEMBER member
  (((s.wf e LN.CAP 2).wf e LN.EXT 0).modLane l fun x => { x with noTrend := false }).startLane l

/-- LANE_MODE's change. -/
def State.changeMode (s : State) (l mode rate an : Nat) : State :=
  let s := s.endLoop l
  let s := if s.laneMode l = 3 then s.clearSdh l else s
  let s := if s.laneMode l = 2 then ((List.range 4).foldl (fun s i => s.setMode (l / 4 * 4 + i) 1 1 1 0) s) else s
  if mode = 2 then (List.range 4).foldl (fun s i => s.setMode (l + i) 2 rate an i) s else s.setMode l mode rate an 0

/-- The domain of a lane that a payload names. -/
def laneDomains (p : List Byte) : List Nat := if fld p 0 1 < 64 then [laneDomain (fld p 0 1)] else []

/-- LANE_MODE from order 11 on. -/
def laneMode (p : List Byte) (s : State) : Act :=
  let l := fld p 0 1
  let mode := fld p 1 1
  let e := engLane l
  if s.substRuns l then .say s St.busy 7
  else
    match s.modeChecks l mode with
    | some f => .fail s f
    | none =>
      if s.laneMode l = mode && s.rf e LN.RATE = fld p 2 1 && s.rf e LN.AN = fld p 3 1 then .say s St.noChange
      else if s.laneMode l = 3 && mode ≠ 3 && s.sdhHeld l then .say s St.collision
      else if s.laneMode l = 4 && mode ≠ 4 && s.pon.pair.on && s.pairLanes = [l] then .say s St.collision
      else .say (s.changeMode l mode (fld p 2 1) (fld p 3 1)) St.ok

def laneModeCmd : Cmd where
  op := 0x0300
  len := fun n => n = 8
  stage := true
  domains := fun r _ => laneDomains r.payload
  params := fun _ r _ =>
    let p := r.payload
    checks
      [param (fld p 0 1 < 64) 0, param (1 ≤ fld p 1 1 && fld p 1 1 ≤ 4) 1, param (rateOk (fld p 1 1) (fld p 2 1)) 2,
       param (fld p 3 1 = 0 || fld p 3 1 = 1 && fld p 1 1 ≠ 3) 3, resv p 4 4]
  act := fun _ r s => laneMode r.payload s

/-- LANE_MODE (R355). -/
def execLaneMode (r : Req) (s : State) : Host.Outcome State Fault Refusal := .next (runCmd laneModeCmd r s)

/-! ### LANE_LOOP, LANE_TEST, MAC_SNAPSHOT -/

/-- Whether a test or self-check runs on a lane. -/
def State.laneBusy (s : State) (l : Nat) : Bool := s.substRuns l || (s.engState (engLane l) = 1 && !(s.lane l).checked)

def laneLoopCmd : Cmd where
  op := 0x0301
  len := fun n => n = 4
  domains := fun r _ => laneDomains r.payload
  params := fun _ r s =>
    let p := r.payload
    let l := fld p 0 1
    checks [param (l < 64 && s.head l = l) 0, param (fld p 1 1 ≤ 3) 1, resv p 2 2]
  act := fun _ r s =>
    let l := fld r.payload 0 1
    let k := fld r.payload 1 1
    if s.laneBusy l then .say s St.busy 7
    else if !s.isOn (engLane l) then .say s St.notReady
    else if s.rf (engLane l) LN.LOOP = k then .say s St.noChange
    else
      let s := s.endLoop l
      .say ((s.members l).foldl (fun s m => s.wf (engLane m) LN.LOOP k) s) St.ok

/-- LANE_LOOP (R368). -/
def execLaneLoop (r : Req) (s : State) : Host.Outcome State Fault Refusal := .next (runCmd laneLoopCmd r s)

/-- A PRBS test's outcome: bits checked and errors after lock, lock, the eye at the end. -/
structure Prbs where
  bits : BitVec 64
  errors : Word
  lock : Bool
  eye : Eye

/-- LANE_TEST's run (R369, R370): the link is down throughout, and the lane starts again; a failed self-check fails the unit. -/
def laneTest (t : Prbs) (p : List Byte) (s : State) : Act :=
  let l := fld p 0 1
  let e := engLane l
  if s.laneBusy l then .say s St.busy 7
  else if !s.isOn e then .say s St.notReady
  else
    let errors := if t.lock then t.errors.toNat else 0
    let bits := if t.lock then t.bits.toNat else 0
    let s := ((s.linkAgain l 5).wf e LN.PRBS_ERR errors).wf e LN.FOM t.eye.fom
    let bad := fld p 1 1 = 3 && fld p 2 1 = 1 && !(t.lock && errors = 0 && t.eye.fom ≥ s.rf e LN.RETIRE_FOM)
    let s := if bad then (s.wf e HDR.SELFTEST 1).laneFail l else s
    { st := s, payload := le 8 bits ++ le 4 errors ++ [byte (bit t.lock), byte t.eye.fom, 0, 0] }

def laneTestCmd (t : Prbs) : Cmd where
  op := 0x0302
  len := fun n => n = 8
  domains := fun r _ => laneDomains r.payload
  params := fun _ r _ =>
    let p := r.payload
    checks
      [param (fld p 0 1 < 64) 0, param (1 ≤ fld p 1 1 && fld p 1 1 ≤ 3) 1, param (fld p 2 1 ≤ 2) 2, resv p 3 1,
       param (1 ≤ fld p 4 2 && fld p 4 2 ≤ 10000) 4, resv p 6 2]
  act := fun _ r s => laneTest t r.payload s

/-- LANE_TEST (R369). -/
def execLaneTest (r : Req) (bits : BitVec 64) (errors : Word) (lock : Bool) (eye : Eye) (s : State) : Host.Outcome State Fault Refusal :=
  .next (runCmd (laneTestCmd { bits := bits, errors := errors, lock := lock, eye := eye }) r s)

def macSnapshotCmd : Cmd where
  op := 0x0303
  len := fun n => n = 4
  domains := fun r _ => laneDomains r.payload
  params := fun _ r _ => checks [param (fld r.payload 0 1 < 64) 0, resv r.payload 1 3]
  act := fun _ r s =>
    let l := fld r.payload 0 1
    { st := s.modMac l fun m => { m with counts := [] }, payload := (List.range 32).flatMap fun i => le 8 ((s.mac l).counts.get i 0) }

/-- MAC_SNAPSHOT (R383). -/
def execMacSnapshot (r : Req) (s : State) : Host.Outcome State Fault Refusal := .next (runCmd macSnapshotCmd r s)

end Sys2Proof.Machine
end

