-- ==== Sys2Proof/Machine/MacRows.lean ====
section
/-! DEFINITION. MAC receive and transmit, departure stamps, received and sent PFC (R84, R376 to R382, R396 to R401). -/
namespace Sys2Proof.Machine

/-! ### Departure stamps (R399 to R401) -/

/-- An entry for the transmit stamp queue of 64; a full queue discards the new one (R401). -/
def State.pushStamp (s : State) (x : StampEntry) : State :=
  if s.clk.stamps.length < 64 then { s with clk := { s.clk with stamps := s.clk.stamps ++ [x] } }
  else
    let s := s.bump engStq STQ.STQ_OVF_CNT
    if s.on engStq STQ.OVF then s
    else (s.wf engStq STQ.OVF 1).cue 0x8005 (le 2 x.id ++ [byte x.lane, 0] ++ le 4 (s.rf engStq STQ.STQ_OVF_CNT))

/-- One's-complement addition of 16 bits. -/
def onesAdd (a b : Nat) : Nat := let t := a + b; t % 2 ^ 16 + t / 2 ^ 16

/-- The 16-bit words at an even offset. -/
def words16 (b : List Byte) (off n : Nat) : List Nat := (List.range n).map fun i => beVal (part b (off + 2 * i) 2)

/-- A checksum adjusted for changed bytes, by the incremental method of RFC 1624. -/
def adjustSum (old new : List Byte) (off len csum : Nat) : List Byte :=
  let o := off / 2 * 2
  let n := (off % 2 + len + 1) / 2
  let hc := beVal (part old csum 2)
  let t := ((words16 old o n).map fun w => 0xFFFF - w) ++ words16 new o n
  setAt new csum (be 2 (0xFFFF - t.foldl onesAdd (0xFFFF - hc)))

/-- The departure stamp in the frame, in clapper mode (R400): 6 bytes of seconds, 4 of nanoseconds, and the checksum adjusted. -/
def clap (x : PtpOut) (sec ns : Nat) : List Byte :=
  let b := setAt x.bytes x.insOff (be 6 sec ++ be 4 ns)
  if x.csumOff = 0 then b else adjustSum x.bytes b x.insOff 10 x.csumOff

/-- A PTP frame leaves: its stamp is inserted or queued (R399). -/
def State.sendPtp (s : State) (l : Nat) (x : PtpOut) : State :=
  let s := (s.bump engStq STQ.PTP_TX_CNT).countTx l x.bytes.length
  if !x.stamp then s.laneOut l x.bytes (.laneFrame l x.bytes)
  else if s.on engStq STQ.CLAPPER then
    let b := clap x s.nowSec s.nowNsPart
    (s.laneOut l b (.laneFrame l b)).bump engStq STQ.CLAPPER_CNT
  else (s.laneOut l x.bytes (.laneFrame l x.bytes)).pushStamp { id := x.id, lane := l, discarded := false, sec := s.nowSec, ns := s.nowNsPart }

/-- A PTP frame discarded before it leaves (R379, R401). -/
def State.dropPtp (s : State) (l : Nat) (x : PtpOut) : State :=
  let s := s.macAdd l Mac.txDrop 1
  if x.stamp then s.pushStamp { id := x.id, lane := l, discarded := true, sec := 0, ns := 0 } else s

/-! ### Transmit (R378, R379) -/

/-- What a MAC sends next (R378). -/
inductive TxNext where
  | ptp (x : PtpOut)
  | mgmt
  | user (prio : Nat) (f : TxFrame)
  | nothing

/-- The next frame: PTP frames, then management frames, then by strict priority, skipping paused ones. -/
def State.txNext (s : State) (l : Nat) : TxNext :=
  let m := s.mac l
  match m.ptp with
  | x :: _ => .ptp x
  | [] =>
    if s.opt.inBand && s.mgmtLane = l && s.bandPacket.isSome then .mgmt
    else
      let ok := [7, 6, 5, 4, 3, 2, 1, 0].filter fun p => !bitOf (s.rf (engMac l) MAC.RX_PAUSED) p
      match ok.find? fun p => !(m.txq.get p []).isEmpty with
      | none => .nothing
      | some p =>
        match m.txq.get p [] with
        | f :: _ => .user p f
        | [] => .nothing

/-- The next management packet leaves the lane, or is discarded (R45, R84, R379). -/
def State.mgmtTx (s : State) : State :=
  let l := s.mgmtLane
  let off := !s.canSend l
  let b := s.mgmtNext
  if !s.bandPacket.isSome then s
  else (if off then s.macAdd l Mac.txDrop 1 else (s.countTx l b.length).laneOut l b (.mgmt b)).bandSent

/-- A MAC's next frame (R378, R379); with `abort` it is cut while it is sent. A far-end loop discards
what the MAC would send (R368). -/
def State.macTx (s : State) (l : Nat) (abort : Bool) : State :=
  let loop := s.rf (engLane l) LN.LOOP = 3
  let open_ := s.on (engLane l) LN.LINK && !s.squelched l
  if !s.works (engMac l) then s
  else
    match s.txNext l with
    | .nothing => s
    | .mgmt => s.mgmtTx
    | .ptp x =>
      if !open_ then s
      else
        let s := s.modMac l fun m => { m with ptp := m.ptp.drop 1 }
        (if loop then s.dropPtp l x else if abort then s.macAdd l Mac.txAbort 1 else s.sendPtp l x)
    | .user p f =>
      if !open_ then s
      else
        let b := s.readPages f.pages f.len
        let s := (s.freePages f.pages).modMac l fun m => { m with txq := m.txq.upd p [] fun q => q.drop 1 }
        (if loop then s.macAdd l Mac.txDrop 1 else if abort then s.macAdd l Mac.txAbort 1
          else (s.countTx l f.len).laneOut l b (.laneFrame l b))

/-! ### Priority flow control (R380, R381) -/

/-- PFC_PAUSE_EXPIRY (R380). -/
def execPfcPauseExpiry (lane : Fin 64) (prio : Fin 8) (s : State) : Host.Outcome State Fault Refusal :=
  let e := engMac lane.val
  let v := s.rf e MAC.RX_PAUSED
  .next (if bitOf v prio.val then s.wf e MAC.RX_PAUSED (v - 2 ^ prio.val) else s)

/-- PFC_REFRESH_TIMER (R381). -/
def execPfcRefreshTimer (lane : Fin 64) (prio : Fin 8) (s : State) : Host.Outcome State Fault Refusal :=
  let l := lane.val
  let e := engMac l
  let p := prio.val
  if s.canSend l && s.carries l && bitOf (s.rf e MAC.PFC_EN) p && bitOf (s.rf e MAC.TX_XOFF) p && s.fifoFill l p ≥ s.rf e MAC.XON * 256 then
    .next (s.sendPfc l [(p, s.rf e MAC.PFC_QUANTA)])
  else .next s

/-- One priority of a received PFC frame (R380): the timer restarts, or ends with 0; outside PFC_EN it only counts. -/
def State.pfcBit (s : State) (l p quanta : Nat) : State :=
  let e := engMac l
  let s := s.macAdd l (Mac.rxPause p) 1
  let v := s.rf e MAC.RX_PAUSED
  if !bitOf (s.rf e MAC.PFC_EN) p then s
  else if quanta = 0 then (if bitOf v p then s.wf e MAC.RX_PAUSED (v - 2 ^ p) else s)
  else s.wf e MAC.RX_PAUSED (v ||| 2 ^ p)

/-- A received PFC frame. -/
def State.pfcRx (s : State) (l : Nat) (b : List Byte) : State :=
  let vec := beVal (part b 16 2)
  ((List.range 8).filter fun p => bitOf vec p).foldl (fun s p => s.pfcBit l p (beVal (part b (18 + 2 * p) 2))) (s.macAdd l Mac.rxPfc 1)

/-! ### Receive (R377) -/

/-- Whether a frame is management traffic under R84, and where its subtype stands. -/
def State.mgmtFrame (s : State) (l : Nat) (b : List Byte) : Option Nat :=
  if !(s.opt.inBand && l = s.mgmtLane && b.take 6 = be 6 s.opt.mac.toNat) then none
  else if fbe b 12 2 = 0x88B5 then some 14
  else if fbe b 12 2 = 0x8100 && fbe b 14 2 % 2 ^ 12 = s.opt.vid && fbe b 16 2 = 0x88B5 then some 18
  else none

/-- Destination addresses of port PTP frames, but for the lane's own (R398). -/
def ptpAddrs : List (List Byte) :=
  [[0x01, 0x1B, 0x19, 0, 0, 0], [0x01, 0x80, 0xC2, 0, 0, 0x0E], [0x01, 0, 0x5E, 0, 0x01, 0x81], [0x01, 0, 0x5E, 0, 0, 0x6B],
   [0x33, 0x33, 0, 0, 0x01, 0x81], [0x33, 0x33, 0, 0, 0, 0x6B]]

/-- Whether a frame carries PTP, untagged or with one tag (R398). -/
def carriesPtp (b : List Byte) : Bool :=
  let p := parseFrame (pwin b 256) false
  p.special = 3 && p.layers = 0 && p.labels = 0 && p.tags ≤ 1

/-- PTP_PORT_EN of a lane. -/
def State.ptpPort (s : State) (l : Nat) : Bool :=
  bitOf (s.rf engStq STQ.PTP_PORT_EN_LO + 2 ^ 32 * s.rf engStq STQ.PTP_PORT_EN_HI) l

/-- Whether a frame is a port PTP frame (R398). -/
def State.portPtp (s : State) (l : Nat) (b : List Byte) : Bool :=
  s.ptpPort l && (s.macAddr l :: ptpAddrs).contains (b.take 6) && carriesPtp b

/-- A port PTP frame: cue PTP_RX with its receive stamp in ns (R398). -/
def State.ptpRx (s : State) (l : Nat) (b : List Byte) (at_ : Nat) : State :=
  (s.bump engStq STQ.PTP_RX_CNT).cue 0x8006
    ([byte l, 0] ++ le 2 b.length ++ le 6 (at_ / 1000000000) ++ [0, 0] ++ le 4 (at_ % 1000000000) ++ b)

/-- A heartbeat frame on a pair-link lane goes to the pair function, anything else is discarded (R376). -/
def State.pairRx (s : State) (l : Nat) (b : List Byte) : State :=
  if fbe b 12 2 = 0x88B5 && fbe b 14 2 = 0x5048 then
    (s.macAdd l Mac.rxMgmt 1).modPair fun p => { p with hbIn := p.hbIn ++ [part b 16 32] }
  else s.macAdd l Mac.rxDiscard 1

/-- Orders 8 and 9: into the input FIFO of its priority, or discarded. -/
def State.intoFifo (s : State) (l : Nat) (b : List Byte) (at_ : Nat) : State :=
  if s.fifoFill l (framePcp b) + b.length + 4 > 32768 then s.macAdd l Mac.rxFifoDrop 1
  else
    let x : ClsIn := { down := false, lane := l, bytes := b, arrival := at_ % 2 ^ 32, pages := [] }
    (((s.macAdd l Mac.rxFrames 1).macAdd l Mac.rxBytes (b.length + 4)).modCls fun c => { c with inq := c.inq ++ [x] }).pfcWatch l

/-- A frame that the length and FCS checks passed: orders 5 to 9 of R377, but for a management frame. -/
def State.macAccept (s : State) (l : Nat) (b : List Byte) (at_ : Nat) : State :=
  if s.laneMode l = 4 then s.pairRx l b
  else if s.portPtp l b then (s.macAdd l Mac.rxMgmt 1).ptpRx l b at_
  else if fbe b 12 2 = 0x8808 then (if fbe b 14 2 = 0x0101 then s.pfcRx l b else s.macAdd l Mac.rxCtrl 1)
  else s.intoFifo l b at_

/-- Orders 1 to 4 of R377: the counter under which a frame with FCS is discarded. -/
def State.macRefuses (s : State) (l : Nat) (frame : List Byte) (bad : Bool) : Option Nat :=
  let e := engMac l
  let n := frame.length
  let b := frame.take (n - 4)
  if bad then some Mac.rxErr
  else if n < s.rf e MAC.MIN_FRAME then some Mac.runtDrop
  else if n > (if (s.mgmtFrame l b).isSome then 4200 else s.rf e MAC.MAX_FRAME) then some Mac.rxLong
  else if le 4 (crc32 b).toNat ≠ frame.drop (n - 4) then some Mac.rxFcsErr
  else none

end Sys2Proof.Machine
end

