-- ==== Sys2Proof/Machine/TimeRows.lean ====
section
/-! DEFINITION. Samples, the servo, PPS, and the time commands (R387 to R405). -/
namespace Sys2Proof.Machine

/-! ### Samples (R389, R392 to R395) -/

/-- One offset sample: o in units of 2^-16 ns, and the part time in ns of the instant it describes. -/
structure Sample where
  o : Int
  at_ : Int
deriving DecidableEq, Repr

/-- Whole nanoseconds of an offset, towards zero. -/
def Sample.ns (x : Sample) : Int := x.o.tdiv 65536

/-- A value held between -`m` and `m`, and whether it was outside. -/
def clampTo (m v : Int) : Int × Bool := if v > m then (m, true) else if v < -m then (-m, true) else (v, false)

/-- The servo (R393), in units of 2^-40 and rounded towards zero; `tau` is in units of 2^-32 ns. -/
def State.servo (s : State) (o : Int) (tau : Nat) : State :=
  let settle : Int := s.rf engClk CLK.SETTLE
  let f := s.clk.freq - (o * 2 ^ 24 * tau).tdiv (8 * 1000000000 * settle * settle * (1000000000 * 2 ^ 32))
  let (rate, held) := clampTo ((s.rf engClk CLK.MAX_RATE : Int) * 2 ^ 40 / 1000000) (f - (o * 2 ^ 24).tdiv (1000000000 * settle))
  let s := s.setRate rate
  { s with clk := { s.clk with freq := f, clamp := held } }

/-- A step by -o (R389): forward at once, or a backward slew; the kind of TIME_LOCKED. -/
def State.stepBy (s : State) (o : Int) : Nat × State :=
  if o < 0 then
    let now := s.nowNs
    let s := s.shiftPart (-o * 2 ^ 16)
    let s := ({ s with clk := { s.clk with barredNs := now } }).bump engClk CLK.TM_STEPS
    (1, { s with clk := { s.clk with secLast := if s.nowNsPart = 0 then s.nowSec - 1 else s.nowSec } }.pmStep)
  else if o > 0 then
    (2, (({ s with clk := { s.clk with slewLeft := o.toNat * 2 ^ 16, barredNs := s.nowNs } }).bump engClk CLK.TM_STEPS).pmSuspect
      fun _ => true)
  else (0, { s with clk := { s.clk with barredNs := s.nowNs } })

/-- Into LOCKED with cue TIME_LOCKED: the old state, the kind of correction and the correction in ns. -/
def State.locked (s : State) (kind : Nat) (corr : Int) : State :=
  let old := s.clk.state
  ({ s with clk := { s.clk with state := 1, armed := false } }).cue 0x8004 ([byte old, byte kind, 0, 0] ++ le 8 (unsigned 64 corr))

/-- An accepted sample by the clock's state machine (R394). -/
def State.useSample (s : State) (x : Sample) (tau : Nat) : State :=
  let jump : Bool := decide (x.o.natAbs > s.rf engClk CLK.STEP_THRESH * 65536)
  match s.clk.state with
  | 0 => let (k, s) := s.stepBy x.o; s.locked k (-x.ns)
  | 3 =>
    if s.clk.armed then let (k, s) := s.stepBy x.o; s.locked k (-x.ns)
    else if jump then s
    else (s.servo x.o tau).locked 0 0
  | st =>
    if jump then
      (({ s with clk := { s.clk with state := 3 } }).bump engClk CLK.TM_JUMPS).cue 0x8003
        (le 8 (unsigned 64 x.ns) ++ [byte s.clk.source, 0, 0, 0])
    else if st = 1 then s.servo x.o tau
    else (s.servo x.o tau).locked 0 0

/-- The firmware takes a sample (R393): ignored during a slew, and when measured at or before the last step or before a slew's end. -/
def State.takeSample (s : State) (x : Sample) : State :=
  let c := s.clk
  if s.fwStops then s
  else if c.slewLeft > 0 || x.at_ ≤ c.barredNs then s.bump engClk CLK.TM_IGNORED
  else
    let tau := if c.firstSample then 1000000000 * 2 ^ 32 else s.elapsed - c.lastSample
    let s := ({ s with clk := { c with firstSample := false, lastSample := s.elapsed, lastOffset := x.ns } }).bump engClk CLK.TM_SAMPLES
    s.useSample x tau

/-- PON_TIME_SAMPLE (R392): the superframe with (N - SFC_REF) mod 8,000 = 0 on the named channel. `delay` is D in ns. -/
def execPonTimeSample (delay : Int) (s : State) : Host.Outcome State Fault Refusal :=
  let r := s.clk.ref
  let ch := r.channel
  let n : Int := (s.chn ch).sfc - (r.sfc : Int)
  if s.clk.source = 1 && !s.clk.refStale && n % 8000 = 0 && s.rf (engFramer ch) FR.SYNC = 2 && (s.talker ch).isSome && !s.fenced ch then
    let a : Int := (s.chn ch).stamp
    .next (s.takeSample { o := (a - ((r.seconds : Int) * 1000000000 + r.nanos + n * 125000 + delay)) * 65536, at_ := a })
  else .next s

/-- Half a second as `elapsed` counts. -/
def halfSecond : Nat := usUnits 500000

/-- PPS_IN_EDGE (R403): `rise` is the edge's direction at the pin. -/
def execPpsInEdge (rise : Bool) (s : State) : Host.Outcome State Fault Refusal :=
  if !(s.works engPps && s.on engPps PPS.IN_EN && (rise != s.on engPps PPS.IN_POL)) then .next s
  else
    let early : Bool := match s.clk.ppsLast with
      | some t => decide (s.elapsed < t + halfSecond)
      | none => false
    if early then .next (s.bump engPps PPS.IN_IGNORED)
    else
      let stamp : Int := (s.nowNs : Int) - s.rf engPps PPS.IN_DELAY
      let s := ({ s with clk := { s.clk with ppsLast := some s.elapsed } }).bump engPps PPS.IN_PULSES
      let s := s.wf engPps PPS.IN_LAST (unsigned 32 stamp)
      if s.clk.source = 3 then
        let sec := s.clk.ppsNext
        .next (({ s with clk := { s.clk with ppsNext := sec + 1 } }).takeSample
          { o := (stamp - (sec : Int) * 1000000000) * 65536, at_ := stamp })
      else .next s

/-- Whether the source may have vanished (R392): PON by what its channel shows; PTP and PPS by the time that the row says has passed. -/
def State.mayVanish (s : State) : Bool :=
  let ch := s.clk.ref.channel
  match s.clk.source with
  | 0 => false
  | 1 => (s.talker ch).isNone || s.fenced ch || s.rf (engFramer ch) FR.SYNC ≠ 2 || decide ((s.chn ch).misses ≥ 3)
  | _ => true

/-- SOURCE_VANISH_TIMEOUT (R392, R394). -/
def execSourceVanishTimeout (s : State) : Host.Outcome State Fault Refusal :=
  .next (if s.clk.state = 1 && s.mayVanish then s.toHoldover 0 else s)

/-! ### The passing of part time (R387, R389, R402) -/

/-- SLEW_COMPLETE (R389, R394): the true time that the slew still needs passes, and the slew has ended. -/
def execSlewComplete (s : State) : Host.Outcome State Fault Refusal :=
  if s.clk.slewLeft = 0 then .next s
  else
    .next ((s.pass (periodsFor (2 * s.clk.slewLeft) s.periodRated)).pmSuspect fun _ => true)

/-- A whole second that part time has reached and that has not been signalled yet, or the next one, with the time up to it passed. -/
def State.toSecond (s : State) : State := if s.clk.secLast < s.nowSec then s else s.pass (s.periodsTo ((s.nowSec + 1) * 1000000000 * 2 ^ 32))

/-- SECOND_BOUNDARY (R402, R405). -/
def execSecondBoundary (s : State) : Host.Outcome State Fault Refusal :=
  let s := s.toSecond
  let sec := s.nowSec
  let s := { s with clk := { s.clk with secLast := sec } }
  let s := if s.works engClk && s.on engClk CLK.SEC_CUE then s.cue 0x8001 (le 6 sec ++ [0, 0] ++ le 4 (sec * 1000000000 % 2 ^ 32)) else s
  .next (if s.works engPps && s.on engPps PPS.OUT_EN then s.setPps true
    else s)

/-- PPS_OUT_FALL (R402): WIDTH µs after it rose. -/
def execPpsOutFall (s : State) : Host.Outcome State Fault Refusal :=
  .next (s.setPps false)

/-! ### Commands -/

def timeNowCmd : Cmd where
  op := 0x0800
  len := fun n => n = 0
  domains := fun _ _ => [14]
  act := fun _ _ s =>
    { st := s, payload := le 6 s.nowSec ++ [0, 0] ++ le 4 s.nowNsPart ++ le 4 s.short ++
        [byte s.clk.state, byte (bit (decide (s.clk.slewLeft > 0)) + 2 * bit s.clk.armed + 4 * bit s.clk.clamp), byte s.clk.source, 0] ++
        le 4 (unsigned 32 s.clk.rate) }

/-- TIME_NOW. -/
def execTimeNow (r : Req) (s : State) : Host.Outcome State Fault Refusal := .next (runCmd timeNowCmd r s)

/-- The reference that TIME_SOURCE gives: the fields that its source uses. -/
def timeRef (p : List Byte) : TimeRef :=
  match fld p 0 1 with
  | 1 => { channel := fld p 1 1, sfc := fld p 4 8, seconds := fld p 12 6, nanos := fld p 20 4 }
  | 3 => { seconds := fld p 12 6 }
  | _ => {}

def timeSourceCmd : Cmd where
  op := 0x0801
  len := fun n => n = 24
  domains := fun _ _ => [14]
  params := fun _ r s =>
    let p := r.payload
    let src := fld p 0 1
    checks
      [param (src < 4 && (src ≠ 3 || s.on engPps PPS.IN_EN)) 0, param (if src = 1 then fld p 1 1 < 4 else fld p 1 1 = 0) 1, resv p 2 2,
       param (src ≠ 1 || fld p 4 8 < 2 ^ 51) 4, resv p 18 2, param (src ≠ 1 || fld p 20 4 < 1000000000) 20]
  act := fun _ r s =>
    let p := r.payload
    let src := fld p 0 1
    let ref := timeRef p
    if src = 1 && (s.fenced ref.channel || (s.talker ref.channel).isNone) then .say s St.notReady
    else if s.clk.source = src && s.clk.ref = ref && !s.clk.refStale then .say s St.noChange
    else
      let moved : Bool := s.clk.source ≠ src || s.clk.ref ≠ ref
      let s := { s with clk := { s.clk with source := src, ref := ref, refStale := false, ppsNext := ref.seconds } }
      .say (if moved then s.sourceChanged 1 else s) St.ok

/-- TIME_SOURCE (R392). -/
def execTimeSource (r : Req) (s : State) : Host.Outcome State Fault Refusal := .next (runCmd timeSourceCmd r s)

/-- How long ago an instant with short stamp `sh` was, in ns mod 2^32. -/
def State.shortAge (s : State) (sh : Nat) : Nat := (s.short + 2 ^ 32 - sh) % 2 ^ 32

def timeSampleCmd : Cmd where
  op := 0x0802
  len := fun n => n = 16
  domains := fun _ _ => [14]
  params := fun _ r s => checks [param (s.shortAge (fld r.payload 8 4) < 2 ^ 31) 8, resv r.payload 12 4]
  act := fun _ r s =>
    if s.clk.source ≠ 2 then .say s St.notReady
    else .say (s.takeSample { o := signed 64 (fld r.payload 0 8), at_ := (s.nowNs : Int) - s.shortAge (fld r.payload 8 4) }) St.ok

/-- TIME_SAMPLE (R392 to R394). -/
def execTimeSample (r : Req) (s : State) : Host.Outcome State Fault Refusal := .next (runCmd timeSampleCmd r s)

def timeAcquireCmd : Cmd where
  op := 0x0803
  len := fun n => n = 0
  domains := fun _ _ => [14]
  act := fun _ _ s =>
    if s.clk.state ≠ 3 then .say s St.notReady
    else if s.clk.armed then .say s St.noChange
    else .say { s with clk := { s.clk with armed := true } } St.ok

/-- TIME_ACQUIRE (R394). -/
def execTimeAcquire (r : Req) (s : State) : Host.Outcome State Fault Refusal := .next (runCmd timeAcquireCmd r s)

/-- The clapper fields of PTP_SEND (R400): the offset of the first that is out of range. -/
def clapChecks (p : List Byte) : Chk :=
  let n := fld p 4 2
  let c := fld p 8 2
  checks [param (fld p 6 2 + 10 ≤ n) 6, param (c = 0 || c + 2 ≤ n && c % 2 = 0) 8]

/-- FRAME_LEN of PTP_SEND. -/
def ptpLength (s : State) (p : List Byte) : Chk :=
  let n := fld p 4 2
  need (p.length = 12 + n && 60 ≤ n && n + 4 ≤ s.rf (engMac (fld p 0 1)) MAC.MAX_FRAME) St.badLength 4

def ptpSendCmd : Cmd where
  op := 0x0804
  len := fun n => 12 ≤ n
  fits := fun r s => ptpLength s r.payload
  domains := fun r _ => let l := fld r.payload 0 1; [14, if l < 32 then 8 else 9]
  params := fun _ r s =>
    let p := r.payload
    let clapped := fld p 1 1 = 1 && s.on engStq STQ.CLAPPER
    checks
      [param (fld p 0 1 < 64 && s.ptpPort (fld p 0 1)) 0, param (fld p 1 1 < 2) 1,
       if clapped then clapChecks p else none, resv p 10 2, param (carriesPtp (p.drop 12)) 12]
  act := fun _ r s =>
    let p := r.payload
    let l := fld p 0 1
    let x : PtpOut := { id := fld p 2 2, stamp := bitOf (fld p 1 1) 0, insOff := fld p 6 2, csumOff := fld p 8 2, bytes := p.drop 12 }
    if !s.on (engLane l) LN.LINK then .say s St.notReady
    else if s.txShut l then .say (s.dropPtp l x) St.ok
    else if (s.mac l).ptp.length ≥ 8 then .say s St.busy 8
    else .say (s.modMac l fun m => { m with ptp := m.ptp ++ [x] }) St.ok

/-- PTP_SEND (R399). -/
def execPtpSend (r : Req) (s : State) : Host.Outcome State Fault Refusal := .next (runCmd ptpSendCmd r s)

/-- One entry of STAMP_READ's reply. -/
def StampEntry.bytes (x : StampEntry) : List Byte :=
  le 2 x.id ++ [byte x.lane, byte (bit x.discarded)] ++ le 6 x.sec ++ [0, 0] ++ le 4 x.ns

def stampReadCmd : Cmd where
  op := 0x0805
  len := fun n => n = 4
  domains := fun _ _ => [14]
  params := fun _ r _ => checks [param (1 ≤ fld r.payload 0 2 && fld r.payload 0 2 ≤ 64) 0, resv r.payload 2 2]
  act := fun _ r s =>
    let n := fld r.payload 0 2
    { st := { s with clk := { s.clk with stamps := s.clk.stamps.drop n } }, payload := (s.clk.stamps.take n).flatMap StampEntry.bytes }

/-- STAMP_READ (R401). -/
def execStampRead (r : Req) (s : State) : Host.Outcome State Fault Refusal := .next (runCmd stampReadCmd r s)

end Sys2Proof.Machine
end

