-- ==== Sys2Proof/Machine/EngineOps.lean ====
section
/-! DEFINITION. Engines of every kind: what their work in flight comes to when they leave ON, soft resets, faults (R16, R21 to R33, R88,
R208, R246, R274, R371, R489), and ENGINE_SET. -/
namespace Sys2Proof.Machine

/-! ### Whose engine -/

/-- Channel of a PON engine. -/
def chOf (e : Nat) : Nat := engDomain e - 4

/-- Whether an engine is a logical lane's, a logical MAC's, or a logical cipher engine's. -/
def isLane (e : Nat) : Bool := kind e = 0x10 && !isSpareWin e
def isMac (e : Nat) : Bool := kind e = 0x11 && !isSpareWin e
def isCipher (e : Nat) : Bool := kind e = 0x40

/-- Lane of a MAC's engine. -/
def macLane (e : Nat) : Nat := laneOf (e - 0x40)

/-! ### What ends with an engine's work -/

/-- Frames that were classified upstream lose their contexts and are discarded. -/
def State.dropProgs (s : State) : State :=
  let gone := s.cls.progq.filter fun x => x.ctx.isSome
  gone.foldl (fun s x => match x.ctx with
    | some c => s.dropCtx c
    | none => s) { s with cls := { s.cls with progq := s.cls.progq.filter fun x => x.ctx.isNone } }

/-- Every job is cancelled (R326, R338). -/
def State.cancelAll (s : State) : State :=
  let s := (s.cry.msgs.foldl (fun s m => s.discardJob m.ctx) s).dropProgs
  let src := s.disp.jobs.flatMap fun x => match x.2.work with
    | .crypto d => d.src
    | _ => []
  let s := (s.cancelJobs fun _ => true).freePages src
  let s := s.modTdm fun t => { t with rt := t.rt.each fun _ r => { r with ctx := none }, ctxStby := [] }
  { s with disp := { s.disp with stage := [], fifosHeld := false, recovering := false }, chan := s.chan.noCtxs }.settleOlds

/-- Every queue of the traffic scheduler is emptied, uncounted (R338). -/
def State.emptyQueues (s : State) : State :=
  let pages := s.sched.queues.flatMap fun q => q.2.frames.flatMap fun f => f.pages
  ({ s with sched := { s.sched with queues := s.sched.queues.each fun _ q => { q with frames := [], active := false } } }).freePages pages

/-- Both directions of the bonding layer lose what they hold. -/
def State.emptyGroups (s : State) : State :=
  let s := s.pon.groups.foldl (fun s g => s.flushGroup g.1) s
  let frames := s.pon.groups.flatMap fun g => g.2.frames
  ({ s with pon := { s.pon with bondIn := [], groups := s.pon.groups.each fun _ g => { g with queue := [], resend := [], bseq := 0 } } }).endFrames
    frames

/-- What an engine of each kind loses when it stops (R24, R27, R30). -/
def State.quit (s : State) (e : Nat) : State :=
  match kind e with
  | 0x01 => s.abandon (chOf e) fun b => b.committed
  | 0x02 => ((s.wf e FR.SYNC 0).lostSync (chOf e)).dropPartials (chOf e)
  | 0x03 | 0x04 => s.dropPartials (chOf e)
  | 0x05 => s.modCh (chOf e) fun c => { c with rxq := [], omciIn := [] }
  | 0x10 => if isLane e then (s.linkOff (laneOf e) 2).pmSuspect fun x => entLane x = laneOf e else s
  | 0x11 => if isMac e then s.flushMac (macLane e) else s
  | 0x20 => s.clearSdh (engNo e)
  | 0x23 =>
    let pages := s.tdm.rx.flatMap fun x => x.pages
    let s := (s.modTdm fun t => { t with rx := [] }).freePages pages
    s.tdm.act.circs.foldl (fun s c => (s.circEmpty c.1).circTo c.1 1 0) s
  | 0x24 => s.pmSuspect fun _ => true
  | 0x40 =>
    let s := (((s.wf e CX.OWNER 0).wf e CX.REBIND 0).endMsgs (engNo e)).modCry fun c =>
      { c with testing := c.testing.filter fun t => t.1 != engNo e || t.2.isSome && decide (engNo e < 8) }
    if s.cry.testing.any fun t => t.1 = engNo e then s.dropCache (engNo e) else (s.dropCache (engNo e)).katEnd (engNo e) false
  | 0x42 => s.rngStop
  | 0x72 =>
    let bus := engNo e - 2
    let cut := decide (s.rf e I2C.STATE ≠ 0) && !s.boot.i2cCut.contains bus
    let s := s.answer (fun w => w = .i2c bus) St.unitFailed
    { s with boot := { s.boot with i2cFor := s.boot.i2cFor.del bus, i2cCut := if cut then s.boot.i2cCut ++ [bus] else s.boot.i2cCut } }
  | 0x50 => s.cancelAll
  | 0x51 => s.emptyQueues
  | 0x52 => s.emptyGroups
  | 0x61 => { s with clk := { s.clk with stamps := [] } }
  | 0x62 => s.setPps false
  | _ => s

/-- What an engine's drain waits for before it is complete (R27): the messages of a cipher engine, the jobs of the dispatcher. -/
def State.drained (s : State) (e : Nat) : Bool :=
  match kind e with
  | 0x40 => s.cxIdle (engNo e)
  | 0x50 => s.disp.jobs.all fun x => x.2.state ≠ .running
  | 0x72 => s.rf e I2C.STATE = 0 || s.rf e I2C.STATE = 3
  | _ => true

/-! ### Soft resets (R24, R489) -/

/-- Fields that a soft reset leaves beyond those of R24: the AON engines' own records, which every reset but power-on keeps (R430, R458), the
firmware's identity, a page copy that runs, and the command engine's readiness. -/
def softAlso (e : Nat) (f : Fld) : Bool :=
  0x100 ≤ f.off && (engDomain e = 0 && f.acc ≠ .rw || kind e = 0x70 && f.acc = .ro) || f = TSI.COPYING && kind e = 0x21 || f = TB.COPYING && kind e = 0x31 ||
    (f = VS.READY || f = VS.RECOVERY) && kind e = 0x91 || f = SPI.NOR_MIB && kind e = 0x73

/-- What stands beside the fields of an engine and returns to its first state with them. -/
def State.softBeside (s : State) (e : Nat) : State :=
  match kind e with
  | 0x02 => s.wf e FR.PROFILE (bit !(s.chn (chOf e)).profiles.isEmpty)
  | 0x11 => if isMac e then s.modMac (macLane e) fun m => { m with counts := [] } else s
  | 0x10 =>
    if isLane e then
      let s := (s.members (laneOf e)).foldl (fun s m => s.wf (engLane m) LN.LOOP 0) s
      let s := s.modMac (s.head (laneOf e)) fun m => { m with looped := [] }
      s.modLane (laneOf e) fun x => { x with step := .done, ready := false, sampled := false, t256 := 0, noSpare := false }
    else s
  | 0x40 => s.modCry fun c => { c with blocks := c.blocks.del (engNo e) }
  | 0x50 => { s with disp := { s.disp with tick := 0 } }
  | 0x41 =>
    ((s.noteSlots.noteSas).wf e KS.SLOTS_RETIRED s.cry.retired.length).wf e KS.SPARE_LEFT (512 - s.cry.rows.length)
  | 0x52 => { s with pon := { s.pon with pair := { hbSeq := s.pon.pair.hbSeq } } }
  | 0x60 =>
    let c := s.clk
    { s with clk := { carried := some s.partTime, stamps := c.stamps, secLast := c.secLast, ppsHigh := c.ppsHigh, ppsLast := c.ppsLast } }
  | _ => s

/-- The datapath owner that holds an ON cipher engine, or 0. -/
def State.holder (s : State) (e : Nat) : Nat := if isCipher e && s.isOn e then s.rf e CX.OWNER else 0

/-- A soft reset begins; an engine in FAILED or DRAINING keeps that STATE until it ends. -/
def State.softReset (s : State) (e : Nat) : State :=
  let failed := s.engState e = 4
  let owner := s.holder e
  let held := (engFlds e).filter fun f => softAlso e f
  let olds := held.map fun f => (f, s.rf e f)
  let s := (s.quit e).beginSoftReset e
  let s := olds.foldl (fun s x => s.wf e x.1 x.2) s
  ((s.softBeside e).modEx e fun x => { x with fromFailed := x.fromFailed || failed }).ownerLeft owner

/-- The drain of an engine ends (R27): OFF, or with REARM a soft reset and WAKING. -/
def State.drainDone (s : State) (e : Nat) : State :=
  let held := if isCipher e then s.rf e CX.OWNER else 0
  (if s.on e HDR.REARM then ((s.wf e HDR.REARM 0).setEng e 1).softReset e else (s.quit e).restIn e 0).ownerLeft held

/-- ENG_STATE as an answer. -/
def State.stateBytes (s : State) (e : Nat) : List Byte := le 4 (s.engStateWord e)

/-- Answers to ENGINE_SET and RESET whose soft reset is over. -/
def State.answerReset (s : State) (e status : Nat) : State :=
  let s' := s.answer (fun w => w = .softReset e) status 0 []
  s'

/-- An engine's ENABLE as requested behind a soft reset (R24). -/
def State.enableBehind (s : State) (e : Nat) : State :=
  match (s.ex e).enableAfter with
  | some on => ((s.modEx e fun x => { x with enableAfter := none }).requestEnable e on).2
  | none => s

/-- A soft reset is complete (R489): where the engine goes from OFF, WAKING, DRAINING and FAILED. -/
def State.softOver (s : State) (e : Nat) : State :=
  let s := s.wf e HDR.SRST 0
  let s := match s.engState e with
    | 3 => if s.on e HDR.REARM then (s.wf e HDR.REARM 0).setEng e 1 else s.restIn e 0
    | 4 => if s.on e HDR.ENABLE then s.setEng e 1 else s.restIn e 0
    | _ => s
  s.enableBehind e

/-! ### Coming to rest -/

/-- What begins with an engine that is ON: an owner claims its cipher engine (R203), the DRBG starts up (R274), a lane's bring-up begins,
circuits take their playout contexts anew (R187). -/
def State.begun (s : State) (e : Nat) : State :=
  if !s.isOn e then s
  else if isCipher e then (if s.rf e CX.OWNER = 0 then s.wf e CX.OWNER (s.rf e CX.BIND) else s)
  else if kind e = 0x42 then s.rngOn
  else if isLane e then s.startLane (laneOf e)
  else if kind e = 0x50 then s.retakePlayout
  else s

/-- A WAKING engine's initialisation is over (R27, R489); a first known-answer test is part of it on a cipher engine (R244). -/
def State.initOver (s : State) (e : Nat) (pass : Bool) : State :=
  let first := isCipher e && !(s.ex e).selfTested
  let s := if first then (s.modEx e fun x => { x with selfTested := pass }).noteKat (engNo e) pass else s
  if first && !pass then
    let s := s.wf e HDR.SELFTEST 1
    if engNo e < 8 then s.cipherDown (engNo e) else s.failEngine e
  else if (s.ex e).softFrom ≠ 0 && !s.on e HDR.ENABLE && !s.on e HDR.PEND_OFF then s.restIn e 0
  else ((if isCipher e then s.wf e CX.OWNER 0 else s).initDone e).begun e

/-! ### Faults (R27, R246, R371) -/

/-- An engine becomes FAILED by a bit of ENG_FAULT that is set. -/
def State.faulted (s : State) (e : Nat) : State :=
  if s.engState e = 4 || s.engState e = 5 then s
  else if isCipher e && !isSpareWin e then s.cipherDown (engNo e)
  else if isLane e then s.laneFail (laneOf e)
  else (s.quit e).failEngine e

/-- Corrected errors come above an engine's trend limit (R21): the engine works on, and a cipher engine's WEAR rises, by how much the spec does
not say (R246, log entry 113). -/
def State.trendFault (s : State) (e : Nat) : State :=
  let s := s.wf e HDR.ECC_TREND 1
  if isCipher e then
    let (n, s) := s.draw 16
    s.wf e HDR.WEAR (min 0xFFFF (s.rf e HDR.WEAR + 1 + n))
  else s

/-- Whether a cause exists on an engine's kind: only the cipher engine defines bits of KIND_FAULT, and those are bits 8 to 10 (R250). -/
def causeOn (e : Nat) : FaultCause → Bool
  | .kindSpecific b => isCipher e && b &&& 0xF8#8 = 0 && b ≠ 0
  | _ => true

/-- One day as `elapsed` counts. -/
def oneDay : Nat := usUnits 86400000000

/-- A cipher engine's watchdog expires (R246): the first in 24 hours soft-resets and tests it. -/
def State.cipherDog (s : State) (e : Nat) : State :=
  let u := engNo e
  let again : Bool := match s.cry.wdog.look u with
    | some t => decide (s.elapsed ≤ t + oneDay)
    | none => false
  let s := (s.wf e HDR.WATCHDOG 1).modCry fun c => { c with wdog := c.wdog.put u s.elapsed }
  if again then s.cipherDown u
  else
    let s := (s.softReset e).wf e HDR.SRST 0
    (((s.wf e CX.OWNER 6).setEng e 1).modCry fun c => { c with testing := c.testing ++ [(u, none)] }).katBegin u

/-! ### ENGINE_SET and ENG_CTRL (R16, R23, R27, R28, R31) -/

/-- Engines whose disable and soft reset need an officer (R31). -/
def guarded (e : Nat) : Bool := e = engKeys || e = engDrbg || e = engWrap

/-- Whether a MAC belongs to a quad member that has none of its own: it cannot be enabled (R385). -/
def State.idleMember (s : State) (e : Nat) : Bool := isMac e && s.laneMode (macLane e) = 2 && s.rf (engLane (macLane e)) LN.MEMBER ≠ 0

/-- TARGET of ENGINE_SET and of RESET with scope engine. -/
def State.engineTarget (s : State) (t : Nat) : Chk :=
  let e := locEng t
  need (present e && locOff t = 0 && !s.spareLocked e) St.badLocator

/-- What a request of ENABLE does to an engine: status and state. -/
def State.setEnable (s : State) (e : Nat) (on : Bool) : Nat × State :=
  if s.engState e = 4 || s.engState e = 5 then (St.unitFailed, s)
  else if on && s.idleMember e then (St.badParam, s)
  else s.requestEnable e on

def engineSetCmd : Cmd where
  op := 0x0010
  len := fun n => n = 4
  target := fun r s => s.engineTarget r.target.toNat
  params := fun role r _ =>
    let a := fld r.payload 0 1
    checks
      [param (a < 3) 0, need (!(a ≠ 1 && guarded r.eng && role ≠ .officer)) St.roleDenied, param (!(a = 0 && engDomain r.eng = 0)) 0,
       resv r.payload 1 3]
  domains := fun r _ => [engDomain r.eng]
  act := fun _ r s =>
    let e := r.eng
    if s.engState e = 5 then .say s St.unitFailed
    else if fld r.payload 0 1 = 2 then { st := s.softReset e, wait := some (.softReset e) }
    else
      let (st, s) := s.setEnable e (fld r.payload 0 1 = 1)
      if st = St.unitFailed || st = St.badParam then .say s st else { st := s, status := st, payload := s.stateBytes e }

/-- ENGINE_SET (R27, R28). -/
def execEngineSet (r : Req) (s : State) : Host.Outcome State Fault Refusal := .next (runCmd engineSetCmd r s)

/-- Whether a write of ENG_CTRL reaches an engine now: present, not a spare that refuses writes, awake, not RETIRED, not in a soft reset. -/
def State.ctrlOpen (s : State) (e : Nat) : Bool :=
  present e && !s.spareLocked e && !s.sleeping e && s.engState e ≠ 5 && !s.on e HDR.SRST

/-- ENG_CTRL_SRST_WRITE (R24, R31, R489): a write of 1 to SRST, by an officer session or not. -/
def execEngCtrlSrstWrite (w : CtrlWrite) (s : State) : Host.Outcome State Fault Refusal :=
  .next (if s.ctrlOpen w.e && (w.officer || !guarded w.e) then s.softReset w.e else s)

/-- ENG_CTRL_ENABLE_WRITE (R16, R27, R31): a write to ENABLE, by an officer session or not. -/
def execEngCtrlEnableWrite (w : CtrlWrite) (on : Bool) (s : State) : Host.Outcome State Fault Refusal :=
  .next (if s.ctrlOpen w.e && (on || engDomain w.e ≠ 0 && (w.officer || !guarded w.e)) then (s.setEnable w.e on).2 else s)

end Sys2Proof.Machine
end

