-- ==== Sys2Proof/Machine/Power.lean ====
section
/-! DEFINITION. Power states, what holds a domain awake, sleep and wake of domains, and POWER_STATE (R25, R26, R32, R338, R406 to R417). -/
namespace Sys2Proof.Machine

/-! ### What holds a domain awake (R408) -/

/-- A reply to POWER_STATE that is still being answered. -/
def Packet.isPower (p : Packet) : Bool := fld p.bytes 0 2 = 0x8900

/-- Contexts of commands that wait or are answered, but not those of a POWER_STATE that is being answered. -/
def Chan.ctxs (c : Chan) : List Nat :=
  c.taken.filterMap (·.ctx) ++ c.waits.filterMap (·.cmd.ctx) ++
    ((c.pcieReplies ++ c.uartReplies ++ c.bandReplies).filter fun p => !p.isPower).filterMap (·.ctx)

/-- A context in use that holds SCHD awake (R338, R408). -/
def State.busyCtx (s : State) : Bool :=
  s.disp.jobs.any fun x => !(x.2.work = .mgmt || x.2.work = .key) || s.chan.ctxs.contains x.1

/-- Whether MGT has work: a firmware command, a PLOAM or OMCI message, a log write that waits. -/
def State.mgtBusy (s : State) : Bool :=
  (s.chan.taken.any fun t => !hwOp t.op) || (s.chan.waits.any fun w => !hwOp w.cmd.op) ||
    (s.pon.chs.any fun c => !c.2.rxq.isEmpty || !c.2.omciIn.isEmpty) || decide (s.closedRecs.length ≥ 64)

/-- Whether the command engine has work. -/
def State.hostBusy (s : State) : Bool :=
  !s.chan.tags.isEmpty ||
    (List.range 4).any fun p => s.on engCmd (VS.CMD_ENABLE.idx p) && s.rf engCmd (VS.CMD_HEAD.idx p) != s.rf engCmd (VS.CMD_TAIL.idx p)

/-- Whether a lane holds its domain awake: its link is up, it has a loop or test, or it is in pair mode. -/
def State.laneBusyAwake (s : State) (l : Nat) : Bool :=
  s.on (engLane l) LN.LINK || s.rf (engLane l) LN.LOOP ≠ 0 || s.laneTesting l || s.laneMode l = 4

/-- Whether a condition of R408 holds for domain `d`. -/
def State.busyDomain (s : State) (d : Nat) : Bool :=
  match d with
  | 1 => s.mgtBusy
  | 2 => s.hostBusy
  | 3 => s.pages.any fun p => p.2.used
  | 4 | 5 | 6 | 7 => s.pon.vts.any fun v => v.2.channel = d - 4 && [2, 4, 5, 6].contains v.2.state
  | 8 | 9 => ((List.range 32).any fun i => s.laneBusyAwake ((d - 8) * 32 + i)) || [2 * d + 48, 2 * d + 49].any s.laneTesting
  | 10 => !s.tdm.act.conns.isEmpty || !s.tdm.act.circs.isEmpty
  | 11 => !s.cls.inq.isEmpty || !s.cls.progq.isEmpty || (List.range 6).any fun t => s.on (engTable (t + 1)) TB.COPYING
  | 12 => !s.cry.msgs.isEmpty || !s.cry.testing.isEmpty || s.rf engDrbg RNG.STATE = 1
  | 13 => s.busyCtx || s.sched.queues.any fun q => !q.2.frames.isEmpty
  | 14 => s.clk.state = 1 || s.clk.state = 3 || s.on engPps PPS.OUT_EN || s.on engPps PPS.IN_EN
  | _ => false

/-- Whether HELD shows domain `d`: it is in the sleep set, awake, and not idle (R408). -/
def State.heldAwake (s : State) (d : Nat) : Bool :=
  bitOf (s.rf engWake WK.SLEEP_SET) d && bitOf (s.rf engWake WK.AWAKE) d && s.busyDomain d

/-- HELD as a mask. -/
def State.heldMask (s : State) : Nat := ((List.range 16).map fun d => bit (s.heldAwake d) * 2 ^ d).sum

/-! ### Sleep (R409) -/

/-- An ON engine's drain as its domain goes to sleep. What the firmware or the retention supply keeps is not lost: PLOAM and OMCI messages
that wait, the DRBG's state, stamps. -/
def State.drainForSleep (s : State) (e : Nat) : State :=
  if !s.isOn e || isSpareWin e then s
  else if [0x01, 0x02, 0x03, 0x04, 0x10, 0x11, 0x20, 0x23, 0x24, 0x40, 0x62].contains (kind e) then s.quit e
  else s

/-- Domain `d` goes to sleep. -/
def State.goSleep (s : State) (d : Nat) : State :=
  (((domainEngines d).foldl State.drainForSleep s).sleepDomain d).noteAllTaking

/-- Whether the domain is that of a parked channel, which sleeps whether or not the sleep set names it (R407). -/
def State.parkedDomain (s : State) (d : Nat) : Bool :=
  4 ≤ d && d ≤ 7 && (s.chn (d - 4)).parked && (s.chn (d - 4)).park = .none

/-- DOMAIN_SLEEP (R407 to R410): the domain's idle time has ended. -/
def execDomainSleep (d : Fin 16) (s : State) : Host.Outcome State Fault Refusal :=
  let d := d.val
  if 1 ≤ d && d ≤ 14 && bitOf (s.rf engWake WK.AWAKE) d && (bitOf (s.rf engWake WK.SLEEP_SET) d || s.parkedDomain d) &&
      !s.busyDomain d then .next (s.goSleep d)
  else .next s

/-! ### Wake (R26, R32, R411) -/

/-- An engine with ENABLE = 1 goes ON as its domain wakes; a cipher engine or lane unit that has not been tested yet stays WAKING until its
test is over (R244, R370). No cue is owed (R414). What AON holds stands over its release (R420, R430). -/
def State.wakeEngine (s : State) (e : Nat) : State :=
  let s := if engDomain e = 0 || e = engEndpoint then s else (s.wakeFlds e).modEx e fun x => { x with driving := false }
  if isSpareWin e || !s.on e HDR.ENABLE || s.engState e ≠ 0 then s
  else if isCipher e && !(s.ex e).selfTested || isLane e && !(s.lane (laneOf e)).checked then
    let s := (s.setEng e 1).modEx e fun x => { x with quiet := true }
    if isCipher e then s.katBegin (engNo e) else s
  else (s.setEng e 2).begun e

/-- A bucket with no tokens, and a full one (R338, R345). -/
def Bucket.dry (b : Bucket) : Bucket := { b with tokens := 0 }
def Bucket.brim (b : Bucket) : Bucket := { b with tokens := b.burst * 8000 }

/-- Shapers and policers when SCHD wakes (R338). -/
def Sched.woken (c : Sched) : Sched :=
  { c with
    queues := c.queues.each fun _ q => { q with shaper := q.shaper.dry, policer := q.policer.brim }
    nodes := c.nodes.each fun _ n => { n with shaper := n.shaper.dry, policer := n.policer.brim }
    s6 := c.s6.each fun _ b => b.dry
    s7 := c.s7.dry }

/-- What stands beside the fields of a domain and is not kept over its sleep. -/
def State.wokenBeside (s : State) (d : Nat) : State :=
  match d with
  | 8 | 9 => { s with client := { s.client with macs := s.client.macs.each fun l m => if laneDomain l = d then { m with counts := [] } else m } }
  | 12 => { s with cry := { s.cry with blocks := [], cache := [] } }
  | 13 => { s with sched := s.sched.woken }
  | _ => s

/-- Domain `d` comes up: its release from reset where it had none, the fields of R26, its engines. -/
def State.bringUp (s : State) (d : Nat) : State :=
  let s := s.wf engRst RST.RELEASED (s.rf engRst RST.RELEASED ||| 2 ^ d)
  ((domainEngines d).foldl State.wakeEngine ((s.setAwake d true).wokenBeside d)).noteAllTaking

/-- Domain `d` wakes from sleep, or at its first access after a reset. -/
def State.wake (s : State) (d : Nat) : State := (s.bringUp d).bump engWake WK.WK_WAKES

/-- A domain whose wake failed (R413): the engines of `failed` set WAKE_FAIL and become FAILED. -/
def State.wakeFailed (s : State) (d : Nat) (failed : List Nat) : State :=
  let s := s.wake d
  match failed with
  | [] => s
  | e :: _ =>
    let s := failed.foldl (fun s e => (s.wf e HDR.WAKE_FAIL 1).faulted e) s
    (s.bump engWake WK.WK_FAIL).cue 0x1022 ([byte d, 0, 0, 0] ++ le 4 (locOf e))

/-- LANE_SIGNAL_WAKE (R415): a transition on a lane of a sleeping client domain. -/
def execLaneSignalWake (lane : Fin 64) (s : State) : Host.Outcome State Fault Refusal :=
  let l := lane.val
  if s.asleep (laneDomain l) && [1, 2, 4].contains (s.laneMode l) then .next (s.wake (laneDomain l)) else .next s

/-! ### POWER_STATE (R406, R407) -/

/-- Domains that PARKED leaves out of the sleep set: those of the groups' anchor channels. -/
def State.anchorDomains (s : State) : List Nat := s.pon.groups.map fun g => g.2.anchor + 4

/-- The sleep set that a request asks for. -/
def State.askedSet (s : State) (p : List Byte) : Nat :=
  if fld p 0 1 = 0 then fld p 2 2 % 2 ^ 16
  else ((List.range 15).map fun d => if d = 0 || s.anchorDomains.contains d then 0 else 2 ^ d).sum

/-- The sleep set written: a domain outside it that is asleep wakes at once, but for a parked channel's. -/
def State.setSleepSet (s : State) (v : Nat) : State :=
  let s := s.wf engWake WK.SLEEP_SET v
  ((List.range 15).filter fun d => 0 < d && !bitOf v d && s.asleep d && !s.parkedDomain d).foldl State.wake s

/-- POWER_STATE's answer: HELD, PSTATE. -/
def State.powerBytes (s : State) : List Byte := le 2 s.heldMask ++ [byte (s.rf engWake WK.PSTATE), 0]

/-- `verified`: for DEEP STANDBY, whether the read-back of the zeroise sequence at its entry finds zero (R281, R416). -/
def powerStateCmd (verified : Bool) : Cmd where
  op := 0x0900
  len := fun n => n = 4
  params := fun role r _ =>
    let p := r.payload
    checks
      [param (fld p 0 1 ≤ 2) 0, need (fld p 0 1 ≠ 2 || role = .officer) St.roleDenied, resv p 1 1,
       param (!bitOf (fld p 2 2) 0 && !bitOf (fld p 2 2) 15 && (fld p 0 1 = 0 || fld p 2 2 = 0)) 2]
  act := fun _ r s =>
    let p := r.payload
    if fld p 0 1 = 2 then
      if s.rf engWake WK.WAKE_SRC = 0 then .say s St.badParam 0
      else
        let s := { s with boot := { s.boot with due := some (.standby verified), waitsFor := some (s.chan.order - 1) } }
        { st := s, payload := le 2 s.heldMask ++ [2, 0] }
    else if s.rf engWake WK.PSTATE = fld p 0 1 && s.rf engWake WK.SLEEP_SET = s.askedSet p then
      { st := s, status := St.noChange, payload := s.powerBytes }
    else
      let s := (s.wf engWake WK.PSTATE (fld p 0 1)).setSleepSet (s.askedSet p)
      { st := s, payload := s.powerBytes }

end Sys2Proof.Machine
end

