-- ==== Sys2Proof/Machine/Reset.lean ====
section
/-! DEFINITION. Resets of the part: their sources, how they overlap, what each scope clears, the entry to DEEP STANDBY, the alarms, and the
release (R65, R276 to R279, R416 to R423, R490). Scopes are R430's: 0 power-on, 1 cold, 2 standby exit, 3 warm, 4 HOST only. -/
namespace Sys2Proof.Machine

/-! ### What stays over a reset (R420, R490) -/

/-- Whether a field's value stands over a power-on, cold or standby-exit reset: which unit serves which, how often it was substituted, the
retired units, and the rows that are out of use. The AON domain is judged apart. -/
def State.repairKept (s : State) (k v : Nat) : Bool :=
  let e := k / 32 / 2 ^ 20
  let off := k / 32 % 2 ^ 20
  decide (e < 256) || off = 0x14 || e = engKeys && off = 0x104 ||
    off = 0x04 && k % 32 = 0 && (v = 5 || v = 2 && isSpareWin e && s.rf e HDR.LUNIT ≠ 0xFF)

/-- AON fields over a cold or standby-exit reset: all but the RW fields of the engines other than the log (R430, R458). -/
def aonKept (e : Nat) (f : Fld) : Bool := f.acc ≠ .rw || e = engLog

/-- What a power-on, cold or standby-exit reset clears; the part is in RUN with an empty sleep set (R406). Option data and the NOR's contents stay; the boot
loads them anew. -/
def State.coldClear (s : State) : State :=
  let flds := s.flds.keep fun k v => s.repairKept k v
  let s' : State :=
    { pending := s.pending, flds := flds, log := s.log, opt := s.opt, boot := s.boot, elapsed := s.elapsed, freeCtr := s.freeCtr,
      emitted := s.emitted
      clk := { carried := some s.partTime, secLast := s.clk.secLast }
      cry := { out := s.cry.out, pool := s.cry.pool, rows := s.cry.rows, retired := s.cry.retired }
      client := { out := s.client.out, pool := s.client.pool
                  lanes := (s.client.lanes.keep fun _ x => x.reserve.isSome).each fun _ x => { reserve := x.reserve } } }
  let s' := (domainEngines 0).foldl (fun t e => t.resetFlds e (aonKept e)) s'
  let s' := (((s'.wf engWake WK.AWAKE 1).wf engRst RST.RELEASED 1).wf engWake WK.SLEEP_SET 0).wf engWake WK.PSTATE 0
  s.pins s'

/-- What a power-on clears beyond that: AON's records (R420). The log is rebuilt from its mirror as the part boots (R445). -/
def State.aonClear (s : State) : State :=
  let s := { s with flds := s.flds.keep fun k _ => decide (k / 32 / 2 ^ 20 ≥ 256) || decide (k / 32 % 2 ^ 20 = 0x14) ||
                                                    k = fldKey engTake TK.FUSED }
  let l := s.log
  { s with log := { mirror := l.mirror, norBad := l.norBad, slates := l.slates, hourAt := s.elapsed } }

/-! ### Warm (R420, R421) -/

/-- Fields that report what engine logic does, which a warm reset puts back although a sleep keeps them. -/
def logicFlds : List Fld :=
  [KS.CRYPTO_ERR, KS.FAILED_TEST, RNG.STATE, RNG.FAIL_TEST, BD.LINK_UP, BD.PON_UP, BD.SWAP_PEND, CX.REBIND, CX.KAT_PASS, CX.KAT_RUN, CX.KAT_RUNS,
   I2C.STATE, I2C.UNMANAGED, I2C.RETRIES, OPT.UNMANAGED, OPT.STALE, FW.FW_STATE, TSI.PENDING, TSI.COPYING, TB.COPYING, HDR.STATE, HDR.REARM,
   HDR.PEND_OFF, HDR.SRST, SEN.TEMP_WARN, SEN.RAIL_WARN]

/-- Fields that a warm reset keeps outside AON and MEM: R26's, but for engine logic and the BAR0 registers (R65); SRAM_UE (R458). -/
def warmKept (e : Nat) (f : Fld) : Bool :=
  f = FW.SRAM_UE && kind e = 0x70 || retained e f && !(f.off ≥ 0x100 && e = engCmd) && !logicFlds.contains f

/-- STATE of an engine over a warm reset (R457, R490): a RETIRED unit, and a spare that serves, stay so. -/
def State.warmState (s : State) (e : Nat) : Nat :=
  let st := s.engState e
  if st = 5 then 5 else if isSpareWin e then (if s.rf e HDR.LUNIT ≠ 0xFF then 2 else 6) else 0

/-- An engine outside AON and MEM over a warm reset. -/
def State.warmEngine (s : State) (e : Nat) : State :=
  let st := s.warmState e
  let s := s.setEng e st
  (s.resetFlds e (warmKept e)).wf e HDR.STATE st

/-- Everything in flight ends: jobs, queues, pages, circuits, PON receivers and bursts (R338, R420, R421). -/
def State.warmFlight (s : State) : State :=
  let s := (List.range 4).foldl (fun s ch => (s.lostSync ch).dropPartials ch) s
  let s := (s.cancelAll.emptyQueues).emptyGroups
  let s := s.tdm.act.circs.foldl (fun s c => (s.circEmpty c.1).circTo c.1 1 0) s
  let s := (List.range 64).foldl State.clearSdh s
  let s := s.pmSuspect fun _ => true
  { s with
    pages := s.pages.each fun _ p => { p with used := false }
    pon := { s.pon with
      bondIn := []
      chs := s.pon.chs.each fun _ c =>
        { c with rxq := [], omciIn := [], partials := [], bursts := [], park := .none, watch := .active, misses := 0 }
      pair := { s.pon.pair with relinquish := false, swapReq := false, swapAck := false, granted := false, draining := false, drained := false,
                                leaving := none, fresh := true,
                                seqLink := none, seqPon := none, seqTop := none, hbIn := [] } }
    tdm := { s.tdm with rx := [], splice := none, ctxStby := [], stby := if s.on engTsi TSI.COPYING then s.tdm.act else s.tdm.stby }
    cls := { s.cls with inq := [], progq := [], excq := []
                        tables := s.cls.tables.each fun t x => if s.on (engTable t) TB.COPYING then { x with stby := x.act } else x }
    client := { s.client with
      macs := []
      lanes := s.client.lanes.each fun _ x =>
        { x with step := .pages, sampled := false, subst := none, ready := false, checked := false }
      checking := [] }
    cry := { s.cry with msgs := [], testing := [], blocks := [], cache := [], again := [], rng := {} }
    clk := { s.clk with stamps := [] } }

/-- What a warm reset clears. MEM is not reset; outputs hold what they showed until their domain is released (R421). Slots that only waited for their last
seal are erased, and SA_ROLLED waits in the new cue queue (R267). -/
def State.warmClear (s : State) : State :=
  let olds := s.cry.olds
  let s := s.warmFlight
  let mem := s.rf engWake WK.AWAKE &&& 8
  let rel := s.rf engRst RST.RELEASED &&& 8
  let ds := [1, 2, 4, 5, 6, 7, 8, 9, 10, 11, 12, 13, 14]
  let s := ds.foldl (fun s d => (domainEngines d).foldl State.warmEngine s) s
  let s := ((((s.wf engWake WK.AWAKE (1 + mem)).wf engRst RST.RELEASED (1 + rel)).wf engWake WK.SLEEP_SET 0).wf engWake WK.PSTATE 0)
  let s := { s with engx := s.engx.each fun _ x => { driving := x.driving }, chan := { officerA := s.chan.officerA, maintA := s.chan.maintA } }
  olds.foldl (fun s o => s.rolledCue o.sa 1 o.an o.new o.old) s

/-! ### HOST only (R65, R420) -/

/-- Contexts of commands that the command channel forgets. -/
def State.freeCommands (s : State) : State :=
  let c := s.chan
  let ks := c.taken.filterMap (·.ctx) ++ c.waits.filterMap (·.cmd.ctx) ++ ((c.pcieReplies ++ c.uartReplies ++ c.bandReplies).filterMap (·.ctx))
  ks.foldl (fun s k => s.endJob k true) s

/-- A transaction's splice that has not taken place is given up with its transaction. -/
def State.dropTxnSplice (s : State) : State :=
  match s.tdm.splice with
  | some (.txn _) => (s.modTdm fun t => { t with splice := none }).wf engTsi TSI.PENDING 0
  | _ => s

/-- What a HOST-only reset clears. -/
def State.hostClear (s : State) : State :=
  let s := (s.freeCommands.dropTxnSplice).clearEntry
  let c := s.chan
  let s := { s with chan := { officerA := c.officerA, maintA := c.maintA, authFails := c.authFails, lockout := c.lockout }
                    boot := { s.boot with update := none, due := none, later := [], waitsFor := none } }
  let s := (domainEngines 2).foldl (fun s e => s.resetFlds e fun f => f.off = 0x14) s
  (s.setAwake 2 false).wf engRst RST.RELEASED (s.rf engRst RST.RELEASED &&& 0xFFFB)

/-! ### Arrival (R419, R423) -/

/-- Whether a reset of the part is in progress. -/
def Phase.inReset (p : Phase) : Bool :=
  match p with
  | .up => false
  | .standby => false
  | _ => true

/-- Failed takes of a reel. -/
def takesFld (reel : Nat) : Fld := if reel = 1 then TK.TAKES_RA else TK.TAKES_RB

/-- A take of a reel fails (R450, R447): counted, and a record written. -/
def State.takeFailed (s : State) (reel reason : Nat) : State :=
  let s := s.wf engTake (takesFld reel) (min 3 (s.rf engTake (takesFld reel) + 1))
  let s := { s with boot := { s.boot with lastFail := reason } }
  s.logPart 0x000C [byte reel, byte (s.rf engTake (takesFld reel)), byte reason]

/-- A reset that cuts the take of a reel counts it as failed (R450, R451). -/
def State.cutTake (s : State) : State :=
  match s.boot.phase with
  | .inReel r => s.takeFailed r 3
  | _ => s

/-- A reset of scope `arr` with its cause is asserted. One that is narrower than the reset the part is held in is absorbed; one that arrives
before the release has finished starts again with the wider scope of the two (R423). -/
def State.assertReset (s : State) (arr cause : Nat) : State :=
  if s.boot.phase = .held && decide (s.boot.scope < arr) then s.bump engRst RST.RST_ABSORBED
  else
    let eff := if s.boot.phase.inReset then min s.boot.scope arr else arr
    let fresh := !s.boot.phase.inReset || arr = 0
    let s := s.cutTake
    let s := if eff = 3 then s.warmClear else s.coldClear
    let s := if arr = 0 then s.aonClear else s
    let s := if arr ≤ 1 then { s with clk := { carried := some 0 } } else s
    let s := if arr = 1 || arr = 2 then s.bump engRst RST.RST_COLD else if arr = 3 then s.bump engRst RST.RST_WARM else s
    let s := (s.wf engRst RST.LAST_CAUSE cause).wf engRst RST.LAST_SCOPE eff
    let b := s.boot
    { s with boot :=
      { phase := .held, scope := eff, hold := arr ≠ 0 && b.hold, trip := arr ≠ 0 && b.trip, alarmed := arr ≠ 0 && b.alarmed,
        armed := arr ≠ 0 && b.armed, loopBad := b.loopBad, newBoot := b.newBoot || fresh, lastFail := b.lastFail, nor := b.nor,
        rowsUsed := b.rowsUsed, ioLow := b.ioLow, rowErrs := if arr = 0 then [] else b.rowErrs } }

/-- A warm reset arrives: it waits for the PON bursts in progress, and for a RESET reply that is being written (R421, R423). -/
def State.warmArrives (s : State) (cause : Nat) : State :=
  match s.boot.phase with
  | .up =>
    if s.boot.due.isSome then { s with boot := { s.boot with later := s.boot.later ++ [cause] } }
    else { s with boot := { s.boot with due := some (.warm cause), waitsFor := none } }
  | .standby => s
  | _ => s.assertReset 3 cause

/-- DEEP STANDBY's entry once its reply is written (R416), with the outcome of the zeroise read-back (R281). -/
def State.enterStandby (s : State) (verified : Bool) : State :=
  let s := (s.relinquish 2).zeroise 0x200 verified none
  let s := s.orderlyDown
  let rw := s.flds.keep fun k _ => decide (k / 32 / 2 ^ 20 < 256)
  let t := s.coldClear
  let t := { t with flds := rw ++ (t.flds.keep fun k _ => decide (k / 32 / 2 ^ 20 ≥ 256)) }
  let t := (((t.wf engWake WK.AWAKE 1).wf engRst RST.RELEASED 1).wf engWake WK.SLEEP_SET 0).wf engWake WK.PSTATE 2
  { t with boot := { s.boot with phase := .standby, due := none, later := [], waitsFor := none, update := none, newBoot := true } }

/-- Whether the reply that a due reset waits for has left its queue. -/
def State.replyGone (s : State) : Bool :=
  match s.boot.waitsFor with
  | none => true
  | some n => (s.chan.pcieReplies ++ s.chan.uartReplies ++ s.chan.bandReplies).all fun p => p.order != n

/-- Whether every PON PMD is between bursts. -/
def State.betweenBursts (s : State) : Bool := (List.range 4).all fun ch => !s.on (engPmd ch) PMD.TX_BURST

/-- Whether what is due is an orderly path out of service (R155). -/
def State.leavesService (s : State) : Bool := match s.boot.due with
  | some .cold | some (.standby _) => true
  | some (.warm c) => c = 9
  | none => false

/-- Warm resets that waited with a due reset follow it (R423). -/
def State.thenLater (s : State) (causes : List Nat) : State := causes.foldl (fun s c => s.assertReset 3 c) s

/-- A reset or standby entry that is due takes place, where nothing holds it back any more; an active of a pair gets RELINQUISH out first. -/
def State.fireDue (s : State) : State :=
  let s := if s.boot.phase = .up && s.replyGone && s.leavesService then s.sendRelinquish else s
  if s.boot.phase ≠ .up || !s.replyGone || s.relinquishing then s
  else
    match s.boot.due with
    | none => s
    | some .cold => (((s.relinquish 2).orderlyDown).assertReset 1 8).thenLater s.boot.later
    | some (.standby verified) => s.enterStandby verified
    | some (.warm c) => if s.betweenBursts then ((if c = 9 then s.relinquish 2 else s).assertReset 3 c).thenLater s.boot.later else s

/-- The reply that a due reset waits for is written on its carrier, and the reset asserted. -/
def State.flushDue (s : State) (k : Carrier) : State :=
  if s.boot.due.isNone then s
  else
    let s := match k with
      | .ring _ => s.rplWrite
      | .uart => (List.range (s.chan.uartReplies.length + s.chan.uartCues.length + 1)).foldl (fun s _ => if s.replyGone then s else s.uartSent) s
      | .inband => (List.range (s.chan.bandReplies.length + s.chan.bandCues.length + 1)).foldl (fun s _ => if s.replyGone then s else s.mgmtTx) s
    s.fireDue

/-! ### Sources (R419) -/

/-- PORST_N_LOW (R419, R473): a power-on reset; the alarm sources other than the tamper loop are disarmed. -/
def execPorstNLow (s : State) : Host.Outcome State Fault Refusal := .next (s.assertReset 0 1)

/-- RESET_N_PULSE (R419): a cold reset. -/
def execResetNPulse (s : State) : Host.Outcome State Fault Refusal := .next (s.assertReset 1 2)

/-- PERST_N_LOW (R419, R423): a HOST-only reset, absorbed by a wider one in progress. In DEEP STANDBY only the endpoint is there to reset. -/
def execPerstNLow (s : State) : Host.Outcome State Fault Refusal :=
  if s.boot.phase.inReset then .next (s.bump engRst RST.RST_ABSORBED)
  else
    let s := ((s.bump engRst RST.RST_HOST).wf engRst RST.LAST_CAUSE 3).wf engRst RST.LAST_SCOPE 4
    if s.boot.phase = .standby then .next s
    else
      let s := s.hostClear
      .next { s with boot := { s.boot with hostHeld := true } }

/-- MGMT_WATCHDOG_EXPIRY (R419): WDOG_MS without a kick. -/
def execMgmtWatchdogExpiry (s : State) : Host.Outcome State Fault Refusal := .next (s.warmArrives 4)

/-- PLL_LOCK_LOSS (R419). -/
def execPllLockLoss (s : State) : Host.Outcome State Fault Refusal := .next (s.warmArrives 5)

/-- WARM_RESET_ASSERT (R421): every PON PMD is between bursts. -/
def execWarmResetAssert (s : State) : Host.Outcome State Fault Refusal := .next s.fireDue

/-- WAKE_AT, in units of 2^-32 ns. -/
def State.wakeAt (s : State) : Nat := (s.rf engWake WK.WAKE_AT_LO + 2 ^ 32 * s.rf engWake WK.WAKE_AT_HI) * 1000000000 * 2 ^ 32

/-- Whether a source can fire at all: GPIO needs a pin in GPIO_MASK. -/
def State.canWake (s : State) (source : Nat) : Bool :=
  s.boot.phase = .standby && bitOf (s.rf engWake WK.WAKE_SRC) source && (source ≠ 2 || s.rf engWake WK.GPIO_MASK ≠ 0)

/-- STANDBY_WAKE (R417): an enabled source ends DEEP STANDBY. Sources run 0 HOST, 1 UART, 2 GPIO, 3 TIMER, 4 PPS; TIMER fires when part time, which
passes up to there, reaches WAKE_AT. -/
def execStandbyWake (source : Fin 5) (s : State) : Host.Outcome State Fault Refusal :=
  if s.canWake source.val then
    let s := if source.val = 3 then s.pass (s.periodsTo s.wakeAt) else s
    .next ((s.wf engWake WK.LAST_WAKE (2 ^ source.val)).assertReset 2 10)
  else .next s

/-! ### Alarms (R276 to R281) -/

/-- An alarm source fires: the zeroise sequence, then a cold reset that is held (R276, R279). While the part is already held by an alarm the
source adds its bit. -/
def State.alarm (s : State) (b : Nat) (verified : Bool) : State :=
  let s := s.wf engAlarm AL.AL_NOW (s.rf engAlarm AL.AL_NOW ||| b)
  if s.boot.hold then s.wf engAlarm AL.AL_CAUSE (s.rf engAlarm AL.AL_CAUSE ||| b)
  else
    let s := (s.zeroise b verified none)
    let s := { s with boot := { s.boot with hold := true, alarmed := true } }
    s.assertReset 1 6

/-- Alarm conditions that no longer hold (AL_NOW, R289). -/
def State.alarmClear (s : State) (b : Nat) : State := s.wf engAlarm AL.AL_NOW (s.rf engAlarm AL.AL_NOW &&& (0x3FF - b))

/-- TAMPER_LOOP_SAMPLE (R276, R435): `ok` says that the loop returned its bit. Always armed. -/
def execTamperLoopSample (ok verified : Bool) (s : State) : Host.Outcome State Fault Refusal :=
  let s := if s.works engSens then s.wf engSens SEN.LOOP_OK (bit ok) else s
  if ok then .next { s.alarmClear 1 with boot := { s.boot with loopBad := 0 } }
  else
    let n := s.boot.loopBad + 1
    let s := { s with boot := { s.boot with loopBad := min 2 n } }
    .next (if n ≥ 2 then s.alarm 1 verified else s)

/-- SUPPLY_ALARM (R276 to R278): a rail of R277, in its order, left its window for 1 µs. -/
def execSupplyAlarm (rail : Fin 8) (verified : Bool) (s : State) : Host.Outcome State Fault Refusal :=
  if !s.boot.armed || s.boot.phase = .standby && rail.val ≠ 1 then .next s
  else .next ((s.wf engAlarm AL.AL_RAIL (s.rf engAlarm AL.AL_RAIL ||| 2 ^ rail.val)).alarm 2 verified)

/-- SLOWCLK_ALARM (R276, R278). -/
def execSlowclkAlarm (verified : Bool) (s : State) : Host.Outcome State Fault Refusal :=
  if s.boot.armed then .next (s.alarm 4 verified) else .next s

/-- REFCLK_ALARM (R276, R278). -/
def execRefclkAlarm (verified : Bool) (s : State) : Host.Outcome State Fault Refusal :=
  if s.boot.refArmed && s.boot.phase ≠ .standby then .next (s.alarm 8 verified) else .next s

/-- LOCKSTEP_ALARM (R276, R432). -/
def execLockstepAlarm (verified : Bool) (s : State) : Host.Outcome State Fault Refusal :=
  if s.boot.phase = .standby || s.boot.phase = .held then .next s else .next (s.alarm 0x40 verified)

/-- ALARM_SOURCES_ARMED (R278). -/
def execAlarmSourcesArmed (s : State) : Host.Outcome State Fault Refusal := .next { s with boot := { s.boot with armed := true } }

/-- ALARM_HOLD_RELEASE (R279): 10 ms after the last alarm condition cleared. -/
def execAlarmHoldRelease (s : State) : Host.Outcome State Fault Refusal :=
  if s.boot.hold then .next { (s.wf engAlarm AL.AL_NOW 0) with boot := { s.boot with hold := false, loopBad := 0 } } else .next s

/-! ### Release (R422) -/

/-- READY, with the cue and the record of the last reset (R424, R431, R447). -/
def State.reportReset (s : State) (verified : Bool) : State :=
  let s := s.wf engCmd VS.READY 1
  let c := s.rf engRst RST.LAST_CAUSE
  let x := s.rf engRst RST.LAST_SCOPE
  let u := s.rf engTake TK.OPT_USED
  let s := s.cue 0x1020 ([byte c, byte x, byte u, byte (bit verified + 2 * bit (s.rf engTake TK.TRIM_DEFAULT ≠ 0))] ++ le 4 (s.rf engTake TK.OPT_SEQ))
  s.logPart 0x0001 [byte c, byte x, byte u, byte (s.rf engTake TK.REEL_LOADED)]

/-- RESET_RELEASE (R422): AON, MGT and HOST, in this order; the others follow with the boot. After a HOST-only reset, HOST alone. Part time starts
at 0 here after a power-on or cold reset (R387). -/
def execResetRelease (s : State) : Host.Outcome State Fault Refusal :=
  if s.boot.phase = .held && !s.boot.hold && !s.boot.trip then
    let s := if s.boot.scope ≤ 1 then { s with clk := { s.clk with carried := some 0, secLast := 0 } } else s
    let s := [0, 1, 2].foldl State.bringUp s
    .next { s with boot := { s.boot with phase := .booting, refArmed := true } }
  else if s.boot.hostHeld then
    let s := s.bringUp 2
    let s := { s with boot := { s.boot with hostHeld := false } }
    if s.boot.phase = .up then .next ((s.wf engCmd VS.RECOVERY (s.rf engTake TK.RECOVERY)).reportReset false) else .next s
  else .next s

end Sys2Proof.Machine
end

