-- ==== Sys2Proof/Machine/Boot.lean ====
section
/-! DEFINITION. The boot path: trims, option copies, reels, self-tests, release and READY; RESET, BOOT_STATUS and OPTION_WRITE (R284, R285, R420,
R422, R424 to R431, R433, R439, R445, R450 to R452). -/
namespace Sys2Proof.Machine

/-! ### Option copies (R426 to R428) -/

/-- Whether MAGIC of a copy reads correctly. -/
def optMagic (b : List Byte) : Bool := fld b 0 4 = 0x0F1E4864

/-- Offset of the first field of a block that R426 refuses, SEQ and CRC disregarded. -/
def optBad (b : List Byte) : Option Nat :=
  if !optMagic b then some 0
  else if fld b 8 2 ≠ 1024 then some 8
  else if fld b 10 2 ≠ 1 then some 10
  else if fld b 30 2 > 0xFFE && fld b 30 2 ≠ 0xFFFF then some 30
  else if fld b 38 1 > 63 then some 38
  else if fld b 39 1 > 1 then some 39
  else firstNonzero b 40 980

/-- Whether a copy is valid (R426). -/
def optValid (b : List Byte) : Bool := b.length = 1024 && (optBad b).isNone && fld b 1020 4 = (crc32 (b.take 1020)).toNat

/-- What a valid copy holds. -/
def optBlock (b : List Byte) : OptBlock :=
  { seq := fld b 4 4, vendor := beVal (part b 12 4), vssn := fld b 16 4, ivFixed := fld b 20 4, mac := BitVec.ofNat 48 (beVal (part b 24 6)),
    vid := fld b 30 2, cueHost := BitVec.ofNat 48 (beVal (part b 32 6)), lane := fld b 38 1, inBand := bitOf (fld b 39 1) 0 }

/-- The defaults held in fuses (R428). -/
def fusedBlock : OptBlock := { vendor := Config.fusedVendor.toNat, vssn := Config.fusedVssn.toNat }

/-- Copy 1 is A, 2 is B. -/
def Nor.copy (n : Nor) (c : Nat) : List Byte := if c = 1 then n.optA else n.optB

/-- The copy that is tried first (R427). -/
def Nor.firstCopy (n : Nor) : Nat :=
  if optMagic n.optB && (!optMagic n.optA || ahead 32 (fld n.optB 4 4) (fld n.optA 4 4)) then 2 else 1

/-- Failed takes of a copy. -/
def optTakes (c : Nat) : Fld := if c = 1 then TK.TAKES_A else TK.TAKES_B

/-- The copy that the next take tries, or none when both have failed three times. -/
def State.nextCopy (s : State) : Option Nat :=
  let x := s.boot.nor.firstCopy
  if s.rf engTake (optTakes x) < 3 then some x
  else if s.rf engTake (optTakes (3 - x)) < 3 then some (3 - x)
  else none

/-- A copy committed. -/
def State.commitCopy (s : State) (c : Nat) (o : OptBlock) : State :=
  let s := (s.wf engTake TK.TAKES_A 0).wf engTake TK.TAKES_B 0
  { (s.wf engTake TK.OPT_USED c).wf engTake TK.OPT_SEQ o.seq with opt := o }

/-- Takes until a copy is committed or both have failed (R428). -/
def State.takeCopies (s : State) : Nat → State
  | 0 => s
  | n + 1 =>
    match s.nextCopy with
    | none => { (s.wf engTake TK.OPT_USED 0).wf engTake TK.OPT_SEQ 0 with opt := fusedBlock }
    | some c =>
      let s := s.bump engTake (optTakes c)
      let b := s.boot.nor.copy c
      if optValid b then s.commitCopy c (optBlock b)
      else (s.logPart 0x000B [byte c, byte (s.rf engTake (optTakes c))]).takeCopies n

/-! ### Reels (R448 to R452) -/

/-- Reel 1 is A, 2 is B. -/
def Nor.reel (n : Nor) (r : Nat) : Reel := if r = 1 then n.reelA else n.reelB

/-- A reel changed. -/
def Nor.setReel (n : Nor) (r : Nat) (x : Reel) : Nor := if r = 1 then { n with reelA := x } else { n with reelB := x }

/-- A reel of the fitted NOR changed. -/
def State.setReel (s : State) (r : Nat) (x : Reel) : State := { s with boot := { s.boot with nor := s.boot.nor.setReel r x } }

/-- Whether the device declares what the part needs (R439). -/
def Nor.usable (n : Nor) : Bool := n.sfdp && decide (n.mib ≥ 32)

/-- Rejected (R450). -/
def Reel.rejected (x : Reel) : Bool := !x.confirmed && x.tries % 8 = 0

/-- A candidate (R450). -/
def Nor.candidate (n : Nor) (r : Nat) : Bool := n.usable && (n.reel r).valid && !(n.reel r).rejected

/-- The reel that the next take tries (R450). -/
def State.nextReel (s : State) : Option Nat :=
  let n := s.boot.nor
  let may (r : Nat) : Bool := n.candidate r && decide (s.rf engTake (takesFld r) < 3)
  let x := if n.candidate 2 && (!n.candidate 1 || ahead 32 n.reelB.seq n.reelA.seq) then 2 else 1
  if may x then some x else if may (3 - x) then some (3 - x) else none

/-- Whether a header's fields are within range (R448). -/
def headerBad (h : List Byte) : Option Nat :=
  if fld h 0 4 ≠ 0x0F1E0A5E then some 0
  else if fld h 4 2 ≠ 1 then some 4
  else if fld h 6 1 > 64 then some 6
  else if fld h 7 1 ≠ 0 then some 7
  else if fld h 12 4 < 4096 || fld h 12 4 > 3145728 || fld h 12 4 % 16 ≠ 0 then some 12
  else firstNonzero h 64 96

/-- Whether a header's signature verifies under the fused key (R448). -/
def headerSigned (h : List Byte) : Bool := Config.ecdsaVerify 0 (h.take 160) (part h 160 96)

/-- Whether a file's image has its digest. -/
def digestOk (h img : List Byte) : Bool := img.length = fld h 12 4 && be 48 (Config.sha384 img).toNat == part h 16 48

/-- Why a take of a reel fails, or 0 (R447, R450). -/
def Reel.fault (x : Reel) (fused : Nat) : Nat :=
  if x.header.length ≠ 256 || (headerBad x.header).isSome || !headerSigned x.header || !digestOk x.header x.image then 1
  else if fld x.header 6 1 < fused then 2
  else 0

/-- The next TRIES bit of an unconfirmed reel cleared before its take (R450). -/
def State.spendTry (s : State) (r : Nat) : State :=
  let x := s.boot.nor.reel r
  if x.confirmed then s else s.setReel r { x with tries := x.tries &&& (x.tries - 1) }

/-- Takes until a reel is loaded or every candidate has failed: the reel, or 0. `bad` counts the takes of each reel that end in a NOR read
failure. -/
def State.takeReels (s : State) (badA badB : Nat) : Nat → Nat × State
  | 0 => (0, s)
  | n + 1 =>
    match s.nextReel with
    | none => (0, s)
    | some r =>
      let s := s.spendTry r
      let bad := if r = 1 then badA else badB
      let why := if bad > 0 then 4 else (s.boot.nor.reel r).fault (s.rf engTake TK.FUSED)
      if why = 0 then (r, s)
      else (s.takeFailed r why).takeReels (if r = 1 then badA - 1 else badA) (if r = 1 then badB else badB - 1) n

/-- A reel reaches READY: CONFIRMED is programmed, then the anti-rollback fuses up to ROLLBACK are blown (R452). -/
def State.confirmReel (s : State) (r : Nat) : State :=
  let x := s.boot.nor.reel r
  let s := s.setReel r { x with confirmed := true }
  let old := s.rf engTake TK.FUSED
  let new := fld x.header 6 1
  if old < new then (s.wf engTake TK.FUSED new).logPart 0x000F [byte old, byte new] else s

/-! ### The boot (R424) -/

/-- The log rebuilt at power-on (R445); records written before that follow the rebuilt ones. -/
def State.rebuiltLog (s : State) : State :=
  let new := s.log.records
  let s := s.rebuildLog
  { s with log := new.foldl (fun l r => l.push { r with seq := l.nextSeq }) s.log }

/-- A boot begins: the take counts of the last one are cleared, and at power-on the NOR fitted is read. -/
def State.bootStart (s : State) (b : BootIn) : State :=
  let s := if s.boot.scope = 0 then { s with boot := { s.boot with nor := b.nor.getD s.boot.nor } } else s
  let s := if s.boot.newBoot then
    let s := if s.boot.scope = 0 then s.rebuiltLog else s
    let s := [TK.TAKES_A, TK.TAKES_B, TK.TAKES_RA, TK.TAKES_RB, TK.FALLBACK].foldl (fun s f => s.wf engTake f 0) s
    { s with boot := { s.boot with newBoot := false, lastFail := 0 } } else s
  (s.wf engTake TK.REEL_LOADED 0).wf engTake TK.RECOVERY 0

/-- Trim rows read (R425). -/
def State.loadTrim (s : State) (b : BootIn) : State :=
  let s := (s.wf engTake TK.TRIM_SPARE b.trimSpare.toNat).wf engTake TK.TRIM_DEFAULT b.trimDefault.length
  b.trimDefault.foldl (fun s r => s.logPart 0x000A [r]) s

/-- Domains released with the boot beyond AON, MGT and HOST (R422): MEM, then those that hold an engine with ENABLE = 1. -/
def State.releaseRest (s : State) : State :=
  let ds := (List.range 15).filter fun d => decide (3 ≤ d) && (d = 3 || (domainEngines d).any fun e => s.on e HDR.ENABLE)
  (ds.filter fun d => !bitOf (s.rf engWake WK.AWAKE) d).foldl State.bringUp s

/-- The part is ready: cues of the reset, the alarm, recovery and the fallback (R279, R424, R429, R431, R459). `reason` is that of recovery, or 0. -/
def State.bootReady (s : State) (b : BootIn) (verified : Bool) (reason : Nat) : State :=
  let s := if b.failed = 0 then s else s.enterError b.failed.toNat
  let s := (s.wf engTake TK.RECOVERY (bit (reason ≠ 0))).wf engCmd VS.RECOVERY (bit (reason ≠ 0))
  let s := if reason = 0 then s.releaseRest else { s with chan := { s.chan with routeUart := true } }
  let s := { s with boot := { s.boot with phase := .up, readyMs := b.ms.toNat, fwStart := s.elapsed } }
  let s := s.reportReset verified
  let s := if s.boot.alarmed then
    { s with boot := { s.boot with alarmed := false } }.cue 0x6026 (le 2 (s.rf engAlarm AL.AL_CAUSE) ++ [byte (s.rf engAlarm AL.AL_RAIL), 0])
    else s
  if reason = 0 then s
  else s.cue 0x1021 [byte reason, byte (s.rf engTake TK.TAKES_A), byte (s.rf engTake TK.TAKES_B), 0]

/-- REEL_FALLBACK where the other reel has failed three takes (R450, R459). -/
def State.fallBack (s : State) (r : Nat) : State :=
  if s.rf engTake (takesFld (3 - r)) < 3 then s
  else
    let p := [byte (3 - r), byte r, byte (s.rf engTake (takesFld (3 - r))), byte s.boot.lastFail] ++ le 4 (s.boot.nor.reel (3 - r)).seq
    ((s.wf engTake TK.FALLBACK 1).cue 0x9005 p).logPart 0x000D p

/-- A reel is loaded, or the responder runs, and the boot goes on to READY. -/
def State.bootRun (s : State) (b : BootIn) (r : Nat) : State :=
  let s := if s.opt.ivFixed = 0 then s else (s.wf engKeys KS.IV_FIXED s.opt.ivFixed).wf engKeys KS.FIXED_SRC 1
  if r = 0 then (s.wf engProc FW.FW_STATE 3).bootReady b false 2
  else
    let s := (s.wf engTake TK.REEL_LOADED r).wf engProc FW.FW_STATE 2
    let s := s.wf engProc FW.FW_VERSION (fld (s.boot.nor.reel r).header 8 4)
    let s := s.bootReady b false (if s.rf engTake TK.OPT_USED = 0 then 1 else 0)
    (s.confirmReel r).fallBack r

/-- After a power-on, cold or standby-exit release. A boot that is cut stands in the take where the cut comes. -/
def State.coldBoot (s : State) (b : BootIn) : State :=
  let s := (s.bootStart b).loadTrim b
  let s := s.wf engSpi SPI.NOR_MIB s.boot.nor.mib
  match b.stop, s.nextCopy with
  | .option, some c => { s.bump engTake (optTakes c) with boot := { s.boot with phase := .inOption } }
  | _, _ =>
    let s := s.takeCopies 7
    let s := s.wf engProc FW.FW_STATE 1
    match b.stop, s.nextReel with
    | .reel, some r =>
      let s := s.spendTry r
      { s with boot := { s.boot with phase := .inReel r } }
    | _, _ =>
      let (r, s) := s.takeReels b.badReadA b.badReadB 7
      s.bootRun b r

/-- After a warm release: the image in SRAM is used again where it has its digest; otherwise a cold reset with cause 0x04 (R424). -/
def State.warmBoot (s : State) (b : BootIn) : State :=
  if b.digestOk && s.rf engTake TK.REEL_LOADED ≠ 0 then
    (s.wf engProc FW.FW_STATE 2).bootReady b true (s.rf engTake TK.RECOVERY)
  else s.assertReset 1 4

/-- BOOT (R424). -/
def execBoot (b : BootIn) (s : State) : Host.Outcome State Fault Refusal :=
  if s.boot.phase = .booting then .next (if s.boot.scope = 3 then s.warmBoot b else s.coldBoot b) else .next s

/-! ### RESET, BOOT_STATUS, OPTION_WRITE -/

/-- A reset that waits for the reply of the command that is being answered. -/
def State.setDue (s : State) (d : Due) : State := { s with boot := { s.boot with due := some d, waitsFor := some (s.chan.order - 1) } }

def resetCmd : Cmd where
  op := 0x0901
  len := fun n => n = 4
  target := fun r s =>
    match fld r.payload 0 1 with
    | 0 => s.engineTarget r.target.toNat
    | 1 | 2 => need (r.target = 0) St.badLocator
    | _ => none
  params := fun role r _ =>
    let a := fld r.payload 0 1
    checks [param (a < 3) 0, need (role = .officer || (a = 0 && !guarded r.eng)) St.roleDenied, resv r.payload 1 3]
  recovery := true
  domains := fun r _ => if fld r.payload 0 1 = 0 then [engDomain r.eng] else []
  act := fun _ r s =>
    match fld r.payload 0 1 with
    | 0 => if s.engState r.eng = 5 then .say s St.unitFailed else { st := s.softReset r.eng, wait := some (.softReset r.eng) }
    | 1 => .say (s.setDue (.warm 9)) St.ok
    | _ => .say (s.setDue .cold) St.ok

/-- RESET (R419). -/
def execReset (r : Req) (s : State) : Host.Outcome State Fault Refusal := .next ((runCmd resetCmd r s).flushDue r.carrier)

def bootStatusCmd : Cmd where
  op := 0x0902
  len := fun n => n = 0
  recovery := true
  act := fun _ _ s =>
    let t (f : Fld) : Nat := s.rf engTake f
    { st := s
      payload := [byte (s.rf engRst RST.LAST_CAUSE), byte (s.rf engRst RST.LAST_SCOPE), byte (t TK.OPT_USED),
                  byte (t TK.TAKES_A + 4 * t TK.TAKES_B + 16 * t TK.RECOVERY)] ++ le 4 (t TK.OPT_SEQ) ++
                 [byte (t TK.TRIM_SPARE), byte (t TK.TRIM_DEFAULT)] ++ le 2 s.boot.readyMs ++ zeros 4 }

/-- BOOT_STATUS (R424). -/
def execBootStatus (r : Req) (s : State) : Host.Outcome State Fault Refusal := .next (runCmd bootStatusCmd r s)

/-- SEQ that OPTION_WRITE gives. -/
def Nor.nextSeq (n : Nor) : Nat :=
  if !optMagic n.optA && !optMagic n.optB then 1 else (fld (n.copy n.firstCopy) 4 4 + 1) % 2 ^ 32

/-- A block with SEQ and CRC set. -/
def optSeal (b : List Byte) (seq : Nat) : List Byte :=
  let x := b.take 4 ++ le 4 seq ++ part b 8 1012
  x ++ le 4 (crc32 x).toNat

/-- `readOk`: the copy reads back as written. -/
def optionWriteCmd (readOk : Bool) : Cmd where
  op := 0x0903
  role := .officer
  len := fun n => n = 1024
  params := fun _ r _ => (optBad r.payload).map fun o => (St.badParam, o)
  recovery := true
  act := fun _ r s =>
    if s.boot.update.isSome then .say s St.busy 9
    else
      let n := s.boot.nor
      let c := if s.rf engTake TK.OPT_USED = 1 then 2 else 1
      let b := if readOk then optSeal r.payload n.nextSeq else []
      let s := { s with boot := { s.boot with nor := if c = 1 then { n with optA := b } else { n with optB := b } } }
      if readOk then { st := s, payload := [byte c, 0, 0, 0] ++ le 4 n.nextSeq } else .say s St.integrity

/-- OPTION_WRITE (R426). -/
def execOptionWrite (r : Req) (readOk : Bool) (s : State) : Host.Outcome State Fault Refusal := .next (runCmd (optionWriteCmd readOk) r s)

end Sys2Proof.Machine
end

