-- ==== Sys2Proof/Machine/Mgmt.lean ====
section
/-! DEFINITION. The management subsystem: SRAM errors, sensors and their warnings, the I2C buses and the optics monitors, spare rows, the spares
inventory and UNIT_RESTORE (R126, R261, R276, R419, R432, R434 to R438, R454 to R458, R470, R471). -/
namespace Sys2Proof.Machine

/-! ### The management processor (R432) -/

/-- SRAM_ECC_ERROR (R432): an uncorrectable error stops the firmware; the watchdog then expires. -/
def execSramEccError (correctable : Bool) (s : State) : Host.Outcome State Fault Refusal :=
  if !s.works engProc then .next s
  else if correctable then .next (s.bump engProc FW.SRAM_CE)
  else .next { (s.bump engProc FW.SRAM_UE) with boot := { s.boot with fwDead := true } }

/-! ### Sensors (R276, R419, R434, R435) -/

/-- Consecutive samples for which a condition has held at a site: one more, or none. -/
def State.inRow (s : State) (k : Nat) (holds : Bool) : Nat × State :=
  let n := if holds then s.boot.counts.get k 0 + 1 else 0
  let m := if n = 0 then s.boot.counts.del k else s.boot.counts.put k (min n 100)
  (n, { s with boot := { s.boot with counts := m } })

/-- Bit `i` of a mask set or cleared. -/
def setBit (m i : Nat) (on : Bool) : Nat := if bitOf m i = on then m else if on then m + 2 ^ i else m - 2 ^ i

/-- THERMAL_WARN, with a record where it declares (R435, R447). -/
def State.tempCue (s : State) (site how reading : Nat) : State :=
  let s := s.cue 0x9002 ([byte site, byte how] ++ le 2 reading)
  if how = 0 then s else s.logEng 0x0011 engSens ([0, byte site] ++ le 2 reading)

/-- The warnings of one site (R435): a reading in 1/16 °C. -/
def State.siteWarn (s : State) (i : Nat) (raw : Nat) : State :=
  let t := signed 16 raw
  let hi := signed 16 (s.rf engSens SEN.HI_WARN)
  let lo := signed 16 (s.rf engSens SEN.LO_WARN)
  let b := s.boot
  let (n1, s) := s.inRow (48 + i) (decide (t > hi))
  let (n2, s) := s.inRow (64 + i) (decide (t ≤ hi - 32))
  let (n3, s) := s.inRow (80 + i) (decide (t < lo))
  let (n4, s) := s.inRow (96 + i) (decide (t ≥ lo + 32))
  let s := if !bitOf b.hiWarn i && n1 ≥ 2 then ({ s with boot := { s.boot with hiWarn := setBit b.hiWarn i true } }).tempCue i 1 raw
    else if bitOf b.hiWarn i && n2 ≥ 2 then ({ s with boot := { s.boot with hiWarn := setBit b.hiWarn i false } }).tempCue i 0 raw
    else s
  if !bitOf b.loWarn i && n3 ≥ 2 then ({ s with boot := { s.boot with loWarn := setBit b.loWarn i true } }).tempCue i 2 raw
  else if bitOf b.loWarn i && n4 ≥ 2 then ({ s with boot := { s.boot with loWarn := setBit b.loWarn i false } }).tempCue i 0 raw
  else s

/-- The registers and warnings of a temperature sample. -/
def State.tempRegs (s : State) (temps : List (BitVec 16)) (ref slow : BitVec 16) : State :=
  if !s.works engSens then s
  else
    let s := (s.wf engSens SEN.REF_PPM ref.toNat).wf engSens SEN.SLOW_PPM slow.toNat
    let s := temps.zipIdx.foldl (fun s x => (s.wf engSens (SEN.TEMP.idx x.2) x.1.toNat).siteWarn x.2 x.1.toNat) s
    s.wf engSens SEN.TEMP_WARN (s.boot.hiWarn ||| s.boot.loWarn)

/-- Whether some site meets a condition in two consecutive samples; `k` is the condition's place among the counts. -/
def State.anySite (s : State) (k : Nat) (p : Int → Bool) (temps : List (BitVec 16)) : Bool × State :=
  temps.zipIdx.foldl (fun (x : Bool × State) t =>
    let (n, s) := x.2.inRow (k + t.2) (p (signed 16 t.1.toNat))
    (x.1 || decide (n ≥ 2), s)) (false, s)

/-- TEMPERATURE_SAMPLE (R276, R419, R434, R435): the eight sites in 1/16 °C, the clock offsets of R458; `verified` as in ZEROIZE. The tests of
the alarm come first, then the trip. -/
def execTemperatureSample (temps : List (BitVec 16)) (refPpm slowPpm : BitVec 16) (verified : Bool) (s : State) :
    Host.Outcome State Fault Refusal :=
  let temps := temps.take 8
  let s := s.tempRegs temps refPpm slowPpm
  let (low, s) := s.anySite 0 (fun t => decide (t < -720)) temps
  let (high, s) := s.anySite 16 (fun t => decide (t > 2000)) temps
  let (hot, s) := s.anySite 32 (fun t => decide (t > 1840)) temps
  let s := if s.boot.trip && temps.all (fun t => decide (signed 16 t.toNat ≤ 1680)) then { s with boot := { s.boot with trip := false } } else s
  let b := (if low then 16 else 0) + (if high then 32 else 0)
  let s := s.alarmClear (48 - b)
  let s := if b ≠ 0 && s.boot.armed && s.rf engAlarm AL.AL_NOW &&& b ≠ b then s.alarm b verified else s
  if hot && !s.boot.trip then .next (({ s with boot := { s.boot with trip := true } }).assertReset 1 7) else .next s

/-- Rail groups (R470): rail of R277, nominal in mV, operating range in per mille. -/
def railGroups : List (Nat × Nat × Nat) :=
  [(0, 750, 40), (0, 750, 40), (0, 750, 40), (2, 850, 30), (2, 850, 30), (2, 850, 30), (3, 1200, 30), (3, 1200, 30), (3, 1200, 30), (4, 1100, 30),
   (5, 400, 30), (6, 1800, 50), (1, 800, 50), (7, 1800, 50)]

/-- A group's distance from nominal. -/
def railOff (nominal mv : Nat) : Nat := if mv < nominal then nominal - mv else mv - nominal

/-- SUPPLY_WARN, with a record where it declares. -/
def State.railCue (s : State) (rail how reading : Nat) : State :=
  let s := s.cue 0x9003 ([byte rail, byte how] ++ le 2 reading)
  if how = 0 then s else s.logEng 0x0011 engSens ([1, byte rail] ++ le 2 reading)

/-- The warning of one group (R435). -/
def State.groupWarn (s : State) (g rail nominal range mv : Nat) : State :=
  let w := if s.rf engSens SEN.WARN_PCT = 0 then range else s.rf engSens SEN.WARN_PCT
  let out := decide (railOff nominal mv * 1000 > nominal * w)
  let m := s.boot.groupWarn
  let (bad, s) := s.inRow (112 + g) out
  let (good, s) := s.inRow (128 + g) (!out)
  if !bitOf m g && bad ≥ 3 then ({ s with boot := { s.boot with groupWarn := setBit m g true } }).railCue rail 1 mv
  else if bitOf m g && good ≥ 100 then ({ s with boot := { s.boot with groupWarn := setBit m g false } }).railCue rail 0 mv
  else s

/-- A rail's register: the group farthest from nominal (R471). -/
def railShown (gs : List ((Nat × Nat × Nat) × Nat)) (rail : Nat) : Nat :=
  ((gs.filter fun g => g.1.1 = rail).foldl (fun (best : Option (Nat × Nat)) g =>
    let d := railOff g.1.2.1 g.2
    match best with
    | some (e, v) => if d > e then some (d, g.2) else some (e, v)
    | none => some (d, g.2)) none).elim 0 (·.2)

/-- VDD_IO against its operating range while VDD_AON is in range: below it every 1.8 V output is high-impedance (R469, R470). -/
def State.ioRange (s : State) (mv : List Nat) : State :=
  if railOff 800 (mv.getD 12 800) ≤ 40 then s.pins { s with boot := { s.boot with ioLow := decide (mv.getD 13 1800 < 1710) } } else s

/-- RAIL_SAMPLE (R434, R435, R469): the rail groups in the order of `railGroups`, in mV. -/
def execRailSample (mv : List (BitVec 16)) (s : State) : Host.Outcome State Fault Refusal :=
  let s := s.ioRange (mv.map (·.toNat))
  if !s.works engSens then .next s
  else
    let gs := railGroups.zip (mv.map (·.toNat))
    let s := (List.range 8).foldl (fun s r => if gs.any fun g => g.1.1 = r then s.wf engSens (SEN.RAIL.idx r) (railShown gs r) else s) s
    let s := gs.zipIdx.foldl (fun s x => s.groupWarn x.2 x.1.1.1 x.1.1.2.1 x.1.1.2.2 x.1.2) s
    let rails := (railGroups.zipIdx.filter fun x => bitOf s.boot.groupWarn x.2).map (·.1.1)
    .next (s.wf engSens SEN.RAIL_WARN (((List.range 8).map fun r => if rails.contains r then 2 ^ r else 0).sum))

/-! ### Pins (R15, R421, R465, R467, R469) -/

/-- The logical lane that a lane unit serves. -/
def State.servedLane (s : State) (u : Nat) : Option Nat :=
  (List.range 64).find? fun l => laneDomain l = engDomain (engLane u) && s.rf (engLane l) HDR.PUNIT = engNo (engLane u)

/-- What a lane's transmitter sends: its signal while ON, /I2/ or MS-AIS while a warm reset holds it (R421); electrical idle while its clamp holds (R15), while it
is squelched (R150), and in the near-end serial loop (R368). -/
def State.laneDrive (s : State) (l : Nat) : Drive :=
  let e := engLane l
  let warm := s.boot.scope = 3 && s.boot.phase.inReset && !bitOf (s.rf engRst RST.RELEASED) (laneDomain l)
  if !(s.ex e).driving || s.squelched l then .idle
  else if warm then (if s.laneMode l = 3 then .msAis else .i2)
  else if s.isOn e && s.rf e LN.LOOP ≠ 1 then .signal
  else .idle

/-- What an output pin shows between two steps (R465): the column "Cold" while the clamp of its engine holds, and what the engine drives from then on. Serial buses
are shown at rest, as a transfer lies within a step. -/
def State.drive (s : State) (p : Pin) : Drive :=
  match p with
  | .ptx ch => if s.on (engPmd ch) PMD.TX_BURST && (s.ex (engPmd ch)).driving then .signal else .idle
  | .pben ch => s.pbenDrive ch
  | .ctx u => ((s.servedLane u).map s.laneDrive).getD .idle
  | .htx _ => .signal
  | .ppsOut => s.ppsDrive
  | .tmpLoopA => .signal
  | .xtOut => .signal
  | .spiSck => s.ioDrive false
  | .spiCsN => s.ioDrive true
  | .spiIo _ => .hiZ
  | .scl _ => if s.boot.ioLow then .hiZ else .released
  | .sda _ => if s.boot.ioLow then .hiZ else .released
  | .uartTxd => s.ioDrive true

/-! ### I2C (R436 to R438) -/

def engI2c (bus : Nat) : Nat := eng 1 (2 + bus)

/-- Channels whose optics monitor uses a bus. -/
def State.opticsOn (s : State) (bus : Nat) : List Nat := (List.range 4).filter fun ch => s.rf (engOpt ch) OPT.BUS = bus

/-- A bus is declared STUCK after `pulses` SCL pulses of its last attempt (R437). UNMANAGED of a channel is set and cleared with the bus that its BUS names at that
moment; a later write of BUS leaves it (log entry 134). -/
def State.i2cStuck (s : State) (bus pulses : Nat) : State :=
  let e := engI2c bus
  let s := ((s.wf e I2C.STATE 3).wf e I2C.UNMANAGED 1).bump e I2C.I2C_STUCK_CNT
  let chs := s.opticsOn bus
  let s := chs.foldl (fun s ch => s.wf (engOpt ch) OPT.UNMANAGED 1) s
  let s := s.answer (fun w => w = .i2c bus) St.unitFailed
  let s := { s with boot := { s.boot with i2cFor := s.boot.i2cFor.del bus } }
  (s.cue 0x9001 [byte bus, byte (s.rf e I2C.RETRIES + 1), byte pulses, byte ((chs.map fun c => 2 ^ c).sum)]).logEng 0x0010 e [byte bus]

/-- One attempt of a recovery ends: the bus is free, or it is tried again, or it is stuck (R437). -/
def State.i2cAttempt (s : State) (bus : Nat) (freed : Bool) (pulses : Nat) : State :=
  let e := engI2c bus
  let s := { s with boot := { s.boot with pulses := s.boot.pulses.put bus pulses } }
  if freed then
    let s := (s.opticsOn bus).foldl (fun s ch => s.wf (engOpt ch) OPT.UNMANAGED 0) s
    ((s.wf e I2C.STATE 0).wf e I2C.UNMANAGED 0).bump e I2C.I2C_RECOVERIES
  else if s.rf e I2C.RETRIES < 3 then (s.wf e I2C.RETRIES (s.rf e I2C.RETRIES + 1)).wf e I2C.STATE 2
  else s.i2cStuck bus pulses

/-- A recovery begins with its first attempt. -/
def State.i2cRecover (s : State) (bus : Nat) (freed : Bool) (pulses : Nat) : State :=
  (s.wf (engI2c bus) I2C.RETRIES 0).i2cAttempt bus freed pulses

/-- A transfer of I2C_XFER on a free bus. -/
def State.i2cRun (s : State) (p : List Byte) (x : I2cEnd) : Act :=
  let bus := fld p 0 1
  let e := engI2c bus
  match x with
  | .nack => .say (s.bump e I2C.I2C_NACK) St.notReady
  | .stretch => { st := s.wf e I2C.STATE 1, wait := some (.i2c bus) }
  | .done data =>
    let s := if fld p 2 1 = 0 then s else s.emit (.i2c bus (fld p 1 1) (p.drop 4))
    { st := s, payload := (data ++ zeros (fld p 3 1)).take (fld p 3 1) }

def i2cXferCmd (x : I2cIn) : Cmd where
  op := 0x0A05
  len := fun n => 4 ≤ n
  fits := fun r _ => need (r.payload.length = 4 + fld r.payload 2 1) St.badLength 2
  params := fun _ r _ =>
    let p := r.payload
    checks
      [param (fld p 0 1 ≤ 1) 0, param (fld p 1 1 ≤ 0x7F) 1, param (fld p 2 1 ≤ 64) 2,
       param (fld p 3 1 ≤ 64 && !(fld p 2 1 = 0 && fld p 3 1 = 0)) 3]
  act := fun _ r s =>
    let bus := fld r.payload 0 1
    let e := engI2c bus
    if s.rf e I2C.STATE = 3 || s.engState e = 4 || s.engState e = 5 then .say s St.unitFailed
    else if !s.isOn e then .say s St.notReady
    else
      match x.sdaLow with
      | none => s.i2cRun r.payload x.ends
      | some (freed, pulses) =>
        let s := s.i2cRecover bus freed pulses.val
        if freed then s.i2cRun r.payload x.ends else { st := s, wait := some (.i2c bus) }

/-- Whether a bus is free for the next transfer; one bus serves one at a time (R436). -/
def State.i2cFree (s : State) (bus : Nat) : Bool := s.rf (engI2c bus) I2C.STATE ≠ 1 && s.rf (engI2c bus) I2C.STATE ≠ 2

/-- I2C_XFER (R436). A request for a busy bus is taken, and starts when this row comes again. -/
def execI2cXfer (r : Req) (x : I2cIn) (s : State) : Host.Outcome State Fault Refusal :=
  let c := i2cXferCmd x
  let s := match s.findTaken c.op r with
    | some _ => s
    | none => State.take c r s
  if s.i2cFree (fld r.payload 0 1) || (s.findTaken c.op r).isNone then .next (if (s.findTaken c.op r).isSome then runCmd c r s else s) else .next s

/-- A scheduled read of optics that fails (R126). -/
def State.opticsStale (s : State) (ch : Nat) : State := s.wf (engOpt ch) OPT.STALE 1

/-- I2C_STRETCH_TIMEOUT (R436). -/
def execI2cStretchTimeout (bus : Fin 2) (s : State) : Host.Outcome State Fault Refusal :=
  let b := bus.val
  let e := engI2c b
  if s.rf e I2C.STATE ≠ 1 then .next s
  else
    let s := ((s.wf e I2C.STATE 0).bump e I2C.I2C_STRETCH).answer (fun w => w = .i2c b) St.timeout
    match s.boot.i2cFor.look b with
    | some ch => .next ({ s with boot := { s.boot with i2cFor := s.boot.i2cFor.del b } }.opticsStale ch)
    | none => .next s

/-- I2C_RECOVERY_RETRY (R437): 10 ms after an attempt that failed. A transfer that waits goes on once the bus is free, as `x` says. -/
def execI2cRecoveryRetry (bus : Fin 2) (freed : Bool) (pulses : Fin 10) (x : I2cEnd) (s : State) : Host.Outcome State Fault Refusal :=
  let b := bus.val
  if s.rf (engI2c b) I2C.STATE ≠ 2 then .next s
  else
    let s := s.i2cAttempt b freed pulses.val
    if !freed then .next s
    else
      let s := { s with boot := { s.boot with i2cFor := s.boot.i2cFor.del b } }
      match s.chan.waits.find? fun w => w.why = .i2c b with
      | some w => .next (s.retry w fun s => s.i2cRun w.cmd.req.payload x)
      | none => .next s

/-- A reading of the diagnostic page (R126). -/
def State.opticsRead (s : State) (ch : Nat) (x : OpticsIn) : State :=
  let e := engOpt ch
  let s := ((s.wf e OPT.RX_PWR x.rx.toNat).wf e OPT.TX_PWR x.tx.toNat).wf e OPT.BIAS x.bias.toNat
  let s := (((s.wf e OPT.TEMP x.temp.toNat).wf e OPT.VCC x.vcc.toNat).wf e OPT.VALID 1).wf e OPT.STALE 0
  if x.fault && !s.on (engPmd ch) PMD.TX_FAULT then
    ((s.wf (engPmd ch) PMD.TX_FAULT 1).alarmCue ch 8).abandon ch fun b => b.committed
  else s

/-- What the monitor writes on its bus (R126): the multiplexer's port where one is configured, then the first byte of the diagnostics in the page at DEV_ADDR.
The multiplexer's control byte and that byte's number are the family's (log entry 135). -/
def State.opticsAsk (s : State) (ch : Nat) : State :=
  let e := engOpt ch
  let mux := s.rf e OPT.MUX_ADDR
  let s := if mux = 0 then s else s.emit (.i2c (s.rf e OPT.BUS) (mux / 2) [byte (2 ^ s.rf e OPT.MUX_PORT)])
  s.emit (.i2c (s.rf e OPT.BUS) (s.rf e OPT.DEV_ADDR / 2) [96])

/-- OPTICS_MONITOR_READ (R126, R138, R438). A stuck bus is left alone; a busy one is read when the row comes again. -/
def execOpticsMonitorRead (ch : Fin 4) (x : OpticsIn) (s : State) : Host.Outcome State Fault Refusal :=
  let c := ch.val
  let b := s.rf (engOpt c) OPT.BUS
  let e := engI2c b
  if !(s.works (engOpt c) && s.works e && s.rf e I2C.STATE = 0) then .next s
  else
    let s := match x.bus.sdaLow with
      | none => s
      | some (freed, pulses) => s.i2cRecover b freed pulses.val
    if s.rf e I2C.STATE ≠ 0 then .next ({ s with boot := { s.boot with i2cFor := s.boot.i2cFor.put b c } }.opticsStale c)
    else
      let s := s.opticsAsk c
      match x.bus.ends with
      | .done _ => .next (s.opticsRead c x)
      | .nack => .next ((s.bump e I2C.I2C_NACK).opticsStale c)
      | .stretch => .next ({ s.wf e I2C.STATE 1 with boot := { s.boot with i2cFor := s.boot.i2cFor.put b c } })

/-! ### Spare rows (R261, R304, R454, R455) -/

/-- A corrected error in a row: whether it is the fourth within 24 operating hours, which starts the count anew (R454). -/
def State.fourth (s : State) (kind row : Nat) : Bool × State :=
  let k := kind * 2 ^ 32 + row
  let now := (s.boot.rowErrs.get k []).filter fun t => decide (s.elapsed ≤ t + oneDay)
  let m := s.boot.rowErrs
  if now.length ≥ 3 then (true, { s with boot := { s.boot with rowErrs := m.del k } })
  else (false, { s with boot := { s.boot with rowErrs := m.put k (now ++ [s.elapsed]) } })

/-- A key slot's row (R261): copied to a spare row of its bank, or with an uncorrectable error erased and retired. -/
def State.keyRow (s : State) (slot : Nat) (correctable : Bool) : State :=
  if correctable then
    match s.fourth 3 slot with
    | (false, s) => s
    | (true, s) =>
      let used := (s.cry.rows.filter fun n => n / 256 = slot / 256).length
      if used ≥ 2 then s.noSpare engKeys 3 slot
      else
        let s := s.modCry fun c => { c with rows := c.rows ++ [slot] }
        (s.wf engKeys KS.SPARE_LEFT (512 - s.cry.rows.length)).spareTaken engKeys 3 0 slot (1 - used)
  else
    let s := (s.modCry fun c => { c with retired := if c.retired.contains slot then c.retired else c.retired ++ [slot] }).eraseSlot slot
    s.wf engKeys KS.SLOTS_RETIRED s.cry.retired.length

/-- Spare rows of an array (R454). -/
def spareRows (kind : Nat) : Nat := if kind = 6 then Config.hbmSpares.toNat else 32

/-- A row of an array is remapped, or stays in use where no spare is left (R454, R455). -/
def State.remapRow (s : State) (e kind row : Nat) (correctable : Bool) : State :=
  let used := s.boot.rowsUsed.get kind 0
  if used < spareRows kind then
    let s := { s with boot := { s.boot with rowsUsed := s.boot.rowsUsed.put kind (used + 1) } }
    s.spareTaken e kind (bit !correctable) row (spareRows kind - used - 1)
  else
    let s := s.noSpare e kind row
    if correctable then s else (s.wf e HDR.ECC_UE 1).faulted e

/-- An array's row: the fourth corrected error, or an uncorrectable one that loses what `lose` says (R455). -/
def State.arrayRow (s : State) (e kind row : Nat) (correctable : Bool) (lose : State → State) : State :=
  if correctable then
    match s.fourth kind row with
    | (false, s) => s
    | (true, s) => s.remapRow e kind row true
  else (lose s).remapRow e kind row false

/-- A frame that holds a lost page leaves every place where it waits (R455). -/
def State.losePage (s : State) (p : Nat) : State :=
  let jobs := s.disp.jobs.filterMap fun x => match x.2.work with
    | .crypto d => if d.src.contains p then some x.1 else none
    | _ => none
  let s := jobs.foldl State.discardJob s
  let gone := (s.sched.queues.flatMap fun q => q.2.frames.flatMap fun f => if f.pages.contains p then f.pages else []) ++
    (s.client.macs.flatMap fun m => m.2.txq.flatMap fun q => q.2.flatMap fun f => if f.pages.contains p then f.pages else []) ++
    (s.cls.inq.flatMap fun f => if f.pages.contains p then f.pages else []) ++
    (s.tdm.rx.flatMap fun f => if f.pages.contains p then f.pages else []) ++
    (s.pon.groups.flatMap fun g => g.2.held.flatMap fun f => if f.pages.contains p then f.pages else []) ++
    (s.pon.allocs.flatMap fun a => match a.2.cut with
      | some (f, _) => if f.pages.contains p then f.pages else []
      | none => [])
  let frames := (s.pon.groups.flatMap fun g => g.2.frames).filter fun f => f.pages.contains p
  let drop (f : List Nat) : Bool := !f.contains p
  ({ s with
    sched := { s.sched with queues := s.sched.queues.each fun _ q => { q with frames := q.frames.filter fun f => drop f.pages } }
    client := { s.client with macs := s.client.macs.each fun _ m => { m with txq := m.txq.each fun _ q => q.filter fun f => drop f.pages } }
    cls := { s.cls with inq := s.cls.inq.filter fun f => drop f.pages }
    tdm := { s.tdm with rx := s.tdm.rx.filter fun f => drop f.pages }
    pon := { s.pon with
      groups := s.pon.groups.each fun _ g =>
        { g with
          queue := g.queue.filter fun c => drop c.frame.pages
          resend := g.resend.filter fun f => drop f.frame.pages
          held := g.held.filter fun f => drop f.pages }
      allocs := s.pon.allocs.each fun _ a => match a.cut with
        | some (f, _) => if drop f.pages then a else { a with cut := none }
        | none => a } }.freePages gone).endFrames frames

/-- A job whose image is lost is cancelled (R326, R455). -/
def State.loseCtx (s : State) (c : Nat) : State :=
  match s.disp.jobs.look c with
  | some j => match j.work with
    | .crypto _ => s.discardJob c
    | _ => s.endJob c false
  | none => s

/-- ROW_ECC_ERROR (R454, R455): one ECC error found in a row. -/
def execRowEccError (row : RowFault) (correctable : Bool) (s : State) : Host.Outcome State Fault Refusal :=
  match row with
  | .keystore slot => .next (s.keyRow slot.toNat correctable)
  | .stash r slots =>
    .next (s.arrayRow (engTable 1) 4 r.toNat correctable fun s =>
      slots.foldl (fun s i => if s.cls.stash.has i.toNat then
        (s.modCls fun c => { c with stash := c.stash.del i.toNat }).bump (engTable 1) FT.FT_MOVES else s) s)
  | .dispatcher r ctxs => .next (s.arrayRow engDisp 5 r.toNat correctable fun s => ctxs.foldl (fun s c => s.loseCtx c.toNat) s)
  | .hbm r pages entries =>
    .next (s.arrayRow (eng 3 0) 6 r.toNat correctable fun s =>
      let s := pages.foldl (fun s p => s.losePage p.toNat) s
      entries.foldl (fun s i => match s.cls.flows.look i.toNat with
        | some x => s.flowDrop (.entry i.toNat) x
        | none => s) s)

/-! ### SPARE_INVENTORY, UNIT_RESTORE (R454, R457) -/

/-- One entry of the inventory. -/
def spareEntry (kind total used retired : Nat) : List Byte := [byte kind, 0] ++ le 2 total ++ le 2 used ++ le 2 retired

/-- Spare windows that serve. -/
def State.serving (s : State) (es : List Nat) : Nat := (es.filter fun e => s.rf e HDR.LUNIT ≠ 0xFF).length

/-- NOR blocks remapped in both reels and in an update that runs. -/
def State.norUsed (s : State) : Nat :=
  s.boot.nor.reelA.remap.length + s.boot.nor.reelB.remap.length + ((s.boot.update.map fun u => u.remap.length).getD 0)

def spareInventoryCmd : Cmd where
  op := 0x0A06
  len := fun n => n = 0
  act := fun _ _ s =>
    let b := s.boot.rowsUsed
    { st := s
      payload := spareEntry 1 4 (s.serving ([64, 65, 66, 67].map engLane)) s.client.out.length ++
        spareEntry 2 2 (s.serving [engCipher 8, engCipher 9]) s.cry.out.length ++
        spareEntry 3 512 s.cry.rows.length s.cry.retired.length ++ spareEntry 4 32 (b.get 4 0) 0 ++ spareEntry 5 32 (b.get 5 0) 0 ++
        spareEntry 6 (spareRows 6) (b.get 6 0) 0 ++ spareEntry 7 128 s.norUsed 0 }

/-- SPARE_INVENTORY (R454). -/
def execSpareInventory (r : Req) (s : State) : Host.Outcome State Fault Refusal := .next (runCmd spareInventoryCmd r s)

/-- A number put in its place in a rising list. -/
def insertUp (n : Nat) : List Nat → List Nat
  | [] => [n]
  | x :: xs => if n < x then n :: x :: xs else if n = x then x :: xs else x :: insertUp n xs

/-- UNIT_RESTORED's record, and SPARE_TAKEN where the unit serves again (R447, R459). -/
def State.restored (s : State) (e k left : Nat) (service : Option Nat) : State :=
  let s := s.logEng 0x0014 e (le 4 (locOf e) ++ [byte (bit service.isSome)])
  match service with
  | some l => s.cue 0x9004 ([byte k, 2, 0, 0] ++ le 4 (locOf l) ++ le 2 left ++ [0, 0])
  | none => s

/-- A lane unit that passed its test goes back into service, or to SPARE (R457). -/
def State.restoreLane (s : State) (u l : Nat) : State :=
  let e := engLane u
  let s := { s with client := { s.client with out := s.client.out.del u } }
  if s.engState (engLane l) = 5 then
    let s := (s.wf (engLane l) HDR.PUNIT (engNo e)).modLane l fun x => { x with checked := true }
    let s := if u < 64 then s else (s.setEng e 2).wf e HDR.LUNIT (engNo (engLane l))
    ((s.setEng (engLane l) 1).startGroup l).restored e 1 (s.laneSpares l).length (some (engLane l))
  else
    let s := if u < 64 then { s with client := { s.client with pool := insertUp u s.client.pool } }
      else (s.setEng e 6).wf e HDR.LUNIT 0xFF
    s.restored e 1 (s.laneSpares l).length none

/-- The same for a cipher unit. -/
def State.restoreCipher (s : State) (u l : Nat) : State :=
  let e := engCipher u
  let s := s.modCry fun c => { c with out := c.out.del u }
  if s.engState (engCipher l) = 5 then (s.serve u l).restored e 2 s.cipherSpares.length (some (engCipher l))
  else
    let s := if u < 8 then s.modCry fun c => { c with pool := insertUp u c.pool } else (s.setEng e 6).wf e HDR.LUNIT 0xFF
    s.restored e 2 s.cipherSpares.length none

/-- `pass`: the unit passes its self-test. -/
def unitRestoreCmd (pass : Bool) : Cmd where
  op := 0x0A07
  role := .maintenance
  len := fun n => n = 0
  target := fun r _ => need ((kind r.eng = 0x10 || kind r.eng = 0x40) && locOff r.target.toNat = 0) St.badLocator
  domains := fun r _ => [engDomain r.eng]
  act := fun _ r s =>
    let e := r.eng
    let lane : Bool := kind e = 0x10
    match (if lane then s.client.out.look (laneOf e) else s.cry.out.look (engNo e)) with
    | none => .say s St.noChange
    | some l =>
      if !pass then .say s St.unitFailed
      else .say (if lane then s.restoreLane (laneOf e) l else s.restoreCipher (engNo e) l) St.ok

/-- UNIT_RESTORE (R457). -/
def execUnitRestore (r : Req) (pass : Bool) (s : State) : Host.Outcome State Fault Refusal := .next (runCmd (unitRestoreCmd pass) r s)

end Sys2Proof.Machine
end

