-- ==== Sys2Proof/Machine/Update.lean ====
section
/-! DEFINITION. Firmware updates: the reel that is not loaded is written, verified and given its control record (R448, R449, R453). -/
namespace Sys2Proof.Machine

/-- The reel that an update writes (R453). -/
def State.targetReel (s : State) : Nat :=
  match s.rf engTake TK.REEL_LOADED with
  | 1 => 2
  | 2 => 1
  | _ =>
    let n := s.boot.nor
    if !n.candidate 1 then 1 else if !n.candidate 2 then 2 else if ahead 32 n.reelA.seq n.reelB.seq then 2 else 1

/-- The update abandoned. -/
def State.abandonUpdate (s : State) : State := { s with boot := { s.boot with update := none } }

/-- The update of the session that a request names. -/
def State.updateOf (s : State) (r : Req) : Option Update :=
  match s.boot.update with
  | some u => if u.session = r.session.toNat then some u else none
  | none => none

/-- The header's first bad field, ROLLBACK below FUSED among them (R448, R452). -/
def headerCheck (h : List Byte) (fused : Nat) : Chk :=
  match headerBad h with
  | some o => if o < 6 || fld h 6 1 ≥ fused then some (St.badParam, o) else some (St.badParam, 6)
  | none => param (fld h 6 1 ≥ fused) 6

/-- `erased`: block 0 of the target takes its erase. -/
def updateBeginCmd (erased : Bool) : Cmd where
  op := 0x0A00
  role := .officer
  len := fun n => n = 256
  params := fun _ r s => headerCheck r.payload (s.rf engTake TK.FUSED)
  recovery := true
  act := fun _ r s =>
    let other := s.boot.update.isSome && (s.updateOf r).isNone
    let t := s.targetReel
    let x := s.boot.nor.reel t
    if !headerSigned r.payload then .say s St.integrity
    else if other then .say s St.collision
    else
      let s := s.abandonUpdate
      if x.bad0 then .say s St.unitFailed
      else if !erased then
        .say ((s.setReel t { x with valid := false, bad0 := true }).bump engSpi SPI.SPI_ERASE_FAIL) St.unitFailed
      else
        let s := s.setReel t { x with valid := false }
        { st := { s with boot := { s.boot with update := some { session := r.session.toNat, reel := t, header := r.payload } } }
          payload := [byte t, 0, 0, 0] }

/-- UPDATE_BEGIN (R453). -/
def execUpdateBegin (r : Req) (erased : Bool) (s : State) : Host.Outcome State Fault Refusal := .next (runCmd (updateBeginCmd erased) r s)

/-- The physical block of a logical block (R449). -/
def Update.block (u : Update) (i : Nat) : Nat := u.remap.get i i

/-- A physical block fails its erase, or with `prog` its program verify: its logical block, among `ls`, moves to the lowest unused spare (R449), or none is
left. -/
def State.remapBlock (s : State) (u : Update) (ls : List Nat) (b : Nat) (prog : Bool) : State × Option Update :=
  match ls.find? fun i => u.block i = b with
  | none => (s, some u)
  | some i =>
    let s := s.bump engSpi (if prog then SPI.SPI_PROG_FAIL else SPI.SPI_ERASE_FAIL)
    if u.used ≥ 64 then (s, none)
    else
      let u := { u with remap := u.remap.put i (64 + u.used), used := u.used + 1 }
      (s.spareTaken engSpi 7 1 b (64 - u.used), some u)

/-- The blocks that fail during one write, in order. -/
def State.remapAll (s : State) (u : Update) (ls : List Nat) : List (Byte × Bool) → State × Option Update
  | [] => (s, some u)
  | b :: bs =>
    match s.remapBlock u ls b.1.toNat b.2 with
    | (s, none) => (s, none)
    | (s, some u) => s.remapAll u ls bs

/-- Logical blocks that `n` image bytes at an offset stand in; the file's header comes first (R449). -/
def blocksOf (off n : Nat) : List Nat :=
  let a := (256 + off) / 65536
  (List.range ((256 + off + n - 1) / 65536 - a + 1)).map fun i => 1 + a + i

/-- `bad`: the physical blocks that fail while the bytes are written, each at its erase, or with `true` at its program verify. -/
def updateDataCmd (bad : List (Byte × Bool)) : Cmd where
  op := 0x0A01
  role := .officer
  len := fun n => 5 ≤ n && n ≤ 4096
  recovery := true
  act := fun _ r s =>
    match s.updateOf r with
    | none => .say s St.notReady
    | some u =>
      let n := r.payload.length - 4
      if u.data.length + n > fld u.header 12 4 then .say s St.badLength
      else if fld r.payload 0 4 ≠ u.data.length then .say s St.badParam 0
      else
        match s.remapAll u (blocksOf u.data.length n) bad with
        | (s, none) => .say s.abandonUpdate St.exhausted
        | (s, some u) =>
          .say { s with boot := { s.boot with update := some { u with data := u.data ++ r.payload.drop 4 } } } St.ok

/-- UPDATE_DATA (R449). -/
def execUpdateData (r : Req) (bad : List (Byte × Bool)) (s : State) : Host.Outcome State Fault Refusal := .next (runCmd (updateDataCmd bad) r s)

/-- `readOk`: the file reads back as it was written. -/
def updateEndCmd (readOk : Bool) : Cmd where
  op := 0x0A02
  role := .officer
  len := fun n => n = 0
  recovery := true
  act := fun _ r s =>
    match s.updateOf r with
    | none => .say s St.notReady
    | some u =>
      if u.data.length < fld u.header 12 4 then .say s St.notReady
      else if !readOk || !digestOk u.header u.data || !headerSigned u.header then .say s.abandonUpdate St.integrity
      else if fld u.header 6 1 < s.rf engTake TK.FUSED then .say s.abandonUpdate St.badParam 0
      else
        let o := s.boot.nor.reel (3 - u.reel)
        let seq := if o.valid then (o.seq + 1) % 2 ^ 32 else 1
        let s := (s.setReel u.reel { valid := true, seq := seq, header := u.header, image := u.data, remap := u.remap }).abandonUpdate
        let s := s.logEng 0x000E engSpi ([byte u.reel, 0, 0, 0] ++ le 4 seq ++ le 4 (fld u.header 8 4) ++ [byte (fld u.header 6 1)])
        { st := s, payload := [byte u.reel, 0, 0, 0] ++ le 4 seq }

/-- UPDATE_END (R449). -/
def execUpdateEnd (r : Req) (readOk : Bool) (s : State) : Host.Outcome State Fault Refusal := .next (runCmd (updateEndCmd readOk) r s)

/-- UPDATE_TIMEOUT (R453): 60 s without an update command. -/
def execUpdateTimeout (s : State) : Host.Outcome State Fault Refusal := .next s.abandonUpdate

/-- One reel in REEL_STATUS. -/
def Reel.report (x : Reel) : List Byte :=
  if x.valid then
    [byte (1 + 2 * bit x.confirmed + 4 * bit x.rejected), byte x.tries] ++ le 4 x.seq ++ le 4 (fld x.header 8 4) ++
      [byte (fld x.header 6 1), byte x.remap.length] ++ zeros 6
  else zeros 18

def reelStatusCmd : Cmd where
  op := 0x0A03
  len := fun n => n = 0
  recovery := true
  act := fun _ _ s =>
    { st := s
      payload := [byte (s.rf engTake TK.REEL_LOADED), byte (s.rf engTake TK.FUSED), byte (bit s.boot.update.isSome), 0] ++
        s.boot.nor.reelA.report ++ s.boot.nor.reelB.report }

/-- REEL_STATUS (R450). -/
def execReelStatus (r : Req) (s : State) : Host.Outcome State Fault Refusal := .next (runCmd reelStatusCmd r s)

end Sys2Proof.Machine
end

