-- ==== Sys2Proof/Machine/Regs.lean ====
section
/-! DEFINITION. Reading and writing the words of the register windows (R9, R10, R17, R18, R23, R25), with what the fields of each engine
show of its state and what a write of a field does. -/
namespace Sys2Proof.Machine

/-! ### What computed fields show -/

/-- The first value whose condition holds. -/
def pick (xs : List (Bool × Nat)) : Option Nat := (xs.find? (·.1)).map (·.2)

/-- Whether `f` is one of the registers of the repeated field `g`. -/
def Fld.among (f g : Fld) : Bool := f.lo = g.lo && g.inWord f.off

/-- Which of the registers of `g` the field `f` is. -/
def Fld.place (f g : Fld) : Nat := (f.off - g.off) / g.stride

/-- Header fields that follow the state (R21, R23). -/
def State.viewHdr (s : State) (e : Nat) (f : Fld) : Option Nat :=
  pick
    [(f = HDR.ASLEEP, bit (s.sleeping e)),
     (f = HDR.SUBST, bit (if isSpareWin e then s.rf e HDR.LUNIT ≠ 0xFF else s.punit e ≠ engNo e))]

/-- Engines of the PON side (R126). -/
def State.viewPon (s : State) (e : Nat) (f : Fld) : Option Nat :=
  let ch := engDomain e - 4
  match kind e with
  | 0x04 =>
    pick [(f = XG.PORT_CH, (s.pon.ports.filter fun x => x.1 / 2 ^ 16 == ch).length), (f = XG.PORT_ALL, s.pon.ports.length)]
  | 0x05 =>
    pick [(f = PL.ALLOC_CH, (s.pon.allocs.filter fun x => x.1 / 2 ^ 14 == ch).length), (f = PL.ALLOC_ALL, s.pon.allocs.length)]
  | _ => none

/-- Lanes and MACs (R384, R385). -/
def State.viewClient (s : State) (e : Nat) (f : Fld) : Option Nat :=
  match kind e with
  | 0x10 => pick [(f = LN.SQUELCH, bit (s.squelched (laneOf e))), (f = LN.TESTING, bit (s.laneTesting (laneOf e)))]
  | 0x11 =>
    pick
      [(f = MAC.FIFO_HELD, bit s.disp.fifosHeld),
       (f.among MAC.CNT_LO, (s.mac (laneOf (e - 0x40))).counts.get (f.place MAC.CNT_LO) 0 % 2 ^ 32)]
  | _ => none

/-- The TDM engines (R199). -/
def State.viewTdm (s : State) (e : Nat) (f : Fld) : Option Nat :=
  let t := s.tdm
  match kind e with
  | 0x20 =>
    let a := f.place SF.STRUCT
    let p := t.act.au (engNo e) a
    let q := t.stby.au (engNo e) (f.place SF.STBY)
    let x := t.aus.get (engNo e * 16 + a) {}
    let there (i n : Nat) : Nat := if i < s.sdhAus (engNo e) then n else 0
    pick
      [(f.among SF.STRUCT, there a p.1), (f.among SF.TU12, there a p.2), (f.among SF.PSTATE, there a x.state), (f.among SF.PTR, there a x.off),
       (f.among SF.STBY, there (f.place SF.STBY) (q.1 + 8 * q.2))]
  | 0x21 => pick [(f = TSI.DIRTY, bit (t.act ≠ t.stby)), (f = TSI.OUT_USED, (t.act.conns.map fun c => sizeSlots c.2.1).sum)]
  | 0x22 => pick [(f = PK.PK_CIRCUITS, t.act.circs.length)]
  | 0x23 => pick [(f = PO.PO_BLOCKS, if s.on engTsi TSI.COPYING then { t with stby := t.act }.blocks else t.blocks)]
  | 0x24 => pick [(f = PMON.POOL_USED, (t.mons.filter fun m => decide (3 ≤ m.1 / 2 ^ 28)).length)]
  | _ => none

/-- The classifier's engines (R320). -/
def State.viewCls (s : State) (e : Nat) (f : Fld) : Option Nat :=
  let c := s.cls
  match kind e with
  | 0x30 => pick [(f = PS.EXC_DEPTH, c.excq.length)]
  | 0x31 =>
    let x := c.table (engNo e)
    pick
      [(f = TB.KIND, x.kind), (f = TB.KEY_LEN, keyLen x.fields), (f = TB.DIRTY, bit (x.kind = 2 && x.act ≠ x.stby)),
       (f = TB.ENTRIES, if x.kind = 2 then x.act.length else c.entriesOf (engNo e)), (f = FT.FT_USED, c.used),
       (f = FT.FT_STASH_USED, c.stash.length)]
  | _ => none

/-- Cipher engines and the DRBG (R250, R287). -/
def State.viewCry (s : State) (e : Nat) (f : Fld) : Option Nat :=
  let ms := s.msgsOf (engNo e)
  match kind e with
  | 0x40 =>
    pick
      [(f = CX.IDLE, bit ms.isEmpty), (f = CX.SUSP, (ms.filter (·.suspended)).length),
       (f = CX.URGENT, bit (ms.any fun m => decide (0 < m.cls) && m.feeding)),
       (f = CX.ACTIVE, (ms.filter fun m => m.cls = 0 && m.feeding).length),
       (f = CX.URG_WAIT, min 255 (ms.filter fun m => decide (0 < m.cls) && !m.started).length),
       (f = CX.CX_BLOCKS_LO, s.cry.blocks.get (engNo e) 0 % 2 ^ 32)]
  | 0x42 =>
    pick [(f = RNG.WAITING, (s.chan.waits.filter fun w => match w.why with
      | .rng .. => true
      | _ => false).length)]
  | _ => none

/-- The dispatcher and the traffic scheduler (R353). -/
def State.viewSchd (s : State) (e : Nat) (f : Fld) : Option Nat :=
  match kind e with
  | 0x50 =>
    pick
      [(f = DP.DP_TICK, s.disp.tick % 2 ^ 32), (f.among DP.READY_DEPTH, s.readyDepth (f.place DP.READY_DEPTH)),
       (f.among DP.DELAY_DEPTH, s.delayDepth (f.place DP.DELAY_DEPTH))]
  | 0x51 =>
    let held := (s.sched.queues.map fun q => (q.2.frames.map (·.len)).sum).sum
    pick [(f = TS.TS_QUEUES, s.sched.queues.length), (f = TS.TS_BACKLOG, min 0xFFFFFFFF (held / 1024))]
  | _ => none

/-- The clock and the stamp queue (R404). -/
def State.viewTime (s : State) (e : Nat) (f : Fld) : Option Nat :=
  let c := s.clk
  let word (v : Nat) (g : Fld) : Nat := v / 2 ^ (32 * f.place g) % 2 ^ 32
  match kind e with
  | 0x60 =>
    pick
      [(f = CLK.SOURCE, c.source), (f = CLK.STATE, c.state), (f = CLK.SLEW, bit (c.slewLeft ≠ 0)), (f = CLK.CLAMP, bit c.clamp),
       (f = CLK.ARMED, bit c.armed), (f = CLK.NOW_SHORT, s.short), (f = CLK.NOW_NS, c.latchNs),
       (f = CLK.NOW_SEC_LO, c.latchSec % 2 ^ 32), (f = CLK.NOW_SEC_HI, c.latchSec / 2 ^ 32), (f = CLK.RATE, unsigned 32 c.rate),
       (f = CLK.FREQ, unsigned 32 c.freq), (f = CLK.LAST_OFFSET_LO, unsigned 64 c.lastOffset % 2 ^ 32),
       (f = CLK.LAST_OFFSET_HI, unsigned 64 c.lastOffset / 2 ^ 32), (f = CLK.INCR_FRAC, c.incr % 2 ^ 32),
       (f = CLK.INCR_NS, c.incr / 2 ^ 32), (f = CLK.COUNT.idx 0, c.count % 2 ^ 32), (f = CLK.COUNT.idx 1, c.latchMid),
       (f = CLK.COUNT.idx 2, c.latchHi), (f.among CLK.BASE, word c.base CLK.BASE), (f.among CLK.OFFSET, word (unsigned 96 c.offset) CLK.OFFSET)]
  | 0x61 => pick [(f = STQ.DEPTH, c.stamps.length)]
  | _ => none

/-- The engines of AON and MGT (R418, R430, R458). -/
def State.viewMgt (s : State) (e : Nat) (f : Fld) : Option Nat :=
  let l := s.log
  match kind e with
  | 0x70 => pick [(f = FW.UPTIME, if 2 ≤ s.rf e FW.FW_STATE then (s.elapsed - s.boot.fwStart) / usUnits 1000000 else 0)]
  | 0x80 => pick [(f = WK.HELD, s.heldMask)]
  | 0x83 =>
    pick
      [(f = LOG.OLDEST_SEQ, (l.records.head?.map (·.seq)).getD l.nextSeq), (f = LOG.NEXT_SEQ, l.nextSeq), (f = LOG.OVERRUN, l.overrun),
       (f = LOG.MIRRORED_SEQ, ((l.mirror.flatMap id).getLast?.map (·.seq)).getD 0),
       (f = LOG.HOURS, l.hours), (f = LOG.MINSEC, s.minsec), (f = LOG.CYCLES, l.cycles),
       (f.among LOG.WINDOW, fld l.window (4 * f.place LOG.WINDOW) 4)]
  | _ => none

/-- What a field that follows the state shows, by the engine's domain; none for a field that holds its own value. -/
def State.view (s : State) (e : Nat) (f : Fld) : Option Nat :=
  if f.off < 0x100 then s.viewHdr e f
  else
    match engDomain e with
    | 0 | 1 => s.viewMgt e f
    | 4 | 5 | 6 | 7 => s.viewPon e f
    | 8 | 9 => s.viewClient e f
    | 10 => s.viewTdm e f
    | 11 => s.viewCls e f
    | 12 => s.viewCry e f
    | 13 => s.viewSchd e f
    | 14 => s.viewTime e f
    | _ => none

/-! ### Reads (R9, R10, R18, R23) -/

/-- What a field reads as: WO reads 0 (R9). -/
def State.fieldRead (s : State) (e : Nat) (f : Fld) : Nat :=
  if f.acc = .wo then 0 else ((s.view e f).getD (s.rf e f)) % 2 ^ f.width

/-- What a word reads as, where reading changes nothing: unlisted words, absent engines and, beyond the header, a serving spare's window
read 0 (R18, R23). -/
def State.peek (s : State) (e o : Nat) : Nat :=
  if !present e || 0x100 ≤ o && isSpareWin e && s.rf e HDR.LUNIT ≠ 0xFF then 0
  else ((wordFlds e o).map fun f => s.fieldRead e f * 2 ^ f.lo).sum

/-- A 64-bit count's high word latched by a read of its low word, and the count cleared (R383). -/
def State.macLatch (s : State) (l i : Nat) : State :=
  let n := (s.mac l).counts.get i 0
  (s.wf (engMac l) (MAC.CNT_HI.idx i) (n / 2 ^ 32)).modMac l fun m => { m with counts := m.counts.del i }

/-- CX_BLOCKS latched and cleared (R250). -/
def State.blocksLatch (s : State) (u : Nat) : State :=
  (s.wf (engCipher u) CX.CX_BLOCKS_HI (s.cry.blocks.get u 0 / 2 ^ 32)).modCry fun c => { c with blocks := c.blocks.del u }

/-- SFC_HI latched (R126). -/
def State.sfcLatch (s : State) (ch : Nat) : State := s.wf (engFramer ch) FR.SFC_HI ((s.chn ch).sfc / 2 ^ 32)

/-- NOW_NS and NOW_SEC latched (R404). -/
def State.nowLatch (s : State) : State := { s with clk := { s.clk with latchNs := s.nowNsPart, latchSec := s.nowSec % 2 ^ 48 } }

/-- COUNT_MID and COUNT_HI latched (R404). -/
def State.countLatch (s : State) : State :=
  { s with clk := { s.clk with latchMid := s.clk.count / 2 ^ 32 % 2 ^ 32, latchHi := s.clk.count / 2 ^ 64 % 2 ^ 32 } }

/-- What the read of a field changes besides RC's clearing. -/
def State.fieldLatch (s : State) (e : Nat) (f : Fld) : State :=
  match kind e with
  | 0x02 => if f = FR.SFC_LO then s.sfcLatch (engDomain e - 4) else s
  | 0x11 => if f.among MAC.CNT_LO then s.macLatch (laneOf (e - 0x40)) (f.place MAC.CNT_LO) else s
  | 0x40 => if f = CX.CX_BLOCKS_LO then s.blocksLatch (engNo e) else s
  | 0x60 => if f = CLK.NOW_SHORT then s.nowLatch else if f = CLK.COUNT.idx 0 then s.countLatch else s
  | 0x83 => if f = LOG.WINDOW.idx 15 then s.windowRead else s
  | _ => s

/-- A field as a read leaves it: RC clears (R9). -/
def State.fieldAfter (s : State) (e : Nat) (f : Fld) : State :=
  let s := s.fieldLatch e f
  if f.acc = .rc then s.clearFld e f else s

/-- A word read, with what the read changes. -/
def State.readWord (s : State) (e o : Nat) : Nat × State :=
  if !present e || 0x100 ≤ o && isSpareWin e && s.rf e HDR.LUNIT ≠ 0xFF then (0, s)
  else (s.peek e o, (wordFlds e o).foldl (fun s f => s.fieldAfter e f) s)

/-! ### Values that are taken -/

/-- Whether a value is one that a field with a stated range takes; another is not taken, and the field keeps its value. -/
def inRange (e : Nat) (f : Fld) (v : Nat) : Bool :=
  let r (lo hi : Nat) : Bool := decide (lo ≤ v) && decide (v ≤ hi)
  match kind e with
  | 0x91 => if f = VS.RPL_SIZE_LOG2 || f.among VS.CMD_SIZE_LOG2 then r 0x0C 0x18 else true
  | 0x05 => if f = PL.TO1 || f = PL.TO2 || f = PL.IAWARE || f = PL.ILOWPOWER then v ≠ 0 else true
  | 0x52 =>
    if f = BD.WINDOW || f = BD.US_WINDOW then r 50 2000 else if f = BD.LIMIT then r 1 256 else if f = BD.MAX_FRAG then r 1 64 else true
  | 0x24 => if f = PMON.DAY_OFFSET then r 0 86399 else true
  | 0x30 =>
    if f = PS.DEPTH then r 64 256 && v % 16 = 0 else if f = PS.FIRST_UP || f = PS.FIRST_DN then v ≠ 0 else true
  | 0x10 => if f = LN.RETIRE_FOM then r 1 254 else if f = LN.STEP_FOM then v ≠ 0 else true
  | 0x11 =>
    if f = MAC.MIN_FRAME then r 64 256 else if f = MAC.MAX_FRAME then r 1518 9600 else if f = MAC.TX_QLIMIT then r 1 16384 else true
  | 0x60 =>
    if f = CLK.STEP_THRESH then r 1 1000000000 else if f = CLK.SETTLE then r 1 1024 else if f = CLK.MAX_RATE then r 1 1000 else true
  | 0x62 => if f = PPS.WIDTH then r 1 500000 else true
  | 0x80 => if f = WK.IDLE then r 1 60000 else true
  | 0x81 => if f = RST.WDOG_MS then r 100 60000 else true
  | 0x71 => if f = SEN.WARN_PCT then v = 0 || r 10 99 else true
  | 0x74 => if f = UART.BAUD then r 9600 3000000 else true
  | _ => true

/-- Whether the present state lets a field take a value: ring places while the ring is disabled (R56), CLAPPER out of recovery (R400), MODEL
in FREE (R391). -/
def State.accepts (s : State) (e : Nat) (f : Fld) : Bool :=
  match kind e with
  | 0x91 =>
    if f = VS.RPL_BASE_LO || f = VS.RPL_BASE_HI || f = VS.RPL_SIZE_LOG2 then !s.on e VS.RPL_ENABLE
    else if f.among VS.CMD_BASE_LO then !s.on e (VS.CMD_ENABLE.idx (f.place VS.CMD_BASE_LO))
    else if f.among VS.CMD_BASE_HI then !s.on e (VS.CMD_ENABLE.idx (f.place VS.CMD_BASE_HI))
    else if f.among VS.CMD_SIZE_LOG2 then !s.on e (VS.CMD_ENABLE.idx (f.place VS.CMD_SIZE_LOG2))
    else true
  | 0x61 => !(f = STQ.CLAPPER && s.on engTake TK.RECOVERY)
  | 0x60 => !(f = CLK.MODEL && s.clk.state ≠ 0)
  | _ => true

/-! ### Writes (R9) -/

/-- A field written by its access type (R9). -/
def State.fieldStore (s : State) (e : Nat) (f : Fld) (v : Nat) : State :=
  match f.acc with
  | .ro | .rc => s
  | .rw | .wo => if inRange e f v && s.accepts e f then s.wf e f v else s
  | .w1c => s.wf e f (s.rf e f - (s.rf e f &&& v))
  | .w1s => s.wf e f (s.rf e f ||| v)

/-- MODEL changes: part time goes on without a break (R390). -/
def State.setModel (s : State) (m : Nat) : State :=
  if s.clk.state ≠ 0 || s.rf engClk CLK.MODEL = m then s
  else
    let p := s.partTime
    let s := s.wf engClk CLK.MODEL m
    match s.clk.carried with
    | some _ => s
    | none =>
      if m = 1 then { s with clk := { s.clk with part := p } }
      else { s with clk := { s.clk with offset := (p : Int) - s.clk.count, base := s.clk.count } }

/-- MAC_CFG1 written (R382): XON at or above XOFF is not taken. -/
def State.writePfc (s : State) (e v : Nat) : State :=
  if bits v 22 16 ≥ bits v 14 8 then s
  else (((s.wf e MAC.PFC_EN (bits v 7 0)).wf e MAC.XOFF (bits v 14 8)).wf e MAC.XON (bits v 22 16)).pfcWatch (laneOf (e - 0x40))

/-- The fields of PMD_CFG that R89 lets change only while the PMD is OFF. -/
def pmdFixed : List Fld := [PMD.MODE, PMD.US_RATES, PMD.PBEN_POL, PMD.PSD_POL]

/-- Whether a value of PMD_CFG changes nothing but TX_EN, which may be written in any engine state (R89). -/
def State.onlyTxEn (s : State) (e v : Nat) : Bool := pmdFixed.all fun f => s.rf e f == bits v f.hi f.lo

/-- A value of PMD_CFG that no state takes: a reserved MODE, or no upstream rate with MODE 0x0 (R89). -/
def pmdBad (v : Nat) : Bool := 2 ≤ bits v 1 0 || bits v 1 0 = 0 && bits v 6 4 = 0

/-- Whether the present state refuses a value of PMD_CFG (R87, R89). -/
def State.pmdRefuses (s : State) (e v : Nat) : Bool :=
  !s.onlyTxEn e v && s.engState e ≠ 0 ||
    bits v 1 0 = 1 && ((List.range 4).any fun ch => engPmd ch != e && s.rf (engPmd ch) PMD.MODE = 1) ||
    bits v 1 0 = 1 && s.pon.groups.any fun g => (g.2.member (engDomain e - 4)).isSome

/-- PMD_CFG and the PMD's events written (R88, R89, R126, R128). -/
def State.writePmd (s : State) (e o v : Nat) (store : State → State) : State :=
  let ch := engDomain e - 4
  if o = 0x100 then
    let t := s.writeTxEn ch (bitOf v 8)
    s.pins (pmdFixed.foldl (fun t f => t.wf e f (bits v f.hi f.lo)) t)
  else
    let t := store s
    let gone := bit (s.on e PMD.ROGUE && !t.on e PMD.ROGUE) * 4 + bit (s.on e PMD.TX_FAULT && !t.on e PMD.TX_FAULT) * 8
    if gone = 0 then t else t.alarmCue ch gone

/-- The command engine's registers written (R55, R56, R61, R256, R286). -/
def State.writeVs (s : State) (o v : Nat) (store : State → State) : State :=
  let f := VS.CMD_ENABLE
  if o = VS.RPL_ENABLE.off then
    let on := bitOf v 8
    let sized := s.fieldStore engCmd VS.RPL_SIZE_LOG2 (bits v 4 0)
    (if s.on engCmd VS.RPL_ENABLE = on then sized else sized.writeRplEnable on).writeCueEn (bitOf v 9)
  else if f.inWord o then
    let p := (o - f.off) / f.stride
    let sized := s.fieldStore engCmd (VS.CMD_SIZE_LOG2.idx p) (bits v 4 0)
    if s.on engCmd (f.idx p) = bitOf v 8 then sized else sized.writeCmdEnable p (bitOf v 8)
  else if VS.CMD_TAIL.inWord o then s.writeTail ((o - VS.CMD_TAIL.off) / 4) v
  else if o = VS.RPL_HEAD.off then s.writeRplHead v
  else if VS.KE_DATA.inWord o then s.writeKeData ((o - VS.KE_DATA.off) / 4) v
  else if o = VS.CLEAR.off then (if bitOf v 0 then s.clearEntry else s)
  else store s

/-- A word written, field by field; words whose write has an effect of its own have it. ENG_CTRL is not written here. -/
def State.writeWord (s : State) (e o v : Nat) : State :=
  let store (s : State) : State := (wordFlds e o).foldl (fun s f => s.fieldStore e f (bits v f.hi f.lo)) s
  if o < 0x100 then (if o = 0x0C then store s else s)
  else
    match kind e with
    | 0x01 => s.writePmd e o v store
    | 0x10 => if o = LN.RETIRE_FOM.off && (s.rf e LN.TREND ≠ 0 || s.rf e HDR.WEAR ≠ 0) then (store s).wearNow (laneOf e) else store s
    | 0x11 => if o = MAC.XON.off then s.writePfc e v else store s
    | 0x40 => if o = CX.BIND.off then s.writeBind (engNo e) (v % 256) else store s
    | 0x60 => if o = CLK.MODEL.off then (s.setModel (v % 2)).fieldStore e CLK.SEC_CUE (bits v 1 1) else store s
    | 0x62 =>
      let s := store s
      if s.on e PPS.OUT_EN then s else s.setPps false
    | 0x83 => if o = LOG.CURSOR.off then s.setCursor v else store s
    | 0x91 => s.writeVs o v store
    | _ => store s

/-- Whether a locator's words are implemented (R18). -/
def implemented (e o : Nat) : Bool := o % 4 = 0 && present e && !(wordFlds e o).isEmpty

/-! ### Register rows -/

/-- Whether an access reaches an engine now: present, its domain awake, no soft reset under way (R25, R29). -/
def State.reaches (s : State) (e : Nat) : Bool :=
  present e && bitOf (s.rf engWake WK.AWAKE) (engDomain e) && !s.on e HDR.SRST

/-- Whether a write of a word beyond the header is taken in the engine's state (R23, R29). -/
def State.writable (s : State) (e : Nat) : Bool :=
  s.reaches e && !s.spareLocked e && !isSpareWin e && (s.engState e = 0 || s.engState e = 2)

/-- REGISTER_WRITE (R9): one word of a register window; ENG_CTRL has rows of its own. -/
def execRegisterWrite (loc v : Word) (s : State) : Host.Outcome State Fault Refusal :=
  let e := locEng loc.toNat
  let o := locOff loc.toNat
  if o % 4 ≠ 0 then .next s
  else if o < 0x100 then .next (if s.reaches e && !s.spareLocked e && s.engState e ≠ 5 then s.writeWord e o v.toNat else s)
  else if kind e = 0x01 && o = 0x100 then
    .next (if s.reaches e && s.engState e ≠ 5 && !pmdBad v.toNat && !s.pmdRefuses e v.toNat then s.writeWord e o v.toNat else s)
  else .next (if s.writable e then s.writeWord e o v.toNat else s)

/-- RC_REGISTER_READ (R10): one word of a register window is read. -/
def execRcRegisterRead (loc : Word) (s : State) : Host.Outcome State Fault Refusal :=
  let e := locEng loc.toNat
  if s.reaches e && locOff loc.toNat % 4 = 0 then .next (s.readWord e (locOff loc.toNat)).2 else .next s

/-- SFC_LO_READ (R126). -/
def execSfcLoRead (ch : Fin 4) (s : State) : Host.Outcome State Fault Refusal :=
  .next (if s.reaches (engFramer ch.val) then s.sfcLatch ch.val else s)

/-- CX_BLOCKS_LO_READ (R250). -/
def execCxBlocksLoRead (unit : Fin 10) (s : State) : Host.Outcome State Fault Refusal :=
  let e := engCipher unit.val
  .next (if s.reaches e then (s.readWord e CX.CX_BLOCKS_LO.off).2 else s)

/-- NOW_SHORT_READ (R404). -/
def execNowShortRead (s : State) : Host.Outcome State Fault Refusal := .next (if s.reaches engClk then s.nowLatch else s)

/-- COUNT_LO_READ (R404). -/
def execCountLoRead (s : State) : Host.Outcome State Fault Refusal := .next (if s.reaches engClk then s.countLatch else s)

/-- MAC_CNT_LO_READ (R383). -/
def execMacCntLoRead (lane : Fin 68) (reg : Fin 32) (s : State) : Host.Outcome State Fault Refusal :=
  let e := engMac lane.val
  .next (if s.reaches e then (s.readWord e (MAC.CNT_LO.idx reg.val).off).2 else s)

end Sys2Proof.Machine
end

