-- ==== Sys2Proof/Machine/Object.lean ====
section
/-! DEFINITION. The object access commands (R18, R23, R29, R31, R75, R492). -/
namespace Sys2Proof.Machine

/-! ### OBJ_READ -/

/-- `n` words read in ascending order (R75). -/
def State.readBlock (s : State) (e o : Nat) : Nat → List Byte × State
  | 0 => ([], s)
  | n + 1 =>
    let (v, s1) := s.readWord e o
    let (vs, s2) := State.readBlock s1 e (o + 4) n
    (le 4 v ++ vs, s2)

/-- Whether OBJ_READ's locator names a domain that recovery state has not released (R429). -/
def State.unreleased (s : State) (e : Nat) : Bool :=
  s.on engCmd VS.RECOVERY && present e && !bitOf (s.rf engRst RST.RELEASED) (engDomain e)

def objReadCmd : Cmd where
  op := 0x0100
  len := fun n => n = 4
  target := fun r _ => need (locOff r.target.toNat % 4 = 0) St.badLocator
  params := fun _ r _ =>
    let n := fld r.payload 0 2
    let o := locOff r.target.toNat
    checks
      [param (1 ≤ n && n ≤ 1024) 0, resv r.payload 2 2, need (o + 4 * n ≤ 2 ^ 20) St.badLocator ((2 ^ 20 - o) / 4)]
  recovery := true
  domains := fun r _ => if present r.eng && !r.readsState 0x0100 then [engDomain r.eng] else []
  act := fun _ r s =>
    if s.unreleased r.eng then .say s St.notReady
    else
      let (bs, s) := s.readBlock r.eng (locOff r.target.toNat) (fld r.payload 0 2)
      { st := s, payload := bs }

/-- OBJ_READ (R75). -/
def execObjRead (r : Req) (s : State) : Host.Outcome State Fault Refusal := .next (runCmd objReadCmd r s)

/-! ### Block writes -/

/-- The words of a block: offset and value. -/
abbrev Words := List (Nat × Nat)

/-- The value of ENG_CTRL in a block. -/
def Words.ctrl (ws : Words) : Option Nat := (ws.find? fun w => w.1 = 0x08).map (·.2)

/-- Payload offset of the value of the first word that `p` picks, refused BAD_PARAM. -/
def Words.refuse (ws : Words) (p : Nat → Nat → Bool) : Chk := (ws.zipIdx.find? fun x => p x.1.1 x.1.2).map fun x => (St.badParam, 4 * x.2)

/-- Whether a word is PMD_CFG. -/
def isPmdCfg (e o : Nat) : Bool := kind e = 0x01 && o = 0x100

/-- Index of the first of `n` words from `o` on that cannot be written (R18, R23). -/
def State.wordsBad (s : State) (e o n : Nat) : Chk :=
  ((List.range n).find? fun i => s.spareLocked e || 2 ^ 20 ≤ o + 4 * i || !implemented e (o + 4 * i)).map fun i => (St.badLocator, i)

/-- Words beyond the header that the engine's state must allow: all but a PMD_CFG of which only TX_EN changes (R29, R89). -/
def State.beyond (s : State) (e : Nat) (ws : Words) : Bool :=
  ws.any fun w => 0x100 ≤ w.1 && !(isPmdCfg e w.1 && s.onlyTxEn e w.2)

/-- The checks of a block against the present state (R75, R87, R89). -/
def State.blockChecks (s : State) (e : Nat) (ws : Words) : Chk :=
  let st := s.engState e
  let ctrlOk : Bool := match ws.ctrl with
    | some v => bitOf v 0 && bitOf v 1 == s.on e HDR.ENABLE
    | none => true
  checks
    [ws.refuse fun o v => o = 0x08 && bitOf v 1 && s.idleMember e,
     ws.refuse fun o v => isPmdCfg e o && (pmdBad v || s.pmdRefuses e v),
     need (!(st = 5 || st = 4 && (s.beyond e ws || !ctrlOk))) St.unitFailed,
     need (!((st = 1 || st = 3) && s.beyond e ws)) St.busy 2]

/-- Words written in ascending order. -/
def State.writeWords (s : State) (e : Nat) (ws : Words) : State := ws.foldl (fun s w => s.writeWord e w.1 w.2) s

/-- A block written (R75): a soft reset comes before the later words, which wait for its end; a change of ENABLE comes last. -/
def State.blockWrite (s : State) (e : Nat) (ws : Words) (payload : List Byte) : Act :=
  match s.blockChecks e ws with
  | some f => .fail s f
  | none =>
    match ws.ctrl with
    | none => { st := s.writeWords e ws, payload := payload }
    | some v =>
      if bitOf v 0 then { st := s.softReset e, wait := some (.rest e false) }
      else
        let (st, s) := (s.writeWords e ws).setEnable e (bitOf v 1)
        { st := s, status := st, payload := payload }

/-- What a block does once its soft reset is over and the engine rests: the later words, then a change of ENABLE. -/
def State.blockRest (s : State) (e : Nat) (ws : Words) (payload : List Byte) : Act :=
  if s.engState e = 4 || s.engState e = 5 then .say s St.unitFailed
  else
    let s := s.writeWords e (ws.filter fun w => 0x08 < w.1)
    match ws.ctrl with
    | some v =>
      if bitOf v 1 = s.on e HDR.ENABLE then { st := s, payload := payload }
      else
        let (st, s) := s.setEnable e (bitOf v 1)
        { st := s, status := st, payload := payload }
    | none => { st := s, payload := payload }

/-! ### OBJ_WRITE -/

/-- The words of OBJ_WRITE's payload. -/
def objWords (r : Req) : Words :=
  (List.range (r.payload.length / 4)).map fun i => (locOff r.target.toNat + 4 * i, fld r.payload (4 * i) 4)

/-- Whether a word is one of the key-entry buffer (R256). -/
def isKeyEntry (e o : Nat) : Bool := e = engCmd && VS.KE_DATA.inWord o

/-- Whether ENG_CTRL asks for what R31 keeps for an officer. -/
def needsOfficer (e : Nat) (srst off : Bool) : Bool := guarded e && (srst || off)

def objWriteCmd : Cmd where
  op := 0x0101
  len := fun n => n % 4 = 0 && 4 ≤ n
  stage := true
  target := fun r s => s.wordsBad r.eng (locOff r.target.toNat) (r.payload.length / 4)
  params := fun role r _ =>
    let ws := objWords r
    let e := r.eng
    let v := ws.ctrl.getD 2
    checks
      [need (role = .officer || !needsOfficer e (bitOf v 0) (!bitOf v 1)) St.roleDenied,
       ws.refuse fun o v => o = 0x08 && !bitOf v 1 && engDomain e = 0,
       ws.refuse fun o v => isPmdCfg e o && pmdBad v,
       ws.refuse fun o _ => r.inTxn && isKeyEntry e o]
  domains := fun r _ => [engDomain r.eng]
  act := fun _ r s => s.blockWrite r.eng (objWords r) []

/-- OBJ_WRITE (R75). -/
def execObjWrite (r : Req) (s : State) : Host.Outcome State Fault Refusal := .next (runCmd objWriteCmd r s)

/-! ### OBJ_MODIFY -/

/-- Bits of a word in W1C and W1S fields. -/
def wordOnes (e o : Nat) : Nat :=
  ((wordFlds e o).map fun f => if f.acc = .w1c || f.acc = .w1s then (2 ^ f.width - 1) * 2 ^ f.lo else 0).sum

/-- The bits of `a` that `b` does not have. -/
def without (a b : Nat) : Nat := a - (a &&& b)

/-- The word that OBJ_MODIFY writes: W1C and W1S bits outside MASK are 0. -/
def modified (ones old mask value : Nat) : Nat := without (without old mask ||| (value &&& mask)) (without ones mask)

/-- The word of OBJ_MODIFY: the old value, and the new one. -/
def State.modifyWord (s : State) (r : Req) : Nat × Nat :=
  let o := locOff r.target.toNat
  let old := s.peek r.eng o
  (old, modified (wordOnes r.eng o) old (fld r.payload 0 4) (fld r.payload 4 4))

/-- The block that OBJ_MODIFY writes, and its reply. -/
def State.modifyBlock (s : State) (r : Req) : Words × List Byte :=
  let (old, new) := s.modifyWord r
  ([(locOff r.target.toNat, new)], le 4 old ++ le 4 new)

def objModifyCmd : Cmd where
  op := 0x0102
  len := fun n => n = 8
  stage := true
  target := fun r s => s.wordsBad r.eng (locOff r.target.toNat) 1
  params := fun role r _ =>
    let e := r.eng
    let mask := fld r.payload 0 4
    let value := fld r.payload 4 4
    let ctrl := decide (locOff r.target.toNat = 0x08)
    let srst := ctrl && bitOf mask 0 && bitOf value 0
    let off := ctrl && bitOf mask 1 && !bitOf value 1
    checks [need (role = .officer || !needsOfficer e srst off) St.roleDenied, param (!(off && engDomain e = 0)) 4]
  domains := fun r _ => [engDomain r.eng]
  act := fun _ r s =>
    let (ws, reply) := s.modifyBlock r
    let a := s.blockWrite r.eng ws reply
    if a.status = St.badParam then { a with detail := 4 } else a

/-- OBJ_MODIFY (R75). -/
def execObjModify (r : Req) (s : State) : Host.Outcome State Fault Refusal := .next (runCmd objModifyCmd r s)

/-! ### Blocks that wait for a soft reset -/

/-- What a waiting block does when its engine rests. -/
def State.restAct (s : State) (t : Taken) : Act :=
  if t.op = 0x0102 then
    let (ws, reply) := s.modifyBlock t.req
    s.blockRest t.req.eng ws reply
  else s.blockRest t.req.eng (objWords t.req) []

/-- A waiting block goes on, where its engine rests. A staged one has been answered. -/
def State.settleRest (s : State) (w : Wait) : State :=
  match w.why with
  | .rest e staged =>
    if s.on e HDR.SRST || s.engState e = 1 || s.engState e = 3 then s
    else
      if staged then (s.restAct w.cmd).st.dropWait w else s.retry w fun s => s.restAct w.cmd
  | _ => s

/-- Every waiting block looked at. -/
def State.settleRests (s : State) : State := s.chan.waits.foldl State.settleRest s

end Sys2Proof.Machine
end

