-- ==== Sys2Proof/Machine/Unpark.lean ====
section
/-! DEFINITION. Parking, unparking and moving the anchor by command: the channel's domain wakes with the command (R123, R124, R142, R143). -/
namespace Sys2Proof.Machine

/-- A parked channel begins to unpark: its domain wakes where it sleeps, and what is to follow waits for sync (R124, R143). -/
def State.unparkWith (s : State) (ch : Nat) (how : ParkStep) : State :=
  let s := s.modCh ch fun c => { c with park := how }
  let s := if s.asleep (4 + ch) then s.wake (4 + ch) else s
  if s.rf (engFramer ch) FR.SYNC = 2 then s.syncParked ch else s

/-- CHANNEL_PARK's start (R123, R124). -/
def State.startPark (s : State) (ch : Nat) (park : Bool) : Act :=
  if (s.chn ch).park ≠ .none then .say s St.busy 2
  else if (s.chn ch).parked = park then .say s St.noChange
  else
    match (s.anchorOf ch).map fun v => (s.vt v).state with
    | some 5 =>
      if park then
        let s := (s.modCh ch fun c => { c with park := .parkAck }).sendPark ch 1
        let s := s.abandon ch fun b => b.committed
        { st := s.noteAllTaking, wait := some (.park ch) }
      else
        { st := s.unparkWith ch .unparkWake, wait := some (.park ch) }
    | _ => .say s St.notReady

def channelParkCmd : Cmd where
  op := 0x0205
  len := fun n => n = 4
  params := fun _ r s =>
    let ch := fld r.payload 0 1
    checks
      [param (ch < 4) 0, param (fld r.payload 1 1 < 2) 1, resv r.payload 2 2,
       param ((s.anchorOf ch).isSome && !s.isAnchor ch) 0]
  act := fun _ r s => s.startPark (fld r.payload 0 1) (fld r.payload 1 1 = 1)

/-! ### The anchor -/

/-- ANCHOR_SET (R143). Where a CHANNEL_PARK is unparking the same channel, both end when the channel is in sync (log entry 127). -/
def anchorSetCmd : Cmd where
  op := 0x0221
  len := fun n => n = 4
  domains := fun _ _ => [13]
  params := fun _ r s =>
    let p := r.payload
    let ch := fld p 1 1
    checks
      [param (s.pon.groups.has (fld p 0 1)) 0,
       param (((s.pon.groups.look (fld p 0 1)).bind fun g => g.member ch).isSome && !s.fenced ch) 1, resv p 2 2]
  act := fun _ r s =>
    let gi := fld r.payload 0 1
    let ch := fld r.payload 1 1
    match s.pon.groups.look gi with
    | none => .say s St.badParam
    | some g =>
      if g.anchor = ch then .say s St.noChange
      else
        match (g.member ch).map fun v => (s.vt v).state with
        | some 5 => .say (s.setAnchor gi ch 1) St.ok
        | some 8 =>
          if s.rf (engFramer ch) FR.SYNC = 2 && !s.asleep (4 + ch) then .say ((s.unparkBoth ch).setAnchor gi ch 1) St.ok
          else { st := s.unparkWith ch .anchorWake, wait := some (.anchor gi) }
        | _ => .say s St.notReady

/-- ANCHOR_SET_TIMEOUT: the channel has not regained sync within 10 ms and is parked again. -/
def execAnchorSetTimeout (ch : Fin 4) (s : State) : Host.Outcome State Fault Refusal :=
  let c := ch.val
  if (s.chn c).park = .anchorWake then
    .next ((s.parkAgain c).answer (fun w => match w with
      | .anchor g => ((s.pon.groups.look g).bind fun g => g.member c).isSome
      | w => w = .park c) St.timeout)
  else .next s

end Sys2Proof.Machine
end

