-- ==== Sys2Proof/Machine/Txn.lean ====
section
/-! DEFINITION. Transactions (R76 to R82, R177, R307, R495), the rows at which a waiting commit or splice goes on, and the commands that
go on when what held them is over. -/
namespace Sys2Proof.Machine

/-! ### The commands by opcode -/

/-- The commands of the hardware engine and the system commands whose meaning needs no outcome of their own. -/
def cmdOf0 (op : Nat) : Option Cmd :=
  match op with
  | 0x0001 => some identifyCmd
  | 0x0002 => some echoCmd
  | 0x0003 => some cueRouteCmd
  | 0x0010 => some engineSetCmd
  | 0x0022 => some sessionCloseCmd
  | 0x0023 => some roleAuthSetCmd
  | 0x0100 => some objReadCmd
  | 0x0101 => some objWriteCmd
  | 0x0102 => some objModifyCmd
  | _ => none

/-- The PON, lane and TDM commands. -/
def cmdOf1 (op : Nat) : Option Cmd :=
  match op with
  | 0x0200 => some vtConfigCmd
  | 0x0201 => some vtQueryCmd
  | 0x0202 => some omciSendCmd
  | 0x0203 => some portSetCmd
  | 0x0204 => some bondGroupSetCmd
  | 0x0205 => some channelParkCmd
  | 0x0220 => some allocBindCmd
  | 0x0221 => some anchorSetCmd
  | 0x0225 => some pairConfigCmd
  | 0x0226 => some pairRoleCmd
  | 0x0300 => some laneModeCmd
  | 0x0301 => some laneLoopCmd
  | 0x0303 => some macSnapshotCmd
  | 0x0400 => some tdmStructCmd
  | 0x0401 => some tsiConnectCmd
  | 0x0402 => some tsiSpliceCmd
  | 0x0403 => some tsiReadCmd
  | 0x0404 => some circuitSetCmd
  | 0x0405 => some circuitQueryCmd
  | 0x0406 => some pmConfigCmd
  | 0x0407 => some pmReadCmd
  | _ => none

/-- The classifier, cipher, key and scheduler commands. -/
def cmdOf2 (op : Nat) : Option Cmd :=
  match op with
  | 0x0500 => some tableConfigCmd
  | 0x0501 => some flowAddCmd
  | 0x0502 => some flowDelCmd
  | 0x0503 => some flowReadCmd
  | 0x0504 => some ruleSetCmd
  | 0x0505 => some tableSpliceCmd
  | 0x0506 => some progLoadCmd
  | 0x0507 => some meterSetCmd
  | 0x0508 => some counterReadCmd
  | 0x0509 => some excReadCmd
  | 0x0600 => some ivFixedSetCmd
  | 0x0601 => some saFormatCmd
  | 0x0604 => some saStatsCmd
  | 0x0620 => some keyCommitCmd
  | 0x0622 => some keyEraseCmd
  | 0x0624 => some saStageCmd
  | 0x0625 => some saRollCmd
  | 0x0626 => some saDeleteCmd
  | 0x0627 => some saQueryCmd
  | 0x0629 => some rngRestartCmd
  | 0x0700 => some queueSetCmd
  | 0x0701 => some nodeSetCmd
  | 0x0702 => some shaperSetCmd
  | 0x0703 => some policerSetCmd
  | 0x0704 => some queueStatsCmd
  | 0x0705 => some nodeQueryCmd
  | _ => none

/-- The time, power and management commands. -/
def cmdOf3 (op : Nat) : Option Cmd :=
  match op with
  | 0x0800 => some timeNowCmd
  | 0x0801 => some timeSourceCmd
  | 0x0802 => some timeSampleCmd
  | 0x0803 => some timeAcquireCmd
  | 0x0804 => some ptpSendCmd
  | 0x0805 => some stampReadCmd
  | 0x0902 => some bootStatusCmd
  | 0x0A03 => some reelStatusCmd
  | 0x0A04 => some logClearCmd
  | 0x0A06 => some spareInventoryCmd
  | _ => none

/-- The command of an opcode, where its meaning needs no outcome of its own. -/
def cmdOf (op : Nat) : Option Cmd :=
  if op < 0x0200 then cmdOf0 op else if op < 0x0500 then cmdOf1 op else if op < 0x0800 then cmdOf2 op else cmdOf3 op

/-! ### A staged command's effect -/

/-- PARENT_MAP in a commit: which bursts have started is a free value. -/
def stagedParentMap : Cmd :=
  { parentMapCmd 0 with
    act := fun role r s =>
      let (v, s) := s.draw 4
      (parentMapCmd (BitVec.ofNat 4 v)).act role r s }

/-- The command of a staged opcode, as a commit carries it out; `rel` says how DRBG output reaches it (R273). Changes of tables are part of the commit's
own job (R333). -/
def stagedCmd (rel : Release) (op : Nat) : Option Cmd :=
  match op with
  | 0x0222 => some stagedParentMap
  | 0x0500 => some { tableConfigCmd with act := fun _ r s => tableConfig r.payload s }
  | 0x0501 => some { flowAddCmd with act := fun _ r s => flowAdd true r.payload s }
  | 0x0502 => some { flowDelCmd with act := fun _ r s => flowDel r.payload s }
  | 0x0504 => some { ruleSetCmd with act := fun _ r s => ruleSet r.payload s }
  | 0x0623 => some (saCreateCmd rel)
  | _ => cmdOf op

/-- Whether a staged command removes or disables something that other units may refer to (R79). What stands on the pages of TDM and of the
ternary tables goes with their splice. -/
def Taken.removes (t : Taken) : Bool :=
  let p := t.req.payload
  let ctrl := locOff t.req.target.toNat ≤ 0x08
  match t.op with
  | 0x0101 => ((objWords t.req).ctrl.map fun v => !bitOf v 1).getD false
  | 0x0102 => ctrl && locOff t.req.target.toNat = 0x08 && bitOf (fld p 0 4) 1 && !bitOf (fld p 4 4) 1
  | 0x0203 => fld p 0 1 = 0
  | 0x0204 => fld p 4 4 = 0xFFFFFFFF
  | 0x0220 => fld p 6 1 = 0
  | 0x0225 => fld p 0 1 = 0
  | 0x0300 => fld p 1 1 = 0
  | 0x0500 => fld p 1 1 = 0
  | 0x0502 => true
  | 0x0626 => true
  | 0x0700 => fld p 2 1 = 0
  | 0x0701 => fld p 1 1 = 0
  | _ => false

/-- What a staged command names, as a class and bytes: a later command on the same thing keeps its place behind a removal. -/
def Taken.object (t : Taken) : Nat × List Byte :=
  let p := t.req.payload
  match t.op with
  | 0x0101 | 0x0102 => (0x0101, le 4 (locOf t.req.eng))
  | 0x0203 => (0x0203, part p 2 2)
  | 0x0204 => (0x0204, part p 0 4)
  | 0x0220 => (0x0220, part p 0 3)
  | 0x0225 => (0x0225, [])
  | 0x0300 => (0x0300, part p 0 1)
  | 0x0500 => (0x0500, part p 0 1)
  | 0x0501 => (0x0501, byte (fld p 4 1 / 2 % 8) :: part p 12 24)
  | 0x0502 => (0x0501, part p 0 1 ++ part p 4 24)
  | 0x0601 | 0x0623 | 0x0624 | 0x0626 => (0x0623, part p 0 2)
  | 0x0700 => (0x0700, part p 0 2)
  | 0x0701 => (0x0701, part p 0 1 ++ part p 2 2)
  | _ => (t.op, p)

/-- One thing that a commit does: a staged command, by its place; the splice of the TSI; the splices of the tables. -/
inductive Deed where
  | staged (i : Nat) (t : Taken)
  | tsi (i : Nat)
  | tables (i : Nat) (ts : List Nat)

/-- The units in switch order (R79). -/
def unitOrder : List Nat := [12, 3, 13, 10, 4, 5, 6, 7, 8, 9, 14, 11, 1, 2, 0]

/-- The staged commands of a unit, with their places. -/
def Txn.ofUnit (x : Txn) (u : Nat) : List (Nat × Taken) :=
  (x.staged.zipIdx.filter fun y => y.1.unit == u).map fun y => (y.2, y.1)

/-- Whether a unit's command is applied in the reverse pass (R79): a removal, of what no later command of the unit names again. TDM's removals are
on the page that its splice swaps in. -/
def Txn.late? (x : Txn) (u : Nat) (y : Nat × Taken) : Bool :=
  !x.inOrder && u ≠ 10 && y.2.removes && !(x.ofUnit u).any fun z => decide (y.1 < z.1) && z.2.object == y.2.object

/-- A unit's removals, which the reverse pass applies. -/
def Txn.last (x : Txn) (u : Nat) : List (Nat × Taken) := (x.ofUnit u).filter fun y => x.late? u y

/-- Place of a unit's last command. -/
def lastPlace (ys : List (Nat × Taken)) : Nat := (ys.getLast?.map (·.1)).getD 0

/-- What the switch of a unit does, but for its removals (R79, R177, R307). -/
def Txn.forward (x : Txn) (u : Nat) : List Deed :=
  let ys := (x.ofUnit u).filter fun y => !x.late? u y
  let deeds (zs : List (Nat × Taken)) : List Deed := zs.map fun y => .staged y.1 y.2
  if u = 10 then deeds ys ++ (if ys.isEmpty then [] else [.tsi (lastPlace ys)])
  else if u = 11 then
    let early (y : Nat × Taken) : Bool := y.2.op = 0x0506 || y.2.op = 0x0507
    let rules := ys.filter fun y => y.2.op = 0x0504
    let ts := (List.range 7).filter fun t => rules.any fun y => fld y.2.req.payload 0 1 = t
    deeds (ys.filter early) ++ deeds (ys.filter fun y => !early y) ++ (if ts.isEmpty then [] else [.tables (lastPlace rules) ts])
  else deeds ys

/-- What the units ahead of TDM in the order do: they need not wait for its boundary (R79). -/
def Txn.ahead (x : Txn) : List Deed := (unitOrder.takeWhile (· ≠ 10)).flatMap fun u => x.forward u

/-- What TDM and the units that follow it do, and then the removals in the reverse of the order (R79). -/
def Txn.behind (x : Txn) : List Deed :=
  ((unitOrder.dropWhile (· ≠ 10)).flatMap fun u => x.forward u) ++
    unitOrder.reverse.flatMap fun u => (x.last u).map fun y => .staged y.1 y.2

/-- All that a commit does, in order. -/
def Txn.plan (x : Txn) : List Deed := x.ahead ++ x.behind

/-- The units that a transaction names, as a mask. -/
def Txn.mask (x : Txn) : Nat := (unitOrder.map fun u => if (x.ofUnit u).isEmpty then 0 else 2 ^ u).sum

/-- A cue that waits for the commit's reply: the place of the command that caused it, code, payload. -/
abbrev LateCue := Nat × Nat × List Byte

/-- How carrying out a plan ends: done, with the cues it causes; stopped by a staged command, with that command's own cues and the state in which it
was refused; a staged command waits. -/
inductive PlanEnd where
  | done (s : State) (cues : List LateCue)
  | stopped (i : Nat) (t : Taken) (status detail : Nat) (own : List LateCue) (s : State)
  | waits (i : Nat) (why : Why)

/-- The cues gathered since the gathering began, as caused by the command at `i`. -/
def State.gathered (s : State) (i : Nat) : List LateCue := (s.chan.deferred.getD []).map fun c => (i, c.1, c.2)

/-- Cues are gathered from here on, or no longer. -/
def State.gather (s : State) : State := { s with chan := { s.chan with deferred := some [] } }
def State.ungather (s : State) : State := { s with chan := { s.chan with deferred := none } }

/-- DRBG output that a staged command takes. -/
def Taken.rngBytes (t : Taken) : Nat := if t.op = 0x0623 then saCreateBytes t.req.payload else 0

/-- DRBG output that a commit takes in all. -/
def Txn.rngBytes (x : Txn) : Nat := (x.staged.map Taken.rngBytes).sum

/-- The part of a commit's output that is the staged command's at place `i`. -/
def Txn.release (x : Txn) (rel : Release) (i : Nat) : Release :=
  match rel with
  | .given out => .given (part out ((x.staged.take i).map Taken.rngBytes).sum ((x.staged[i]?.map Taken.rngBytes).getD 0))
  | r => r

/-- One deed of a transaction. -/
def Deed.run (x : Txn) (rel : Release) (d : Deed) (s : State) : PlanEnd :=
  let s := s.gather
  match d with
  | .tsi i =>
    let s := s.swapPages 1 id
    .done s (s.gathered i)
  | .tables i ts =>
    let s := (ts.filter fun t => (s.cls.table t).kind = 2).foldl (fun s t => s.spliceTable t true) s
    .done s (s.gathered i)
  | .staged i t =>
    match stagedCmd (x.release rel i) t.op with
    | none => .done s []
    | some c =>
      let a := c.run t.role t.req s
      match a.wait with
      | some (.rest e _) =>
        .done { a.st with chan := { a.st.chan with waits := a.st.chan.waits ++ [{ why := .rest e true, cmd := t }] } } (a.st.gathered i)
      | some y => .waits i y
      | none =>
        if a.status = St.ok || a.status = St.deferred || a.status = St.noChange then .done a.st (a.st.gathered i)
        else .stopped i t a.status a.detail (a.st.gathered i) a.st

/-- A plan carried out. -/
def runPlan (x : Txn) (rel : Release) : List Deed → State → List LateCue → PlanEnd
  | [], s, cues => .done s.ungather cues
  | d :: ds, s, cues =>
    match d.run x rel s with
    | .done s more => runPlan x rel ds s (cues ++ more)
    | e => e

/-- Deeds that have been prepared, carried out; one that its unit can no longer do is passed over. -/
def switchOn (x : Txn) (rel : Release) : List Deed → State → List LateCue → State × List LateCue
  | [], s, cues => (s.ungather, cues)
  | d :: ds, s, cues =>
    match d.run x rel s with
    | .done s more => switchOn x rel ds s (cues ++ more)
    | _ => switchOn x rel ds s cues

/-- Cues raised in staging order. -/
def State.raiseLate (s : State) (n : Nat) (cues : List LateCue) : State :=
  ((List.range n).flatMap fun i => cues.filter fun c => c.1 == i).foldl (fun s c => s.cue c.2.1 c.2.2) s

/-- A transaction is gone, its table updates' job completed, and no commit is in progress. -/
def State.endTxn (s : State) (n : Nat) : State :=
  { s with chan := { s.chan with txns := s.chan.txns.del n, committing := none } }.endCtx ((s.chan.txns.look n).bind (·.job))

/-- Whether a transaction updates tables. -/
def Txn.updates (x : Txn) : Bool := x.staged.any fun t => [0x0500, 0x0501, 0x0502, 0x0504].contains t.op

/-- A commit takes one context for all its table updates (R333, log entry 162); false when there is none. -/
def State.txnJob (s : State) (n : Nat) (x : Txn) : Bool × Txn × State :=
  if !x.updates || x.job.isSome then (true, x, s)
  else
    match s.runJob tableAsk with
    | (none, s) => (false, x, s)
    | (some c, s) =>
      let x := { x with job := some c }
      (true, x, { s with chan := { s.chan with txns := s.chan.txns.put n x } })

/-- A commit that is not begun: its transaction is open for staging again. -/
def State.reopen (s : State) (n : Nat) (x : Txn) : State := { s with chan := { s.chan with txns := s.chan.txns.put n { x with closing := false } } }

/-- What a refused command leaves although its unit's shadow is discarded: the counts of refusals, and when FLOW_EXHAUSTED was last raised (R263,
R303). -/
def State.keepRefusal (s refused : State) : State :=
  ((s.wf (engTable 1) FT.FT_EXHAUSTED (refused.rf (engTable 1) FT.FT_EXHAUSTED)).wf engKeys KS.KS_FULL_CNT
    (refused.rf engKeys KS.KS_FULL_CNT)).modCls fun c => { c with exhSec := refused.cls.exhSec }

/-- A transaction that failed (R81). -/
def Act.aborted (s : State) (f : TxnFail) (holds : Nat := 0) : Act := { st := s, status := St.txnAborted, payload := f.payload, holds := holds }

/-- Place of the first word of a block that `p` picks. -/
def Words.placeOf (ws : Words) (p : Nat → Nat → Bool) : Nat := ((ws.findIdx? fun w => p w.1 w.2).getD 0) * 4

/-- Offset, from TARGET, of the word at which a block write failed, checks of order 11 included (R29, R75, R81). -/
def State.stopOffset (s : State) (t : Taken) (status detail : Nat) : Nat :=
  if t.op ≠ 0x101 then 0
  else
    let e := t.req.eng
    let ws := objWords t.req
    let beyond (o v : Nat) : Bool := 0x100 ≤ o && !(isPmdCfg e o && s.onlyTxEn e v)
    if status = St.busy then ws.placeOf beyond
    else if status = St.unitFailed then
      (if s.engState e = 5 then 0
       else ws.placeOf fun o v => beyond o v || o = 0x08 && !(bitOf v 0 && bitOf v 1 == s.on e HDR.ENABLE))
    else failOffset t.op t.req status detail

/-- The failure that a stopped plan names (R81). -/
def stopFail (i : Nat) (t : Taken) (status detail : Nat) (s : State) : TxnFail :=
  { locator := t.req.target.toNat + s.stopOffset t status detail, status := status, detail := detail, index := i }

/-- A commit whose units have switched (R79): its cues follow its reply. -/
def commitDone (n : Nat) (x : Txn) (s : State) (cues : List LateCue) : Act :=
  { st := (s.endTxn n).raiseLate x.staged.length cues, payload := le 2 x.staged.length ++ zeros 2, holds := x.mask }

/-- A commit that waits holds its units. -/
def commitHold (n : Nat) (x : Txn) (s : State) (y : Why) : Act :=
  { st := { s with chan := { s.chan with committing := some x.mask, txns := s.chan.txns.put n x } }, wait := some y }

/-- A commit whose staged command at `i` waits for DRBG output (R273): output for all of them is generated at once, and the commit waits for its release. -/
def commitRng (n i : Nat) (x : Txn) (rel : Release) (s : State) : Act :=
  let held (s : State) (out : List Byte) (passed : Bool) : Act := commitHold n { x with waitAt := i } s (.rng x.rngBytes out passed)
  match rel with
  | .given out => held s out (out.length = x.rngBytes)
  | _ =>
    match s.generate x.rngBytes with
    | some (out, s) => held s out false
    | none => held s [] false

/-- A commit that is not doomed (R79): all is prepared, in staging order inside each unit, and then switched. Where it names TDM, the units ahead of TDM
switch at once. -/
def prepareTxn (n : Nat) (x : Txn) (rel : Release) (s : State) : Act :=
  let tdm := !(x.ofUnit 10).isEmpty
  if tdm && s.tdm.splice.isSome then commitHold n x s (.unit engTsi)
  else
    let x' := { x with inOrder := true }
    match runPlan x rel x'.plan s [] with
    | .waits i (.rng ..) => commitRng n i x rel s
    | .waits i y => commitHold n { x with waitAt := i } s y
    | .stopped i t status detail own sr =>
      .aborted (((s.endTxn n).keepRefusal sr).raiseLate x.staged.length own) (stopFail i t status detail s) x.mask
    | .done s' cues' =>
      let (x, s', cues') := match runPlan x rel x.plan s [] with
        | .done s'' cues'' => (x, s'', cues'')
        | _ => (x', s', cues')
      if tdm then
        let (s, cues) := switchOn x rel x.ahead s []
        commitHold n { x with late := cues } ((s.modTdm fun t => { t with splice := some (.txn n) }).wf engTsi TSI.PENDING 1) (.commitSplice n)
      else commitDone n x s' cues'

/-- A commit (R79); where it names TDM, TDM and the units behind it switch at the boundary at which `boundary` finds the commit. -/
def commitTxn (n : Nat) (boundary : Bool) (rel : Release) (s : State) : Act :=
  match s.chan.txns.look n with
  | none => .say s St.badParam 2
  | some x =>
    match x.fail with
    | some f => .aborted (s.endTxn n) f
    | none =>
      if boundary then
        let (s, cues) := switchOn x rel x.behind s x.late
        commitDone n x s cues
      else
        match s.txnJob n x with
        | (false, x, s) => .say (s.reopen n x) St.busy 3
        | (true, x, s) => prepareTxn n x rel s

/-! ### The transaction commands -/

/-- A value for a new transaction: the next in turn that none has (R82). -/
def Chan.newTxn (c : Chan) : Nat :=
  (((List.range 257).map fun i => (c.nextTxn + i - 1) % 65535 + 1).find? fun n => !c.txns.has n).getD 1

def txnBeginCmd : Cmd where
  op := 0x0110
  len := fun n => n = 0
  act := fun _ r s =>
    if s.chan.txns.length ≥ 256 then .say s St.exhausted
    else
      let n := s.chan.newTxn
      { st := { s with chan := { s.chan with txns := s.chan.txns.put n { carrier := r.carrier }, nextTxn := n % 65535 + 1 } }
        payload := le 2 n ++ zeros 2 }

/-- TXN_BEGIN (R76, R77). -/
def execTxnBegin (r : Req) (s : State) : Host.Outcome State Fault Refusal := .next (runCmd txnBeginCmd r s)

/-- TXN_COMMIT and TXN_ABORT name an open transaction of their own carrier. -/
def txnTarget (r : Req) (s : State) : Chk := checks [need (s.txnOf r).isSome St.badParam 2, need (r.target = 0) St.badLocator]

/-- Domains of the units that a request's transaction names. -/
def State.txnDomains (s : State) (r : Req) : List Nat :=
  match s.chan.txns.look r.txn.toNat with
  | some x => unitOrder.filter fun u => !(x.ofUnit u).isEmpty
  | none => []

def txnCommitCmd : Cmd where
  op := 0x0111
  len := fun n => n = 0
  target := txnTarget
  domains := fun r s => s.txnDomains r
  act := fun _ r s => if s.chan.committing.isSome then { st := s, wait := some .commitTurn } else commitTxn r.txn.toNat false .later s

def txnAbortCmd : Cmd where
  op := 0x0112
  len := fun n => n = 0
  target := txnTarget
  act := fun _ r s => .say { s with chan := { s.chan with txns := s.chan.txns.del r.txn.toNat } } St.ok

/-- The command of an opcode, transactions included. -/
def heldCmd (op : Nat) : Option Cmd :=
  match op with
  | 0x0110 => some txnBeginCmd
  | 0x0111 => some txnCommitCmd
  | 0x0112 => some txnAbortCmd
  | _ => cmdOf op

/-- Held commands go on, in the order they were taken, where nothing holds them any more. -/
def State.resume (s : State) : State :=
  (s.chan.taken.filter (·.started)).foldl
    (fun s t => match heldCmd t.op with
      | some c => runCmd c t.req s
      | none => s) s

/-- A waiting commit tried again. -/
def State.commitAgain (s : State) (w : Wait) (boundary : Bool) (rel : Release := .later) : State :=
  { s with chan := { s.chan with committing := none } }.retry w fun s => commitTxn w.cmd.req.txn.toNat boundary rel s

/-- What a commit's end lets go on: the commits behind it, one after another, and the commands that it held (R79). -/
def State.afterCommit (s : State) : State :=
  if s.chan.committing.isSome then s
  else
    let s := s.chan.waits.foldl (fun s w => if w.why = .commitTurn && s.chan.committing.isNone then s.commitAgain w false else s) s
    if s.chan.committing.isSome then s else s.resume

/-- TXN_COMMIT (R79). -/
def execTxnCommit (r : Req) (s : State) : Host.Outcome State Fault Refusal := .next ((runCmd txnCommitCmd r s).afterCommit)

/-- TXN_ABORT (R80). -/
def execTxnAbort (r : Req) (s : State) : Host.Outcome State Fault Refusal := .next (runCmd txnAbortCmd r s)

/-- TXN_EXPIRY (R82): 10 s after the transaction's TXN_BEGIN. -/
def execTxnExpiry (txn : BitVec 16) (s : State) : Host.Outcome State Fault Refusal :=
  let n := txn.toNat
  match s.chan.txns.look n with
  | some x =>
    if x.closing then .next s
    else .next ({ s with chan := { s.chan with txns := s.chan.txns.del n } }.cue 0x1004 (le 2 n ++ le 2 x.staged.length))
  | none => .next s

/-! ### What ends a wait -/

/-- A command that waited for a copy or for the DRBG tried again. -/
def State.rerun (s : State) (w : Wait) (cmd : Nat → Option Cmd) (rel : Release := .later) : State :=
  if w.cmd.op = 0x0111 then s.commitAgain w false rel
  else
    match cmd w.cmd.op with
    | some c => s.retry w fun s => c.run w.cmd.role w.cmd.req s
    | none => s

/-- Every command that waits for an engine's copy tried again, oldest first. -/
def State.rerunUnit (s : State) (e : Nat) : State :=
  ((s.chan.waits.filter fun w => w.why = .unit e).foldl (fun s w => s.rerun w cmdOf) s).afterCommit

/-- The answer of TSI_SPLICE at its boundary. -/
def State.answerSplice (s : State) : State :=
  s.answer (fun w => w = .splice) St.ok 0 (le 4 (s.rf engTsi TSI.MF_STAMP) ++ le 4 s.tdm.splicesCold)

/-- MULTIFRAME_BOUNDARY (R174, R177). `due`: the pending splice was taken at least 20 µs before. -/
def execMultiframeBoundary (due : Bool) (s : State) : Host.Outcome State Fault Refusal :=
  if !bitOf (s.rf engWake WK.AWAKE) 10 then .next s
  else
    let s := s.wf engTsi TSI.MF_STAMP s.short
    match s.tdm.splice, due with
    | some .command, true => .next (s.swapPages 0 State.answerSplice)
    | some (.txn n), true =>
      let s := (s.modTdm fun t => { t with splice := none }).wf engTsi TSI.PENDING 0
      match s.chan.waits.find? fun w => w.why = .commitSplice n with
      | some w => .next (s.commitAgain w true).afterCommit
      | none => .next s.afterCommit
    | _, _ => .next s.afterCommit

/-- TSI_COPY_COMPLETE (R174, R176). -/
def execTsiCopyComplete (s : State) : Host.Outcome State Fault Refusal :=
  if s.on engTsi TSI.COPYING then .next (s.copyDone.rerunUnit engTsi) else .next s

/-- TABLE_COPY_COMPLETE (R307), of table `table` + 1. -/
def execTableCopyComplete (table : Fin 6) (s : State) : Host.Outcome State Fault Refusal :=
  let t := table.val + 1
  if s.tableCopying t then .next ((s.tableCopied t).rerunUnit (engTable t)) else .next s

/-- The commands that DRBG output is released to, with the pair-wise consistency test's result. -/
def rngCmd (pct : Bool) (rel : Release) (op : Nat) : Option Cmd :=
  match op with
  | 0x0020 => some (sessionOpenCmd pct rel)
  | 0x0621 => some (keyGenerateCmd rel)
  | 0x0623 => some (saCreateCmd rel)
  | 0x0628 => some (rngReadCmd rel)
  | _ => none

/-- A request gets its output, where the window of that has passed. -/
def State.handOut (s : State) (pct : Bool) (w : Wait) : State :=
  match w.why with
  | .rng _ out true => s.rerun w (rngCmd pct (.given out)) (.given out)
  | _ => s

/-- RNG_RELEASE (R273, R284): output whose entropy window has passed reaches the consumers that wait for it, and the buffer's room serves the next ones. `pct` as
in SESSION_OPEN. -/
def execRngRelease (pct : Bool) (s : State) : Host.Outcome State Fault Refusal :=
  if s.rf engDrbg RNG.STATE = 2 then
    let s := (s.cry.rng.inner.filter (·.passed)).foldl State.serveInner s
    .next ((s.rngWaits.foldl (fun s w => s.handOut pct w) s).rngFill).afterCommit
  else .next s

end Sys2Proof.Machine
end

