-- ==== Sys2Proof/Machine/EngineRows.lean ====
section
/-! DEFINITION. The rows at which engines come to rest or fail, domains wake, and POWER_STATE; what waited for them goes on (R24, R27, R29,
R244, R246, R370, R406, R411 to R413, R489). -/
namespace Sys2Proof.Machine

/-- What an engine that has come to rest lets go on: the block writes that wait for it, and the commands that it held (R29, R75). -/
def State.goOn (s : State) : State := s.settleRests.resume

/-! ### Engines coming to rest -/

/-- Whether a WAKING engine's initialisation ends by ENGINE_INIT_COMPLETE: its domain is awake and it is not in a soft reset; a lane that has
not been checked waits for its self-check (R370), a cipher engine under test for its test (R246). -/
def State.initialises (s : State) (e : Nat) : Bool :=
  present e && !s.sleeping e && s.engState e = 1 && !s.on e HDR.SRST && !(isLane e && !(s.lane (laneOf e)).checked) &&
    !(isCipher e && s.cry.testing.any fun t => t.1 == engNo e)

/-- ENGINE_INIT_COMPLETE (R27, R244): `pass` is the result of the known-answer test that a cipher engine's first initialisation makes. -/
def execEngineInitComplete (e : Nat) (pass : Bool) (s : State) : Host.Outcome State Fault Refusal :=
  .next (if s.initialises e then (s.initOver e pass).goOn else s)

/-- ENGINE_DRAIN_COMPLETE (R27): the work in flight has ended. -/
def execEngineDrainComplete (e : Nat) (s : State) : Host.Outcome State Fault Refusal :=
  .next (if present e && s.engState e = 3 && s.drained e then (s.drainDone e).goOn else s)

/-- A two-wire bus whose transfer the soft reset of its engine cut is recovered (R437). -/
def State.recoverCut (s : State) (e : Nat) (freed : Bool) (pulses : Nat) : State :=
  let bus := engNo e - 2
  if kind e = 0x72 && s.boot.i2cCut.contains bus then
    { s with boot := { s.boot with i2cCut := s.boot.i2cCut.filter (· != bus) } }.i2cRecover bus freed pulses
  else s

/-- The commands that wait for an engine's soft reset. -/
def State.softWaits (s : State) (e : Nat) : List Wait := s.chan.waits.filter fun w => w.why = .softReset e

/-- The answers of ENGINE_SET and RESET, whose soft reset is over (R28, R419), at the places that were kept for them. -/
def State.answerSoft (s : State) (e order : Nat) : State :=
  (s.softWaits e).zipIdx.foldl
    (fun s w => (s.dropWait w.1).reply w.1.cmd (order + w.2) St.ok 0 (if w.1.cmd.op = 0x0010 then s.stateBytes e else []) true (some w.1.id)) s

/-- SOFT_RESET_COMPLETE (R24, R29, R62, R489): the replies come ahead of the cues of the engine that comes to rest. `freed` and `pulses` are the outcome
on the bus where the reset cut a two-wire transfer. -/
def execSoftResetComplete (e : Nat) (freed : Bool) (pulses : Fin 10) (s : State) : Host.Outcome State Fault Refusal :=
  .next (if present e && s.on e HDR.SRST then
    let order := s.chan.order
    let s := { s with chan := { s.chan with order := order + (s.softWaits e).length } }
    (((s.softOver e).recoverCut e freed pulses.val).answerSoft e order).goOn
  else s)

/-- KNOWN_ANSWER_TEST (R244, R246, R247). -/
def execKnownAnswerTest (unit : Fin 10) (pass : Bool) (s : State) : Host.Outcome State Fault Refusal := .next (s.katRow unit pass).goOn

/-- LANE_SELF_CHECK (R370): `errors`, `lock` and `eye` of the check, `live` and `hit` of the cut that follows. -/
def execLaneSelfCheck (unit : Fin 68) (errors : Word) (lock : Bool) (eye live : Eye) (hit : BitVec 16) (s : State) :
    Host.Outcome State Fault Refusal := .next (s.selfCheckRow unit errors lock eye live hit).goOn

/-! ### Faults -/

/-- A fault ends an engine's soft reset, and with it the commands that wait for that. -/
def State.faultEnds (s : State) (e : Nat) : State :=
  if s.engState e = 4 then ((s.wf e HDR.SRST 0).answer (fun w => w = .softReset e) St.unitFailed).goOn else s

/-- ENGINE_FAULT (R27, R246, R371). -/
def execEngineFault (e : Nat) (cause : FaultCause) (s : State) : Host.Outcome State Fault Refusal :=
  .next (if present e && !s.sleeping e && s.engState e ≠ 5 && causeOn e cause then
    (if cause = .eccTrend then s.trendFault e else ((s.setFault e cause).faulted e).faultEnds e) else s)

/-- ENGINE_WATCHDOG (R27, R246). -/
def execEngineWatchdog (e : Nat) (s : State) : Host.Outcome State Fault Refusal :=
  .next (if !(present e && !s.sleeping e && s.engState e ≠ 5) then s
    else if isCipher e && !isSpareWin e then (s.cipherDog e).goOn
    else ((s.wf e HDR.WATCHDOG 1).faulted e).faultEnds e)

/-! ### Domains -/

/-- DOMAIN_WAKE (R25, R411): the accesses that the domain held complete. -/
def execDomainWake (d : Fin 16) (s : State) : Host.Outcome State Fault Refusal :=
  .next (if s.asleep d.val then (s.wake d.val).resume else s)

/-- A held command to an engine that a failed wake took is answered UNIT_FAILED (R413). -/
def State.failHeld (s : State) (es : List Nat) : State :=
  (s.chan.taken.filter fun t => t.started && t.req.target ≠ 0 && es.contains t.req.eng).foldl
    (fun s t => { s with chan := { s.chan with taken := s.chan.taken.filter fun u => !(u == t) } }.replyNow t St.unitFailed) s

/-- DOMAIN_WAKE_TIMEOUT (R413): the engines of `failed` are those that are not ON at four times the bound. -/
def execDomainWakeTimeout (d : Fin 16) (failed : List Byte) (s : State) : Host.Outcome State Fault Refusal :=
  let es := (failed.map fun n => eng d.val n.toNat).filter fun e => present e && s.on e HDR.ENABLE && !isSpareWin e
  .next (if s.asleep d.val && !es.isEmpty then ((s.wakeFailed d.val es).failHeld es).resume else s)

/-- CHANNEL_PARK (R123, R124): a channel that unparks wakes its domain, and what the domain held goes on. -/
def execChannelPark (r : Req) (s : State) : Host.Outcome State Fault Refusal := .next (runCmd channelParkCmd r s).resume

/-- ANCHOR_SET (R143), which may wake a parked channel in the same way. -/
def execAnchorSet (r : Req) (s : State) : Host.Outcome State Fault Refusal := .next (runCmd anchorSetCmd r s).resume

/-- POWER_STATE (R406, R407): the sleep set takes effect, and what the domains that it wakes held goes on. `p.verified` as in ZEROIZE, for DEEP STANDBY. -/
def execPowerState (p : PowerReq) (s : State) : Host.Outcome State Fault Refusal :=
  .next (((runCmd (powerStateCmd p.verified) p.req s).resume).flushDue p.req.carrier)

end Sys2Proof.Machine
end

