-- ==== Sys2Proof/Machine/Fetch.lean ====
section
/-! DEFINITION. Packets that arrive on the carriers and are taken as requests, and frames that arrive at a MAC (R44 to R49, R55 to R58, R83, R84,
R377). -/
namespace Sys2Proof.Machine

/-! ### The command of an opcode, for its checks -/

/-- The commands whose outcome their own row tells; the checks that precede the start do not look at it. -/
def outcomeCmd (op : Nat) : Option Cmd :=
  match op with
  | 0x0020 => some (sessionOpenCmd true .later)
  | 0x0021 => some (sessionAuthCmd true)
  | 0x0222 => some (parentMapCmd 0)
  | 0x0223 => some (parentEpochCmd 0)
  | 0x0224 => some (parentClearCmd 0)
  | 0x0302 => some (laneTestCmd { bits := 0, errors := 0, lock := true, eye := { h := 0, w := 0 } })
  | 0x0602 => some (cipherRunCmd [])
  | 0x0603 => some (selftestRunCmd true 0)
  | 0x0621 => some (keyGenerateCmd .later)
  | 0x0623 => some (saCreateCmd .later)
  | 0x0628 => some (rngReadCmd .later)
  | 0x062A => some (zeroizeCmd true)
  | 0x0901 => some resetCmd
  | 0x0903 => some (optionWriteCmd true)
  | 0x0A00 => some (updateBeginCmd true)
  | 0x0A01 => some (updateDataCmd [])
  | 0x0A02 => some (updateEndCmd true)
  | 0x0A05 => some (i2cXferCmd {})
  | 0x0A07 => some (unitRestoreCmd true)
  | _ => none

/-- The command of an assigned opcode (R51). -/
def takeCmd (op : Nat) : Option Cmd :=
  match heldCmd op with
  | some c => some c
  | none => outcomeCmd op

/-! ### Packets (R46 to R49) -/

/-- OPCODE, VERSION, LENGTH and OFFICER of a packet. -/
def pktOp (b : List Byte) : Nat := fld b 0 2
def pktVersion (b : List Byte) : Nat := fld b 3 1
def pktLength (b : List Byte) : Nat := fld b 6 2
def pktOfficer (b : List Byte) : Bool := bitOf (fld b 2 1) 2

/-- Bytes of a packet, its trailer included (R48). -/
def pktSize (b : List Byte) : Nat := 16 + pktLength b + (if pktOfficer b then 48 else 0)

/-- Order 1 of R49: the HALT_CAUSE of the first check that fails, or 0. `posted` bytes are there. -/
def orderOne (b : List Byte) (posted : Nat) : Nat :=
  if pktVersion b ≠ 1 then 1 else if pktLength b > 4096 then 2 else if pktSize b > posted then 3 else 0

/-- The request that a packet spells. -/
def reqOf (k : Carrier) (src : BitVec 48) (b : List Byte) : Req :=
  { carrier := k, flags := BitVec.ofNat 8 (fld b 2 1), tag := BitVec.ofNat 16 (fld b 4 2), txn := BitVec.ofNat 16 (fld b 8 2),
    session := BitVec.ofNat 16 (fld b 10 2), target := BitVec.ofNat 32 (fld b 12 4), payload := part b 16 (pktLength b),
    trailer := if pktOfficer b then BitVec.ofNat 384 (beVal (part b (16 + pktLength b) 48)) else 0, src := src }

/-- A packet is taken as a request (R49, orders 2 to 10); its row starts it. An opcode that is not assigned fails order 4. -/
def State.takePacket (s : State) (k : Carrier) (src : BitVec 48) (b : List Byte) : State :=
  let op := pktOp b
  let r := reqOf k src b
  match takeCmd op with
  | some c => s.take c r
  | none =>
    if s.on engCmd VS.READY then
      s.takeTag op r (fun _ s => s) fun s => s.refuse { op := op, req := r, auth := none, role := .user } St.badOpcode 0
    else s

/-! ### COMMAND_FETCH (R55 to R58) -/

/-- Size of a command ring in bytes. -/
def State.cmdSize (s : State) (p : Nat) : Nat := 2 ^ s.rf engCmd (VS.CMD_SIZE_LOG2.idx p)

/-- Whether a command ring is enabled, not halted, and not empty. -/
def State.ringReady (s : State) (p : Nat) : Bool :=
  s.on engCmd (VS.CMD_ENABLE.idx p) && !bitOf (s.rf engCmd VS.HALT) p &&
    s.rf engCmd (VS.CMD_HEAD.idx p) != s.rf engCmd (VS.CMD_TAIL.idx p)

/-- The ring that is fetched from next (R45, R58, R61): none while the reply ring is full or no tag is free. -/
def State.fetchRing (s : State) : Option Nat :=
  if s.works engCmd && s.on engCmd VS.READY && !s.on engCmd VS.RPL_FULL && (s.tagsOut (.ring 0)).length < 4096 then
    [3, 2, 1, 0].find? fun p => s.ringReady p
  else none

/-- Whether a tail is not a multiple of 16 or beyond the ring (R55, HALT_CAUSE 0x5). -/
def State.tailBad (s : State) (p : Nat) : Bool :=
  let t := s.rf engCmd (VS.CMD_TAIL.idx p)
  t % 16 != 0 || decide (s.cmdSize p ≤ t)

/-- Bytes that the host has posted on a ring. -/
def State.posted (s : State) (p : Nat) : Nat :=
  (s.rf engCmd (VS.CMD_TAIL.idx p) + s.cmdSize p - s.rf engCmd (VS.CMD_HEAD.idx p) % s.cmdSize p) % s.cmdSize p

/-- Why a fetch halts its ring, or 0. -/
def State.haltCause (s : State) (p : Nat) (b : List Byte) (dmaError : Bool) : Nat :=
  if s.tailBad p then 5 else if dmaError then 4 else orderOne b (s.posted p)

/-- The reply to the tag of a packet at which its ring halts (R57): DETAIL is the cause; no tag is taken, and nothing is signed. -/
def State.haltReply (s : State) (p : Fin 4) (b : List Byte) (cause : Nat) : State :=
  let r := { reqOf (.ring p) 0 b with trailer := 0 }
  let t : Taken := { op := pktOp b, req := r, auth := none, role := .user }
  if cause > 3 || r.tag = 0 then s
  else
    { s with chan := { s.chan with order := s.chan.order + 1 } }.reply t s.chan.order (if cause = 1 then St.badOpcode else St.badLength) cause []
      false

/-- A command ring halts (R57). -/
def State.haltRing (s : State) (p : Fin 4) (b : List Byte) (cause : Nat) : State :=
  let head := s.rf engCmd (VS.CMD_HEAD.idx p.val)
  let s := ((s.setHalt p.val true).wf engCmd (VS.HALT_CAUSE.idx p.val) cause).wf engCmd (VS.HALT_AT.idx p.val) (head / 16)
  (s.haltReply p b cause).cue 0x1002 ([byte p.val, byte cause, 0, 0] ++ le 4 head)

/-- COMMAND_FETCH (R56 to R58): `bytes` is what host memory holds from CMD_HEAD on; `dmaError` says that reading it failed. -/
def execCommandFetch (bytes : List Byte) (dmaError : Bool) (s : State) : Host.Outcome State Fault Refusal :=
  match s.fetchRing with
  | none => .next s
  | some n =>
    let p : Fin 4 := Fin.ofNat 4 n
    let cause := s.haltCause n bytes dmaError
    if cause ≠ 0 then .next (s.haltRing p bytes cause)
    else
      let f := VS.CMD_HEAD.idx n
      .next ((s.wf engCmd f ((s.rf engCmd f + pad16 (pktSize bytes)) % s.cmdSize n)).takePacket (.ring p) 0 bytes)

/-! ### UART_FRAME_RX (R83) -/

/-- UART_FRAME_RX (R83): `line` is what stands between two flags on UART_RXD, as received; nothing there is idle fill. A frame is an access that
wakes MGT (R25). -/
def execUartFrameRx (line : List Byte) (s : State) : Host.Outcome State Fault Refusal :=
  let bytes := uartUnescape line
  let n := bytes.length - 4
  let b := bytes.take n
  let s := if s.asleep 1 then s.wake 1 else s
  .next (if line.isEmpty || !s.works engUart then s
    else if bytes.length < 20 || le 4 (crc32 b).toNat ≠ bytes.drop n || orderOne b n ≠ 0 then s.bump engUart UART.UART_FRAME_ERR
    else (s.bump engUart UART.UART_FRAMES).takePacket .uart 0 b)

/-! ### MAC_FRAME_RX (R84, R377) -/

/-- A management frame's packet (R84): subtype, count, packet. A frame that fails is discarded; it has been counted (R377). The carrier does
not answer in recovery state (R429). -/
def State.mgmtTake (s : State) (b : List Byte) (at_ : Nat) : State :=
  let count := fbe b (at_ + 2) 2
  let pkt := part b (at_ + 4) count
  if fbe b at_ 2 ≠ 0x5655 || count < 16 || pkt.length < 16 || orderOne pkt pkt.length ≠ 0 || s.on engCmd VS.RECOVERY then s
  else s.takePacket .inband (BitVec.ofNat 48 (beVal (part b 6 6))) pkt

/-- A frame at its MAC: the ordered checks of R377. `at_` is when it arrived, in ns. -/
def State.macFrame (s : State) (l : Nat) (frame : List Byte) (bad : Bool) (at_ : Nat) : State :=
  match s.macRefuses l frame bad with
  | some i => s.macAdd l i 1
  | none =>
    let b := frame.take (frame.length - 4)
    if s.laneMode l = 4 then s.macAccept l b at_
    else
      match s.mgmtFrame l b with
      | some off => (s.macAdd l Mac.rxMgmt 1).mgmtTake b off
      | none => s.macAccept l b at_

/-- Code errors on the line, by member of the group, since the frame before (R358). -/
def State.codeErrors (s : State) (l : Nat) (errs : List Nat) : State :=
  ((s.members l).zip errs).foldl (fun s x => if s.laneWorks x.1 then s.bumpN (engLane x.1) LN.LN_CODE_ERR x.2 else s) s

/-- What a near-end loop gives a MAC next (R368): the oldest frame that it sent, with its FCS. -/
def State.takeLooped (s : State) (l : Nat) : Option (List Byte × State) :=
  match (s.mac l).looped with
  | [] => none
  | b :: bs => some (b ++ le 4 (crc32 b).toNat, s.modMac l fun m => { m with looped := bs })

/-- MAC_FRAME_RX (R377): `frame` with its FCS; `x.bad` says that order 1 applies; `x.codes` counts the code errors that each member has met since the
frame before (R358); `ago` is how many ns before now its arrival stamp was taken. A quad's frames are its first lane's. In a near-end loop the MAC
receives what it sent, and the line is ignored; a far-end loop sends the frame back too (R368). -/
def execMacFrameRx (lane : Fin 64) (frame : List Byte) (x : LineErrs) (ago : Nat) (s : State) : Host.Outcome State Fault Refusal :=
  let l := s.head lane.val
  let k := s.rf (engLane l) LN.LOOP
  let may (s : State) (bad : Bool) : Bool := s.works (engMac l) && (s.carries l || s.laneMode l = 4) && (bad || s.on (engLane l) LN.LINK)
  if k = 1 || k = 2 then
    match s.takeLooped l with
    | none => .next s
    | some (b, s) => .next (if may s false then s.macFrame l b false (s.nowNs - ago) else s)
  else
    let s := if s.laneMode l = 3 then s else s.codeErrors l x.codes
    let s := if k = 3 && s.laneWorks l && s.laneMode l ≠ 3 then s.emit (.echo l frame) else s
    .next (if may s x.bad then s.macFrame l frame x.bad (s.nowNs - ago) else s)

end Sys2Proof.Machine
end

