-- ==== Sys2Proof/Machine/Sent.lean ====
section
/-! DEFINITION. The rows at which packets leave on their carriers, and what the reply of a commit lets go on once it is written (R45, R59, R79, R83,
R84, R378). -/
namespace Sys2Proof.Machine

/-- Commands that units of a commit held go on once its reply has been written (R79). -/
def State.letGo (s : State) (before : State) : State := if s.heldUnits = before.heldUnits then s else s.resume

/-- REPLY_RING_WRITE (R59). -/
def execReplyRingWrite (s : State) : Host.Outcome State Fault Refusal := .next (s.rplWrite.letGo s)

/-- CARRIER_FRAME_SENT (R45): the last byte of a frame leaves UART_TXD, or with `inband` the management lane. -/
def execCarrierFrameSent (inband : Bool) (s : State) : Host.Outcome State Fault Refusal :=
  .next ((if inband then s.mgmtTx else s.uartSent).letGo s)

/-- MAC_FRAME_TX (R378, R379): with `abort` the frame is cut while it is sent, by a lost link or a substitution (R373). -/
def execMacFrameTx (lane : Fin 64) (abort : Bool) (s : State) : Host.Outcome State Fault Refusal := .next ((s.macTx lane.val abort).letGo s)

end Sys2Proof.Machine
end

