-- ==== Sys2Proof/Machine/Dispatch.lean ====
section
/-! DEFINITION. One arm per command: each is a direct call of the command's meaning. -/
namespace Sys2Proof.Machine

/-- What a command does to everything but the queue. -/
def exec (i : Instr) (s : State) : Host.Outcome State Fault Refusal :=
  match i with
  | .engineSet r => Sys2Proof.Machine.execEngineSet r s
  | .engCtrlSrstWrite w => Sys2Proof.Machine.execEngCtrlSrstWrite w s
  | .engCtrlEnableWrite w on => Sys2Proof.Machine.execEngCtrlEnableWrite w on s
  | .engineInitComplete e pass => Sys2Proof.Machine.execEngineInitComplete e pass s
  | .engineDrainComplete e => Sys2Proof.Machine.execEngineDrainComplete e s
  | .softResetComplete e freed pulses => Sys2Proof.Machine.execSoftResetComplete e freed pulses s
  | .engineFault e cause => Sys2Proof.Machine.execEngineFault e cause s
  | .engineWatchdog e => Sys2Proof.Machine.execEngineWatchdog e s
  | .registerWrite loc v => Sys2Proof.Machine.execRegisterWrite loc v s
  | .rcRegisterRead loc => Sys2Proof.Machine.execRcRegisterRead loc s
  | .sfcLoRead ch => Sys2Proof.Machine.execSfcLoRead ch s
  | .cxBlocksLoRead unit => Sys2Proof.Machine.execCxBlocksLoRead unit s
  | .nowShortRead => Sys2Proof.Machine.execNowShortRead s
  | .countLoRead => Sys2Proof.Machine.execCountLoRead s
  | .macCntLoRead lane reg => Sys2Proof.Machine.execMacCntLoRead lane reg s
  | .commandFetch bytes dmaError => Sys2Proof.Machine.execCommandFetch bytes dmaError s
  | .uartFrameRx bytes => Sys2Proof.Machine.execUartFrameRx bytes s
  | .carrierFrameSent inband => Sys2Proof.Machine.execCarrierFrameSent inband s
  | .replyRingWrite => Sys2Proof.Machine.execReplyRingWrite s
  | .msixHoldoffExpiry vector => Sys2Proof.Machine.execMsixHoldoffExpiry vector s
  | .cmdTailWrite p v => Sys2Proof.Machine.execCmdTailWrite p v s
  | .rplHeadWrite v => Sys2Proof.Machine.execRplHeadWrite v s
  | .cmdRingEnableWrite p on => Sys2Proof.Machine.execCmdRingEnableWrite p on s
  | .rplRingEnableWrite on => Sys2Proof.Machine.execRplRingEnableWrite on s
  | .rplCueEnWrite on => Sys2Proof.Machine.execRplCueEnWrite on s
  | .identify r => Sys2Proof.Machine.execIdentify r s
  | .echo r => Sys2Proof.Machine.execEcho r s
  | .cueRoute r => Sys2Proof.Machine.execCueRoute r s
  | .sessionOpen r pct released => Sys2Proof.Machine.execSessionOpen r pct released s
  | .sessionAuth r verified => Sys2Proof.Machine.execSessionAuth r verified s
  | .sessionClose r => Sys2Proof.Machine.execSessionClose r s
  | .roleAuthSet r => Sys2Proof.Machine.execRoleAuthSet r s
  | .sessionIdleTimeout id => Sys2Proof.Machine.execSessionIdleTimeout id s
  | .sessionAuthTimeout id => Sys2Proof.Machine.execSessionAuthTimeout id s
  | .authLockoutEnd => Sys2Proof.Machine.execAuthLockoutEnd s
  | .objRead r => Sys2Proof.Machine.execObjRead r s
  | .objWrite r => Sys2Proof.Machine.execObjWrite r s
  | .objModify r => Sys2Proof.Machine.execObjModify r s
  | .txnBegin r => Sys2Proof.Machine.execTxnBegin r s
  | .txnCommit r => Sys2Proof.Machine.execTxnCommit r s
  | .txnAbort r => Sys2Proof.Machine.execTxnAbort r s
  | .txnExpiry txn => Sys2Proof.Machine.execTxnExpiry txn s
  | .pmdCfgTxEnWrite ch on => Sys2Proof.Machine.execPmdCfgTxEnWrite ch on s
  | .psyncReceived ch matched hec sfc => Sys2Proof.Machine.execPsyncReceived ch matched hec sfc s
  | .ponLosDeclare ch signal lock => Sys2Proof.Machine.execPonLosDeclare ch signal lock s
  | .ponLosClear ch => Sys2Proof.Machine.execPonLosClear ch s
  | .bandwidthMap ch arrival grants => Sys2Proof.Machine.execBandwidthMap ch arrival grants s
  | .burstCommit ch enc => Sys2Proof.Machine.execBurstCommit ch enc s
  | .burstEnd ch => Sys2Proof.Machine.execBurstEnd ch s
  | .rogueDetect ch => Sys2Proof.Machine.execRogueDetect ch s
  | .ploamRx ch msg => Sys2Proof.Machine.execPloamRx ch msg s
  | .burstProfile ch => Sys2Proof.Machine.execBurstProfile ch s
  | .assignOnuId ch => Sys2Proof.Machine.execAssignOnuId ch s
  | .rangingTime ch => Sys2Proof.Machine.execRangingTime ch s
  | .deactivateOnuId ch => Sys2Proof.Machine.execDeactivateOnuId ch s
  | .disableSerialNumber ch => Sys2Proof.Machine.execDisableSerialNumber ch s
  | .requestRegistration ch => Sys2Proof.Machine.execRequestRegistration ch s
  | .assignAllocId ch => Sys2Proof.Machine.execAssignAllocId ch s
  | .keyControl ch => Sys2Proof.Machine.execKeyControl ch s
  | .sleepAllow ch => Sys2Proof.Machine.execSleepAllow ch s
  | .tuningControl ch => Sys2Proof.Machine.execTuningControl ch s
  | .adjustTxWavelength ch => Sys2Proof.Machine.execAdjustTxWavelength ch s
  | .ploamUnknownMessage ch => Sys2Proof.Machine.execPloamUnknownMessage ch s
  | .portAssign ch => Sys2Proof.Machine.execPortAssign ch s
  | .parkAck ch => Sys2Proof.Machine.execParkAck ch s
  | .epochClaim ch started => Sys2Proof.Machine.execEpochClaim ch started s
  | .omciMessage ch => Sys2Proof.Machine.execOmciMessage ch s
  | .fecCodeword ch corrected uncorrectable => Sys2Proof.Machine.execFecCodeword ch corrected uncorrectable s
  | .xgemFrameRx ch x => Sys2Proof.Machine.execXgemFrameRx ch x s
  | .bondFragmentRx => Sys2Proof.Machine.execBondFragmentRx s
  | .bondGapTimerExpiry group => Sys2Proof.Machine.execBondGapTimerExpiry group s
  | .bondIdleFlush group => Sys2Proof.Machine.execBondIdleFlush group s
  | .to1Expiry vt => Sys2Proof.Machine.execTo1Expiry vt s
  | .to2Expiry vt => Sys2Proof.Machine.execTo2Expiry vt s
  | .parkAckTimeout ch => Sys2Proof.Machine.execParkAckTimeout ch s
  | .parkHoldExpiry ch => Sys2Proof.Machine.execParkHoldExpiry ch s
  | .wsIawareExpiry ch => Sys2Proof.Machine.execWsIawareExpiry ch s
  | .wsIlowpowerExpiry ch => Sys2Proof.Machine.execWsIlowpowerExpiry ch s
  | .vtConfig r => Sys2Proof.Machine.execVtConfig r s
  | .vtQuery r => Sys2Proof.Machine.execVtQuery r s
  | .omciSend r => Sys2Proof.Machine.execOmciSend r s
  | .portSet r => Sys2Proof.Machine.execPortSet r s
  | .bondGroupSet r => Sys2Proof.Machine.execBondGroupSet r s
  | .channelPark r => Sys2Proof.Machine.execChannelPark r s
  | .parentLostTimer => Sys2Proof.Machine.execParentLostTimer s
  | .heartbeatTimer pon => Sys2Proof.Machine.execHeartbeatTimer pon s
  | .heartbeatRx src => Sys2Proof.Machine.execHeartbeatRx src s
  | .pairPathTimeout pon => Sys2Proof.Machine.execPairPathTimeout pon s
  | .swapTimeout => Sys2Proof.Machine.execSwapTimeout s
  | .swapDrainComplete => Sys2Proof.Machine.execSwapDrainComplete s
  | .anchorSetTimeout ch => Sys2Proof.Machine.execAnchorSetTimeout ch s
  | .allocBind r => Sys2Proof.Machine.execAllocBind r s
  | .anchorSet r => Sys2Proof.Machine.execAnchorSet r s
  | .parentMap r started => Sys2Proof.Machine.execParentMap r started s
  | .parentEpoch r started => Sys2Proof.Machine.execParentEpoch r started s
  | .parentClear r started => Sys2Proof.Machine.execParentClear r started s
  | .pairConfig r => Sys2Proof.Machine.execPairConfig r s
  | .pairRole r => Sys2Proof.Machine.execPairRole r s
  | .sdhFrameRx lane f => Sys2Proof.Machine.execSdhFrameRx lane f s
  | .lofTimer lane => Sys2Proof.Machine.execLofTimer lane s
  | .sdhFrameTx lane paths => Sys2Proof.Machine.execSdhFrameTx lane paths s
  | .multiframeBoundary due => Sys2Proof.Machine.execMultiframeBoundary due s
  | .tsiCopyComplete => Sys2Proof.Machine.execTsiCopyComplete s
  | .circuitPacketForm circuit payload pointer => Sys2Proof.Machine.execCircuitPacketForm circuit payload pointer s
  | .circuitPacketRx => Sys2Proof.Machine.execCircuitPacketRx s
  | .playoutTick circuit => Sys2Proof.Machine.execPlayoutTick circuit s
  | .pmSecondClassify sec => Sys2Proof.Machine.execPmSecondClassify sec s
  | .pmBinBoundary start day => Sys2Proof.Machine.execPmBinBoundary start day s
  | .tdmStruct r => Sys2Proof.Machine.execTdmStruct r s
  | .tsiConnect r => Sys2Proof.Machine.execTsiConnect r s
  | .tsiSplice r => Sys2Proof.Machine.execTsiSplice r s
  | .tsiRead r => Sys2Proof.Machine.execTsiRead r s
  | .circuitSet r => Sys2Proof.Machine.execCircuitSet r s
  | .circuitQuery r => Sys2Proof.Machine.execCircuitQuery r s
  | .pmConfig r => Sys2Proof.Machine.execPmConfig r s
  | .pmRead r => Sys2Proof.Machine.execPmRead r s
  | .cxBindWrite unit v => Sys2Proof.Machine.execCxBindWrite unit v s
  | .lockClaim unit writes => Sys2Proof.Machine.execLockClaim unit writes s
  | .lockRelease unit owner => Sys2Proof.Machine.execLockRelease unit owner s
  | .poolBorrowRetry b pass us faults => Sys2Proof.Machine.execPoolBorrowRetry b pass us faults s
  | .sealJobStart ctx urgent rotating wait => Sys2Proof.Machine.execSealJobStart ctx urgent rotating wait s
  | .openJobStart ctx urgent rotating wait => Sys2Proof.Machine.execOpenJobStart ctx urgent rotating wait s
  | .suspendRestore unit fed => Sys2Proof.Machine.execSuspendRestore unit fed s
  | .cipherJobComplete ctx => Sys2Proof.Machine.execCipherJobComplete ctx s
  | .onlineCheck unit pass => Sys2Proof.Machine.execOnlineCheck unit pass s
  | .knownAnswerTest unit pass => Sys2Proof.Machine.execKnownAnswerTest unit pass s
  | .ivFixedSet r => Sys2Proof.Machine.execIvFixedSet r s
  | .saFormat r => Sys2Proof.Machine.execSaFormat r s
  | .cipherRun r faults => Sys2Proof.Machine.execCipherRun r faults s
  | .selftestRun r pass us => Sys2Proof.Machine.execSelftestRun r pass us s
  | .saStats r => Sys2Proof.Machine.execSaStats r s
  | .keDataWrite word v => Sys2Proof.Machine.execKeDataWrite word v s
  | .keClearWrite v => Sys2Proof.Machine.execKeClearWrite v s
  | .keBufferTimeout => Sys2Proof.Machine.execKeBufferTimeout s
  | .rxOverlapExpiry sa => Sys2Proof.Machine.execRxOverlapExpiry sa s
  | .entropyWindow run apt => Sys2Proof.Machine.execEntropyWindow run apt s
  | .drbgReseed => Sys2Proof.Machine.execDrbgReseed s
  | .drbgStartupComplete pass => Sys2Proof.Machine.execDrbgStartupComplete pass s
  | .rngRelease pct => Sys2Proof.Machine.execRngRelease pct s
  | .tamperLoopSample ok verified => Sys2Proof.Machine.execTamperLoopSample ok verified s
  | .supplyAlarm rail verified => Sys2Proof.Machine.execSupplyAlarm rail verified s
  | .slowclkAlarm verified => Sys2Proof.Machine.execSlowclkAlarm verified s
  | .refclkAlarm verified => Sys2Proof.Machine.execRefclkAlarm verified s
  | .lockstepAlarm verified => Sys2Proof.Machine.execLockstepAlarm verified s
  | .alarmHoldRelease => Sys2Proof.Machine.execAlarmHoldRelease s
  | .keyCommit r => Sys2Proof.Machine.execKeyCommit r s
  | .keyGenerate r released => Sys2Proof.Machine.execKeyGenerate r released s
  | .keyErase r => Sys2Proof.Machine.execKeyErase r s
  | .saCreate r released => Sys2Proof.Machine.execSaCreate r released s
  | .saStage r => Sys2Proof.Machine.execSaStage r s
  | .saRoll r => Sys2Proof.Machine.execSaRoll r s
  | .saDelete r => Sys2Proof.Machine.execSaDelete r s
  | .saQuery r => Sys2Proof.Machine.execSaQuery r s
  | .rngRead r released => Sys2Proof.Machine.execRngRead r released s
  | .rngRestart r => Sys2Proof.Machine.execRngRestart r s
  | .zeroize r verified => Sys2Proof.Machine.execZeroize r verified s
  | .classifyFrame down => Sys2Proof.Machine.execClassifyFrame down s
  | .actionProgram unit waited => Sys2Proof.Machine.execActionProgram unit waited s
  | .tableCopyComplete table => Sys2Proof.Machine.execTableCopyComplete table s
  | .tableConfig r => Sys2Proof.Machine.execTableConfig r s
  | .flowAdd r => Sys2Proof.Machine.execFlowAdd r s
  | .flowDel r => Sys2Proof.Machine.execFlowDel r s
  | .flowRead r => Sys2Proof.Machine.execFlowRead r s
  | .ruleSet r => Sys2Proof.Machine.execRuleSet r s
  | .tableSplice r => Sys2Proof.Machine.execTableSplice r s
  | .progLoad r => Sys2Proof.Machine.execProgLoad r s
  | .meterSet r => Sys2Proof.Machine.execMeterSet r s
  | .counterRead r => Sys2Proof.Machine.execCounterRead r s
  | .excRead r => Sys2Proof.Machine.execExcRead r s
  | .dispatcherTick => Sys2Proof.Machine.execDispatcherTick s
  | .jobDue => Sys2Proof.Machine.execJobDue s
  | .classPTimeout => Sys2Proof.Machine.execClassPTimeout s
  | .jobTake by_ => Sys2Proof.Machine.execJobTake by_ s
  | .queueSet r => Sys2Proof.Machine.execQueueSet r s
  | .nodeSet r => Sys2Proof.Machine.execNodeSet r s
  | .shaperSet r => Sys2Proof.Machine.execShaperSet r s
  | .policerSet r => Sys2Proof.Machine.execPolicerSet r s
  | .queueStats r => Sys2Proof.Machine.execQueueStats r s
  | .nodeQuery r => Sys2Proof.Machine.execNodeQuery r s
  | .laneLosDeclare lane => Sys2Proof.Machine.execLaneLosDeclare lane s
  | .laneLosClear lane eye ctle dfe => Sys2Proof.Machine.execLaneLosClear lane eye ctle dfe s
  | .laneSyncLoss lane align => Sys2Proof.Machine.execLaneSyncLoss lane align s
  | .laneSpeedExchangeDone lane page => Sys2Proof.Machine.execLaneSpeedExchangeDone lane page s
  | .rateStepSwitch lane => Sys2Proof.Machine.execRateStepSwitch lane s
  | .rateStepComplete lane eye page => Sys2Proof.Machine.execRateStepComplete lane eye page s
  | .rateStepTimeout lane => Sys2Proof.Machine.execRateStepTimeout lane s
  | .quadRetryTimer quad => Sys2Proof.Machine.execQuadRetryTimer quad s
  | .adaptationRepeat lane h w steps eyes => Sys2Proof.Machine.execAdaptationRepeat lane h w steps eyes s
  | .fomTrendUpdate lane eye => Sys2Proof.Machine.execFomTrendUpdate lane eye s
  | .laneSelfCheck unit errors lock eye live hit => Sys2Proof.Machine.execLaneSelfCheck unit errors lock eye live hit s
  | .spareSelfCheckTimer => Sys2Proof.Machine.execSpareSelfCheckTimer s
  | .macFrameRx lane frame x ago => Sys2Proof.Machine.execMacFrameRx lane frame x ago s
  | .macFrameTx lane abort => Sys2Proof.Machine.execMacFrameTx lane abort s
  | .pfcPauseExpiry lane prio => Sys2Proof.Machine.execPfcPauseExpiry lane prio s
  | .pfcRefreshTimer lane prio => Sys2Proof.Machine.execPfcRefreshTimer lane prio s
  | .laneSignalWake lane => Sys2Proof.Machine.execLaneSignalWake lane s
  | .laneMode r => Sys2Proof.Machine.execLaneMode r s
  | .laneLoop r => Sys2Proof.Machine.execLaneLoop r s
  | .laneTest r bits errors lock eye => Sys2Proof.Machine.execLaneTest r bits errors lock eye s
  | .macSnapshot r => Sys2Proof.Machine.execMacSnapshot r s
  | .ponTimeSample delay => Sys2Proof.Machine.execPonTimeSample delay s
  | .ppsInEdge rise => Sys2Proof.Machine.execPpsInEdge rise s
  | .sourceVanishTimeout => Sys2Proof.Machine.execSourceVanishTimeout s
  | .slewComplete => Sys2Proof.Machine.execSlewComplete s
  | .secondBoundary => Sys2Proof.Machine.execSecondBoundary s
  | .ppsOutFall => Sys2Proof.Machine.execPpsOutFall s
  | .timeNow r => Sys2Proof.Machine.execTimeNow r s
  | .timeSource r => Sys2Proof.Machine.execTimeSource r s
  | .timeSample r => Sys2Proof.Machine.execTimeSample r s
  | .timeAcquire r => Sys2Proof.Machine.execTimeAcquire r s
  | .ptpSend r => Sys2Proof.Machine.execPtpSend r s
  | .stampRead r => Sys2Proof.Machine.execStampRead r s
  | .domainSleep d => Sys2Proof.Machine.execDomainSleep d s
  | .domainWake d => Sys2Proof.Machine.execDomainWake d s
  | .domainWakeTimeout d failed => Sys2Proof.Machine.execDomainWakeTimeout d failed s
  | .standbyWake source => Sys2Proof.Machine.execStandbyWake source s
  | .porstNLow => Sys2Proof.Machine.execPorstNLow s
  | .resetNPulse => Sys2Proof.Machine.execResetNPulse s
  | .perstNLow => Sys2Proof.Machine.execPerstNLow s
  | .mgmtWatchdogExpiry => Sys2Proof.Machine.execMgmtWatchdogExpiry s
  | .pllLockLoss => Sys2Proof.Machine.execPllLockLoss s
  | .warmResetAssert => Sys2Proof.Machine.execWarmResetAssert s
  | .resetRelease => Sys2Proof.Machine.execResetRelease s
  | .boot b => Sys2Proof.Machine.execBoot b s
  | .powerState p => Sys2Proof.Machine.execPowerState p s
  | .reset r => Sys2Proof.Machine.execReset r s
  | .bootStatus r => Sys2Proof.Machine.execBootStatus r s
  | .optionWrite r readOk => Sys2Proof.Machine.execOptionWrite r readOk s
  | .temperatureSample temps refPpm slowPpm verified => Sys2Proof.Machine.execTemperatureSample temps refPpm slowPpm verified s
  | .railSample mv => Sys2Proof.Machine.execRailSample mv s
  | .sramEccError correctable => Sys2Proof.Machine.execSramEccError correctable s
  | .i2cStretchTimeout bus => Sys2Proof.Machine.execI2cStretchTimeout bus s
  | .i2cRecoveryRetry bus freed pulses x => Sys2Proof.Machine.execI2cRecoveryRetry bus freed pulses x s
  | .opticsMonitorRead ch x => Sys2Proof.Machine.execOpticsMonitorRead ch x s
  | .logMirrorWrite fails => Sys2Proof.Machine.execLogMirrorWrite fails s
  | .hourlySlate => Sys2Proof.Machine.execHourlySlate s
  | .cursorWrite v => Sys2Proof.Machine.execCursorWrite v s
  | .windowAutoRead => Sys2Proof.Machine.execWindowAutoRead s
  | .updateTimeout => Sys2Proof.Machine.execUpdateTimeout s
  | .rowEccError row correctable => Sys2Proof.Machine.execRowEccError row correctable s
  | .updateBegin r erased => Sys2Proof.Machine.execUpdateBegin r erased s
  | .updateData r bad => Sys2Proof.Machine.execUpdateData r bad s
  | .updateEnd r readOk => Sys2Proof.Machine.execUpdateEnd r readOk s
  | .reelStatus r => Sys2Proof.Machine.execReelStatus r s
  | .logClear r => Sys2Proof.Machine.execLogClear r s
  | .i2cXfer r x => Sys2Proof.Machine.execI2cXfer r x s
  | .spareInventory r => Sys2Proof.Machine.execSpareInventory r s
  | .unitRestore r pass => Sys2Proof.Machine.execUnitRestore r pass s
  | .laneSyncAcquired lane aligned => Sys2Proof.Machine.execLaneSyncAcquired lane aligned s
  | .alarmSourcesArmed => Sys2Proof.Machine.execAlarmSourcesArmed s

end Sys2Proof.Machine
end

