-- ==== Sys2Proof/Safety.lean ====
section
/-! DEFINITION. The terms that the statements use: what a safe state is, what a step leaves as it was, when a host command starts, and what it
means that a reply or a cue has been queued. -/
namespace Sys2Proof.Machine

/-! ### Safe states -/

/-- Whether an option block in force has the ranges that R426 asks of a copy and R428 gives the defaults: a VID of 12 bits that is not reserved,
or none, and a management lane that exists. -/
def OptBlock.accepted (o : OptBlock) : Prop := (o.vid ≤ 0xFFE ∨ o.vid = 0xFFFF) ∧ o.lane < 64

/-- A safe state. -/
def State.Safe (s : State) : Prop := s.opt.accepted

/-! ### Frames -/

/-- The parts of the state beside the register fields. -/
inductive Part where
  | engx | chan | clk | log | pages | disp | sched | pon | opt | boot | cry | tdm | cls | client | freeCtr | emitted
deriving DecidableEq, Repr

/-- Whether two states agree in a part. -/
def Part.same (p : Part) (s t : State) : Prop :=
  match p with
  | .engx => t.engx = s.engx
  | .chan => t.chan = s.chan
  | .clk => t.clk = s.clk
  | .log => t.log = s.log
  | .pages => t.pages = s.pages
  | .disp => t.disp = s.disp
  | .sched => t.sched = s.sched
  | .pon => t.pon = s.pon
  | .opt => t.opt = s.opt
  | .boot => t.boot = s.boot
  | .cry => t.cry = s.cry
  | .tdm => t.tdm = s.tdm
  | .cls => t.cls = s.cls
  | .client => t.client = s.client
  | .freeCtr => t.freeCtr = s.freeCtr
  | .emitted => t.emitted = s.emitted

/-- From `s` to `t` the queue of commands and true time stand; of the parts only those of `parts` may change, and of the register fields only those
whose place (engine, offset, bit) is among `fs`. -/
def Keeps (s t : State) (parts : List Part) (fs : List (Nat × Fld)) : Prop :=
  t.pending = s.pending ∧ t.elapsed = s.elapsed ∧ (∀ p, p ∉ parts → p.same s t) ∧
    ∀ e f, fldKey e f ∉ fs.map (fun x => fldKey x.1 x.2) → t.rf e f = s.rf e f

/-- As `Keeps`, where every field of the engines of `es` may change. -/
def KeepsBut (s t : State) (parts : List Part) (es : List Nat) : Prop :=
  t.pending = s.pending ∧ t.elapsed = s.elapsed ∧ (∀ p, p ∉ parts → p.same s t) ∧
    ∀ e f, f.off < 2 ^ 20 → f.lo < 32 → e ∉ es → t.rf e f = s.rf e f

/-! ### Host commands -/

/-- Request `r` of command `c` is among those taken, as `k`, and starts now: it is next (R64) or had started and was held; nothing holds it
(R25, R29, R79, R432); and recovery state, the error state and the engines that it needs let it run (R66, R285, R491). -/
abbrev Ready (c : Cmd) (r : Req) (k : Taken) (s : State) : Prop :=
  s.findTaken c.op r = some k ∧ (k.started = true ∨ s.isNext k = true) ∧ (s.boot.fwDead = false ∨ hwOp c.op = true) ∧
    s.heldBy c r = none ∧ s.inSoftReset c.op r = false ∧ c.first r s = none

/-- The state in which a taken command starts: it is no longer among those taken, and the place of its reply is reserved (R62). -/
def State.starting (s : State) (k : Taken) : State :=
  { s with chan := { s.chan with order := s.chan.order + 1, taken := s.chan.taken.filter fun u => !(u == k) } }

/-- The place of the next reply is taken (R62). -/
def State.ordered (s : State) : State := { s with chan := { s.chan with order := s.chan.order + 1 } }

/-- The state with transaction `n` as given. -/
def State.withTxn (s : State) (n : Nat) (x : Txn) : State := { s with chan := { s.chan with txns := s.chan.txns.put n x } }

/-- Command row `i` on `s` answers the request `k` with a status, DETAIL and payload, after an effect `post` (from the state in which it starts to
the one in which it is answered, of which the payload may speak). The reply of a commit `holds` its units until it is written (R79); `next` is what the
row lets go on behind the answer. -/
def Answers (i : Instr) (s : State) (k : Taken) (status detail : Nat) (payload : State → List Byte) (post : State → State → Prop) (holds : Nat := 0)
    (next : State → State := id) : Prop :=
  ∃ u, exec i s = .next (next (u.reply k s.chan.order status detail (payload u) true none holds)) ∧ post (s.starting k) u

/-- Command row `i` on `s` is taken into effect and waits for `why` before it is answered. -/
def Waits (i : Instr) (s : State) (k : Taken) (why : Why) (post : State → State → Prop) (next : State → State := id) : Prop :=
  ∃ u, exec i s = .next (next (u.awaits s.chan.order why k)) ∧ post (s.starting k) u

/-- Row `i` on `s` answers the waiting command `w`, which was taken into effect earlier, with a status, DETAIL and payload, after an effect `post`. -/
def Ends (i : Instr) (s : State) (w : Wait) (status detail : Nat) (payload : State → List Byte) (post : State → State → Prop)
    (next : State → State := id) : Prop :=
  ∃ u, exec i s = .next (next ((u.dropWait w).reply w.cmd s.chan.order status detail (payload u) true (some w.id))) ∧ post s.ordered u

/-- Nothing changes. -/
def Unchanged (s t : State) : Prop := t = s

/-- The cue of `code` with `payload` is the one thing added to the PCIe cue queue, unless the queue is full or a commit gathers cues (R61, R79). -/
def Cued (s t : State) (code : Nat) (payload : List Byte) : Prop :=
  s.chan.deferred = none → s.chan.pcieCues.length < 256 →
    ∃ p, t.chan.pcieCues = s.chan.pcieCues ++ [p] ∧ p.bytes = cueBytes code s.chan.cueSeq s.short payload

/-- The field that every cue may raise: VS_CUE_LOST (R61). -/
def cueFld : Nat × Fld := (engCmd, VS.CUE_LOST)

/-- The counter `f` of engine `e` raised by `n`, saturating. -/
def Counts (s t : State) (e : Nat) (f : Fld) (n : Nat) : Prop := t.rf e f = min (2 ^ f.width - 1) (s.rf e f + n)

/-! ### PLOAM messages -/

/-- A message stands at the head of a channel's receive queue, and the firmware handles it now (R101). -/
abbrev Heads (s : State) (ch : Nat) (m : PloamMsg) : Prop := ((s.chn ch).rxq.head?.map fun x => x.2) = some m ∧ s.fwStops = false

/-- The state with that message taken. -/
def State.popped (s : State) (ch : Nat) : State := s.modCh ch fun c => { c with rxq := c.rxq.drop 1 }

/-- A new downstream frame begins on a channel: a frame of which the rest was discarded is over (R107). -/
def State.newFrame (s : State) (ch : Nat) : State := s.modCh ch fun x => { x with rest := false }

end Sys2Proof.Machine
end

