-- ==== Sys2Proof/Certificates/Slice0/Obligations.lean ====
section
/-! DEFINITION. The statements for the provers. -/
open Sys2Proof Sys2Proof.Machine

/-! ### The queue -/

/-- A step runs the command at the front of the queue, with the queue's rest. -/
def Obligations.StepRunsFrontCommand : Prop :=
  ∀ (c : Instr) (rest : List Instr) (s : State), step { s with pending := c :: rest } = exec c { s with pending := rest }

/-! ### Engines (R16, R21 to R33, R489) -/

/-- What the header of an engine that begins to wake may show beside its own bits: an untested cipher engine is held by its self-test (R244). -/
def wakesWith (s : State) (e : Nat) : List (Nat × Fld) := if isCipher e && !(s.ex e).selfTested then [(e, CX.OWNER)] else []

/-- R27, R31, rows ENG_CTRL_ENABLE_WRITE: OFF goes to WAKING; ON goes to DRAINING; WAKING takes PEND_OFF; DRAINING takes REARM; a disable of a guarded
engine without an officer session changes nothing. The frame is stated. -/
def Obligations.EnableWriteFollowsTheTable : Prop :=
  ∀ (e : Nat) (officer : Bool) (s : State), s.ctrlOpen e = true →
    (s.engState e = 0 → s.idleMember e = false →
      ∃ t, exec (.engCtrlEnableWrite ⟨e, officer⟩ true) s = .next t ∧ t.engState e = 1 ∧ t.on e HDR.ENABLE = true ∧
        Keeps s t [.engx] ([(e, HDR.STATE), (e, HDR.ENABLE)] ++ wakesWith s e)) ∧
    (s.engState e = 2 → engDomain e ≠ 0 → (officer = true ∨ guarded e = false) →
      ∃ t, exec (.engCtrlEnableWrite ⟨e, officer⟩ false) s = .next t ∧ t.engState e = 3 ∧ t.on e HDR.ENABLE = false ∧
        Keeps s t [.engx, .clk] [(e, HDR.STATE), (e, HDR.ENABLE)]) ∧
    (s.engState e = 1 → engDomain e ≠ 0 → (officer = true ∨ guarded e = false) → s.on e HDR.PEND_OFF = false →
      ∃ t, exec (.engCtrlEnableWrite ⟨e, officer⟩ false) s = .next t ∧ t.engState e = 1 ∧ t.on e HDR.PEND_OFF = true ∧ t.on e HDR.ENABLE = false ∧
        Keeps s t [.engx] [(e, HDR.PEND_OFF), (e, HDR.ENABLE)]) ∧
    (s.engState e = 3 → s.idleMember e = false → s.on e HDR.REARM = false →
      ∃ t, exec (.engCtrlEnableWrite ⟨e, officer⟩ true) s = .next t ∧ t.engState e = 3 ∧ t.on e HDR.REARM = true ∧ t.on e HDR.ENABLE = true ∧
        Keeps s t [.engx] [(e, HDR.REARM), (e, HDR.ENABLE)]) ∧
    (guarded e = true → exec (.engCtrlEnableWrite ⟨e, false⟩ false) s = .next s)

/-- R28, row ENGINE_SET: an enable of an OFF engine is OK, of one that rests ON is NO_CHANGE, of a DRAINING one is DEFERRED, and the reply holds
ENG_STATE; an action 2 waits for its soft reset. -/
def Obligations.EngineSetAnswersByState : Prop :=
  ∀ (r : Req) (k : Taken) (s : State), Ready engineSetCmd r k s →
    (fld r.payload 0 1 = 1 → s.engState r.eng = 0 → s.idleMember r.eng = false →
      Answers (.engineSet r) s k St.ok 0 (fun u => u.stateBytes r.eng) fun s t =>
        t.engState r.eng = 1 ∧ t.on r.eng HDR.ENABLE = true ∧
          Keeps s t [.engx] ([(r.eng, HDR.STATE), (r.eng, HDR.ENABLE)] ++ wakesWith s r.eng)) ∧
    (fld r.payload 0 1 = 1 → s.engState r.eng = 2 → s.idleMember r.eng = false →
      Answers (.engineSet r) s k St.noChange 0 (fun u => u.stateBytes r.eng) fun s t =>
        t.engState r.eng = 2 ∧ Keeps s t [] [(r.eng, HDR.ENABLE)]) ∧
    (fld r.payload 0 1 = 1 → s.engState r.eng = 3 → s.idleMember r.eng = false → s.on r.eng HDR.REARM = false →
      Answers (.engineSet r) s k St.deferred 0 (fun u => u.stateBytes r.eng) fun s t =>
        t.engState r.eng = 3 ∧ t.on r.eng HDR.REARM = true ∧ Keeps s t [.engx] [(r.eng, HDR.REARM), (r.eng, HDR.ENABLE)]) ∧
    (fld r.payload 0 1 = 0 → s.engState r.eng = 2 →
      Answers (.engineSet r) s k St.ok 0 (fun u => u.stateBytes r.eng) fun s t =>
        t.engState r.eng = 3 ∧ t.on r.eng HDR.ENABLE = false ∧ Keeps s t [.engx, .clk] [(r.eng, HDR.STATE), (r.eng, HDR.ENABLE)]) ∧
    (fld r.payload 0 1 = 2 → s.engState r.eng ≠ 5 →
      Waits (.engineSet r) s k (.softReset r.eng) fun _ t => t.on r.eng HDR.SRST = true)

/-- R24, R31, R489, rows ENG_CTRL_SRST_WRITE and SOFT_RESET_COMPLETE: SRST reads 1 from the write until the reset is complete and 0 then; an engine in
OFF stays OFF, and one in FAILED with ENABLE = 1 goes to WAKING. The places of the replies are kept (R62), and what the engine had held goes on behind.
A write to a guarded engine without an officer session changes nothing. -/
def Obligations.SoftResetRunsBetweenItsRows : Prop :=
  (∀ (e : Nat) (officer : Bool) (s : State), s.ctrlOpen e = true →
    ((officer = true ∨ guarded e = false) → ∃ t, exec (.engCtrlSrstWrite ⟨e, officer⟩) s = .next t ∧ t.on e HDR.SRST = true) ∧
    (guarded e = true → exec (.engCtrlSrstWrite ⟨e, false⟩) s = .next s)) ∧
  (∀ (e : Nat) (freed : Bool) (pulses : Fin 10) (s : State), present e = true → kind e ≠ 0x72 → s.on e HDR.SRST = true →
    (s.ex e).enableAfter = none →
    (s.engState e = 0 →
      ∃ u : State, exec (.softResetComplete e freed pulses) s = .next (u.answerSoft e s.chan.order).goOn ∧ u.on e HDR.SRST = false ∧
        u.engState e = 0 ∧ u.chan = { s.chan with order := s.chan.order + (s.softWaits e).length } ∧ Keeps s u [.chan] [(e, HDR.SRST)]) ∧
    (s.engState e = 4 → s.on e HDR.ENABLE = true →
      ∃ u : State, exec (.softResetComplete e freed pulses) s = .next (u.answerSoft e s.chan.order).goOn ∧ u.on e HDR.SRST = false ∧
        u.engState e = 1 ∧ u.chan = { s.chan with order := s.chan.order + (s.softWaits e).length } ∧
        Keeps s u [.chan] ([(e, HDR.SRST), (e, HDR.STATE)] ++ wakesWith s e)))

/-- R27, rows ENGINE_INIT_COMPLETE and ENGINE_DRAIN_COMPLETE: with PEND_OFF = 0 a WAKING engine comes to ON and begins its work; with PEND_OFF = 1
it clears it and goes to DRAINING; a drained engine with REARM = 0 comes to OFF, and with REARM = 1 goes through a soft reset to WAKING. -/
def Obligations.EngineComesToRest : Prop :=
  (∀ (e : Nat) (pass : Bool) (s : State), s.initialises e = true → (isCipher e = true → (s.ex e).selfTested = true) →
    s.on e HDR.ENABLE = true →
    (s.on e HDR.PEND_OFF = false → ∃ u : State, exec (.engineInitComplete e pass) s = .next (u.begun e).goOn ∧ u.engState e = 2) ∧
    (s.on e HDR.PEND_OFF = true → ∃ u : State, exec (.engineInitComplete e pass) s = .next u.goOn ∧ u.engState e = 3 ∧ u.on e HDR.PEND_OFF = false ∧
        Keeps s u [] ([(e, HDR.STATE), (e, HDR.PEND_OFF)] ++ if isCipher e then [(e, CX.OWNER)] else []))) ∧
  (∀ (e : Nat) (s : State), present e = true → s.engState e = 3 → s.drained e = true →
    (s.on e HDR.REARM = false → ∃ u : State, exec (.engineDrainComplete e) s = .next u.goOn ∧ u.engState e = 0) ∧
    (s.on e HDR.REARM = true → ∃ u : State, exec (.engineDrainComplete e) s = .next u.goOn ∧ u.engState e = 1 ∧ u.on e HDR.SRST = true))

/-- The bit of ENG_FAULT that a cause shows in (R21). -/
def CauseShown (t : State) (e : Nat) : FaultCause → Prop
  | .eccUe => t.on e HDR.ECC_UE = true
  | .eccTrend => t.on e HDR.ECC_TREND = true
  | .selftest => t.on e HDR.SELFTEST = true
  | .wakeFail => t.on e HDR.WAKE_FAIL = true
  | .kindSpecific b => t.rf e HDR.KIND_FAULT &&& b.toNat = b.toNat

/-- R21, R27, R33, rows ENGINE_FAULT and ENGINE_WATCHDOG: an engine whose unit has no spare to take over becomes FAILED with its bit of ENG_FAULT, and
nothing that it was asked for stays pending; errors above the trend limit show and the engine works on. A logical lane and a logical cipher engine
fail over instead (see their own statements). -/
def Obligations.FaultMakesAnEngineFailed : Prop :=
  ∀ (e : Nat) (s : State), present e = true → s.sleeping e = false → s.engState e ≠ 5 →
    (∃ u : State, exec (.engineFault e .eccTrend) s = .next u ∧ CauseShown u e .eccTrend ∧ u.engState e = s.engState e ∧
      (isCipher e = false → Keeps s u [] [(e, HDR.ECC_TREND)]) ∧
      (isCipher e = true → min 0xFFFF (s.rf e HDR.WEAR + 1) ≤ u.rf e HDR.WEAR ∧ Keeps s u [.freeCtr] [(e, HDR.ECC_TREND), (e, HDR.WEAR)])) ∧
    (s.engState e ≠ 4 → isLane e = false → (isCipher e = false ∨ isSpareWin e = true) →
      (∀ c, c ≠ .eccTrend → causeOn e c = true →
        ∃ u : State, exec (.engineFault e c) s = .next (u.faultEnds e) ∧ u.engState e = 4 ∧ CauseShown u e c ∧ u.on e HDR.REARM = false ∧
          u.on e HDR.PEND_OFF = false) ∧
      (∃ u : State, exec (.engineWatchdog e) s = .next (u.faultEnds e) ∧ u.engState e = 4 ∧ u.on e HDR.WATCHDOG = true ∧
        u.on e HDR.REARM = false ∧ u.on e HDR.PEND_OFF = false))

/-! ### Register accesses (R9, R10, R17, R18) -/

/-- A word written field by field (R9): RW fields take the bits that they accept, RO and RC ones do not, a 1 clears a W1C and sets a W1S bit. -/
def WordWritten (s t : State) (e o v : Nat) : Prop :=
  ∀ f ∈ wordFlds e o,
    t.rf e f = match f.acc with
      | .rw | .wo => if inRange e f (bits v f.hi f.lo) && s.accepts e f then bits v f.hi f.lo else s.rf e f
      | .ro | .rc => s.rf e f
      | .w1c => (s.rf e f - (s.rf e f &&& bits v f.hi f.lo)) % 2 ^ f.width
      | .w1s => (s.rf e f ||| bits v f.hi f.lo) % 2 ^ f.width

/-- Whether the write of a word does no more than change its fields. -/
def plainWord (s : State) (e o : Nat) : Bool :=
  match kind e with
  | 0x01 | 0x62 | 0x91 => false
  | 0x10 => o ≠ LN.RETIRE_FOM.off || s.rf e LN.TREND = 0 && s.rf e HDR.WEAR = 0
  | 0x11 => o ≠ MAC.XON.off
  | 0x40 => o ≠ CX.BIND.off
  | 0x60 => o ≠ CLK.MODEL.off
  | 0x83 => o ≠ LOG.CURSOR.off
  | _ => true

/-- R9, row REGISTER_WRITE, on the words that have no effect beyond their fields: RW fields take the bits, RO and RC ones do not, a 1
clears a W1C and sets a W1S bit; every other field stands. -/
def Obligations.RegisterWriteFollowsAccess : Prop :=
  ∀ (loc v : Word) (s : State), locOff loc.toNat % 4 = 0 → 0x100 ≤ locOff loc.toNat →
    plainWord s (locEng loc.toNat) (locOff loc.toNat) = true → s.writable (locEng loc.toNat) = true →
    ∃ t, exec (.registerWrite loc v) s = .next t ∧
      Keeps s t [] ((wordFlds (locEng loc.toNat) (locOff loc.toNat)).map fun f => (locEng loc.toNat, f)) ∧
      WordWritten s t (locEng loc.toNat) (locOff loc.toNat) v.toNat

/-- R9, R10, row RC_REGISTER_READ, on the engines that latch nothing at a read: RC fields of the word return to their reset value, and nothing
else changes. -/
def Obligations.RegisterReadClearsReadToClear : Prop :=
  ∀ (loc : Word) (s : State), s.reaches (locEng loc.toNat) = true → locOff loc.toNat % 4 = 0 → isSpareWin (locEng loc.toNat) = false →
    kind (locEng loc.toNat) ∉ [0x02, 0x11, 0x40, 0x60, 0x83] →
    ∃ t, exec (.rcRegisterRead loc) s = .next t ∧
      Keeps s t [] (((wordFlds (locEng loc.toNat) (locOff loc.toNat)).filter fun f => f.acc = .rc).map fun f => (locEng loc.toNat, f)) ∧
      ∀ f ∈ wordFlds (locEng loc.toNat) (locOff loc.toNat), f.acc = .rc → t.rf (locEng loc.toNat) f = f.resetAt (locEng loc.toNat)

/-- R126, R250, R383, R404: the read of the low word of a wider count latches the rest; a count that clears on read is cleared. -/
def Obligations.LowWordReadsLatch : Prop :=
  (∀ (ch : Fin 4) (s : State), s.reaches (engFramer ch) = true →
    ∃ t, exec (.sfcLoRead ch) s = .next t ∧ t.rf (engFramer ch) FR.SFC_HI = (s.chn ch).sfc / 2 ^ 32 % 2 ^ 19 ∧
      Keeps s t [] [(engFramer ch, FR.SFC_HI)]) ∧
  (∀ s : State, s.reaches engClk = true →
    (∃ t, exec .nowShortRead s = .next t ∧ t.clk = { s.clk with latchNs := s.nowNsPart, latchSec := s.nowSec % 2 ^ 48 } ∧ Keeps s t [.clk] []) ∧
    (∃ t, exec .countLoRead s = .next t ∧
      t.clk = { s.clk with latchMid := s.clk.count / 2 ^ 32 % 2 ^ 32, latchHi := s.clk.count / 2 ^ 64 % 2 ^ 32 } ∧ Keeps s t [.clk] [])) ∧
  (∀ (unit : Fin 10) (s : State), s.reaches (engCipher unit) = true → (isSpareWin (engCipher unit) = false ∨ s.rf (engCipher unit) HDR.LUNIT = 0xFF) →
    ∃ t, exec (.cxBlocksLoRead unit) s = .next t ∧ t.rf (engCipher unit) CX.CX_BLOCKS_HI = s.cry.blocks.get unit 0 / 2 ^ 32 % 2 ^ 32 ∧
      t.cry.blocks.get unit 0 = 0 ∧ Keeps s t [.cry] [(engCipher unit, CX.CX_BLOCKS_HI), (engCipher unit, CX.CX_BLOCKS_LO)]) ∧
  (∀ (lane : Fin 68) (reg : Fin 32) (s : State), s.reaches (engMac lane) = true → (lane.val < 64 ∨ s.rf (engMac lane) HDR.LUNIT = 0xFF) →
    ∃ t, exec (.macCntLoRead lane reg) s = .next t ∧ t.rf (engMac lane) (MAC.CNT_HI.idx reg) = (s.mac lane).counts.get reg 0 / 2 ^ 32 % 2 ^ 32 ∧
      (t.mac lane).counts.get reg 0 = 0 ∧ Keeps s t [.client] [(engMac lane, MAC.CNT_HI.idx reg), (engMac lane, MAC.CNT_LO.idx reg)])

/-! ### The downstream physical layer (R90, R91, R106) -/

/-- R90, R126, row PSYNC_RECEIVED: hunt, pre-sync and sync by the table; a frame in sync whose operation control fails its HEC counts in FR_HEC_ERR. What
follows a change of sync (R91, R94) goes on behind it. -/
def Obligations.FramerFollowsPsync : Prop :=
  ∀ (ch : Fin 4) (matched hecOk ocOk : Bool) (sfc : BitVec 51) (s : State), s.works (engFramer ch) = true → s.on (engFramer ch) FR.LOS = false →
    (s.rf (engFramer ch) FR.SYNC = 0 → matched = true →
      ∃ t, exec (.psyncReceived ch matched ⟨hecOk, ocOk⟩ sfc) s = .next t ∧ t.rf (engFramer ch) FR.SYNC = 1 ∧
        Keeps (s.newFrame ch) t [] [(engFramer ch, FR.SYNC)]) ∧
    (s.rf (engFramer ch) FR.SYNC = 1 → matched = false →
      ∃ t, exec (.psyncReceived ch matched ⟨hecOk, ocOk⟩ sfc) s = .next t ∧ t.rf (engFramer ch) FR.SYNC = 0 ∧
        Keeps (s.newFrame ch) t [] [(engFramer ch, FR.SYNC)]) ∧
    (s.rf (engFramer ch) FR.SYNC = 1 → matched = true → hecOk = true →
      ∃ u v : State, exec (.psyncReceived ch matched ⟨hecOk, ocOk⟩ sfc) s = .next v ∧ u.rf (engFramer ch) FR.SYNC = 2 ∧
        (u.chn ch).sfc = sfc.toNat ∧ u.rf (engFramer ch) FR.SFC_LO = sfc.toNat % 2 ^ 32 ∧ u.on (engFramer ch) FR.LODS = false ∧
        v = if ocOk then (u.inSync ch).syncParked ch else ((u.inSync ch).syncParked ch).bump (engFramer ch) FR.FR_HEC_ERR) ∧
    (s.rf (engFramer ch) FR.SYNC = 2 → matched = true → hecOk = true → (∀ v ∈ s.vtsOn ch, (s.vt v).disable = none) →
      ∃ t, exec (.psyncReceived ch matched ⟨hecOk, ocOk⟩ sfc) s = .next t ∧ (t.chn ch).sfc = sfc.toNat ∧ (t.chn ch).misses = 0 ∧
        t.rf (engFramer ch) FR.SFC_LO = sfc.toNat % 2 ^ 32 ∧ (ocOk = false → Counts s t (engFramer ch) FR.FR_HEC_ERR 1) ∧
        Keeps s t [.pon] ((engFramer ch, FR.SFC_LO) :: if ocOk then [] else [(engFramer ch, FR.FR_HEC_ERR)])) ∧
    (s.rf (engFramer ch) FR.SYNC = 2 → matched = false → (∀ v ∈ s.vtsOn ch, (s.vt v).disable = none) → (s.chn ch).misses < 3 →
      ∃ t, exec (.psyncReceived ch matched ⟨hecOk, ocOk⟩ sfc) s = .next t ∧ (t.chn ch).misses = (s.chn ch).misses + 1 ∧
        Counts s t (engFramer ch) FR.FR_PSYNC_ERR 1 ∧ Keeps s t [.pon] [(engFramer ch, FR.FR_PSYNC_ERR)]) ∧
    (s.rf (engFramer ch) FR.SYNC = 2 → matched = false → (∀ v ∈ s.vtsOn ch, (s.vt v).disable = none) → (s.chn ch).misses = 3 →
      ∃ u : State, exec (.psyncReceived ch matched ⟨hecOk, ocOk⟩ sfc) s = .next ((u.lostSync ch).dropPartials ch) ∧ u.rf (engFramer ch) FR.SYNC = 0 ∧
        u.on (engFramer ch) FR.LODS = true ∧ Counts s u (engFramer ch) FR.FR_LODS_CNT 1)

/-- R91, rows PON_LOS_DECLARE and PON_LOS_CLEAR: LOS is set with LOS_SEEN, sync is lost (R90) and what that ends follows; LOS clears, and
a terminal that came to O5 meanwhile goes to O6. Each raises CHANNEL_ALARM with bit 0 changed. -/
def Obligations.LosIsDeclaredAndCleared : Prop :=
  ∀ (ch : Fin 4) (s : State),
    (∀ signal lock : Bool, s.asleep (4 + ch) = false → (signal && lock) = false → s.on (engFramer ch) FR.LOS = false →
      ∃ u : State, exec (.ponLosDeclare ch signal lock) s = .next (((u.alarmCue ch 1).lostSync ch).dropPartials ch) ∧
        u.on (engFramer ch) FR.LOS = true ∧ u.rf (engFramer ch) FR.SYNC = 0 ∧ u.on (engPmd ch) PMD.LOS_SEEN = true ∧
        u.rf (engPmd ch) PMD.SD = bit signal ∧ u.rf (engPmd ch) PMD.CDR_LOCK = bit lock ∧
        Keeps s u [.pon] [(engFramer ch, FR.LOS), (engFramer ch, FR.SYNC), (engPmd ch, PMD.LOS_SEEN), (engPmd ch, PMD.SD), (engPmd ch, PMD.CDR_LOCK)]) ∧
    (s.works (engPmd ch) = true → s.on (engFramer ch) FR.LOS = true →
      ∃ u : State, exec (.ponLosClear ch) s = .next ((u.alarmCue ch 1).allToO6 ch) ∧ u.on (engFramer ch) FR.LOS = false ∧ u.on (engPmd ch) PMD.SD = true ∧
        u.on (engPmd ch) PMD.CDR_LOCK = true ∧
        Keeps s u [] [(engFramer ch, FR.LOS), (engPmd ch, PMD.SD), (engPmd ch, PMD.CDR_LOCK)])

/-- R106, row FEC_CODEWORD: a corrected codeword counts with its bits; one that cannot be corrected counts and costs the channel its partial SDUs. -/
def Obligations.FecCountsCodewords : Prop :=
  ∀ (ch : Fin 4) (corrected : Nat) (s : State), s.works (engFec ch) = true →
    (0 < corrected → ∃ t, exec (.fecCodeword ch corrected false) s = .next t ∧ Counts s t (engFec ch) FEC.FEC_CW 1 ∧
      Counts s t (engFec ch) FEC.FEC_CORR_CW 1 ∧ Counts s t (engFec ch) FEC.FEC_CORR_BITS corrected ∧
      Keeps s t [] [(engFec ch, FEC.FEC_CW), (engFec ch, FEC.FEC_CORR_CW), (engFec ch, FEC.FEC_CORR_BITS)]) ∧
    (∃ t, exec (.fecCodeword ch corrected true) s = .next t ∧ Counts s t (engFec ch) FEC.FEC_CW 1 ∧ Counts s t (engFec ch) FEC.FEC_UNCORR 1 ∧
      (t.chn ch).partials = [] ∧ Counts s t (engXgem ch) XG.XG_REASM_ERR (s.chn ch).partials.length ∧
      Keeps s t [.pon] [(engFec ch, FEC.FEC_CW), (engFec ch, FEC.FEC_UNCORR), (engXgem ch, XG.XG_REASM_ERR)])

/-! ### PLOAM (R100 to R103, R110 to R115) -/

/-- R88, R100, row PLOAM_RX: a message for nobody is dropped uncounted; one whose MIC fails counts in PL_MIC_ERR; another is kept and counts in PL_RX,
or finds the queue of 64 full and counts in PL_DROP as well. -/
def Obligations.PloamReceptionKeepsOrCounts : Prop :=
  ∀ (ch : Fin 4) (m : PloamMsg) (s : State), s.chWorks ch = true → (s.chn ch).watch ≠ .sleep →
    (m.onuId ≠ 0x3FF → s.targets ch m = [] → exec (.ploamRx ch m) s = .next s) ∧
    ((m.onuId = 0x3FF ∨ s.targets ch m ≠ []) →
      ((Config.cmac (be 16 (s.ploamKey ch m).toNat) m.bytes).extractLsb' 64 64 ≠ m.mic →
        ∃ t, exec (.ploamRx ch m) s = .next t ∧ Counts s t (engPloam ch) PL.PL_MIC_ERR 1 ∧ Keeps s t [] [(engPloam ch, PL.PL_MIC_ERR)]) ∧
      ((Config.cmac (be 16 (s.ploamKey ch m).toNat) m.bytes).extractLsb' 64 64 = m.mic → (s.chn ch).rxq.length < 64 →
        ∃ t, exec (.ploamRx ch m) s = .next t ∧ (t.chn ch).rxq = (s.chn ch).rxq ++ [(s.frameNow, m)] ∧ Counts s t (engPloam ch) PL.PL_RX 1 ∧
          Keeps s t [.pon] [(engPloam ch, PL.PL_RX)]) ∧
      ((Config.cmac (be 16 (s.ploamKey ch m).toNat) m.bytes).extractLsb' 64 64 = m.mic → 64 ≤ (s.chn ch).rxq.length →
        ∃ t, exec (.ploamRx ch m) s = .next t ∧ Counts s t (engPloam ch) PL.PL_RX 1 ∧ Counts s t (engPloam ch) PL.PL_DROP 1 ∧
          Keeps s t [] [(engPloam ch, PL.PL_RX), (engPloam ch, PL.PL_DROP)]))

/-- R94, R97, R98, R129: Burst_Profile is held; Assign_ONU-ID takes the terminal that has the serial number from
O2-3 to O4 with its ONU-ID and default entries, and an ONU-ID in use is counted and logged; Ranging_Time outside its range is refused, and within
it sets EQD and takes a terminal in O4 to O5. -/
def Obligations.ActivationMessagesMoveTerminals : Prop :=
  ∀ (ch : Fin 4) (m : PloamMsg) (s : State), Heads s ch m →
    (∀ (i : Fin 4) (r : Fin 3) (shape : List Byte), m.body = .burstProfile i r shape →
      ∃ u : State, exec (.burstProfile ch) s = .next (u.settle ch) ∧ u.on (engFramer ch) FR.PROFILE = true ∧
        (u.chn ch).profiles.look i = some { rate := r, shape := shape } ∧ Keeps s u [.pon] [(engFramer ch, FR.PROFILE)]) ∧
    (∀ serial : BitVec 64, m.body = .assignOnuId serial 0x3FF → exec (.assignOnuId ch) s = .next (s.popped ch)) ∧
    (∀ (serial : BitVec 64) (onu : BitVec 10) (v : Nat), m.body = .assignOnuId serial onu → onu ≠ 0x3FF →
      ((s.vtsOn ch).find? fun v => s.serial v = serial.toNat) = some v → (s.vt v).state = 2 →
      ((∃ w ∈ s.vtsOn ch, w ≠ v ∧ (s.vt w).onuId = some onu.toNat) →
        ∃ t, exec (.assignOnuId ch) s = .next t ∧ Counts s t (engPloam ch) PL.PL_DROP 1 ∧ t.vt v = s.vt v ∧
          t.log = ((s.popped ch).logEng 0x0008 (engPloam ch) ([byte ch, 0] ++ le 2 onu.toNat)).log ∧ t.pon = (s.popped ch).pon ∧
          Keeps s t [.pon, .log] [(engPloam ch, PL.PL_DROP)]) ∧
      ((∀ w ∈ s.vtsOn ch, w ≠ v → (s.vt w).onuId ≠ some onu.toNat) →
        ∃ t, exec (.assignOnuId ch) s = .next t ∧ (t.vt v).state = 4 ∧ (t.vt v).onuId = some onu.toNat ∧
          (t.vt v).to1 = some (s.rf (engPloam ch) PL.TO1) ∧ t.pon.allocs.has (allocKey ch onu.toNat) = true ∧
          t.pon.ports.has (portKey ch onu.toNat) = true ∧
          Keeps s t [.pon, .chan, .pages] [cueFld, (engFramer (s.vt v).channel, FR.EQD), (engFramer (s.vt v).channel, FR.EQD_VALID)])) ∧
    (∀ (rel : Bool) (d : Int), m.body = .rangingTime rel d → s.targets ch m ≠ [] →
      ((if rel then s.rf (engFramer ch) FR.EQD + d else d) < 0 ∨ (if rel then s.rf (engFramer ch) FR.EQD + d else d) > 0x1FFFFFF →
        exec (.rangingTime ch) s = .next ((s.popped ch).ackAll ch m .parameterError))) ∧
    (∀ (d : Nat) (v : Nat), m.body = .rangingTime false d → d ≤ 0x1FFFFFF → s.targets ch m = [v] → (s.vt v).state = 4 → (s.vt v).channel = ch →
      v ∈ s.vtsOn ch →
      ∃ t, exec (.rangingTime ch) s = .next t ∧ (t.vt v).state = 5 ∧ (t.vt v).to1 = none ∧ t.rf (engFramer ch) FR.EQD = d ∧
        t.on (engFramer ch) FR.EQD_VALID = true)

/-- R94: Deactivate_ONU-ID returns a terminal in O4 or O5 to O1 without ONU-ID, Alloc-IDs, Port-IDs and keys; Disable_Serial_Number takes one from O1 to
O6 to O7 without ONU-ID (its entries and keys stay: log entry 129); an enable that names the serial number, or all, brings O7 back to O1. -/
def Obligations.DeactivationReleasesTerminals : Prop :=
  ∀ (ch : Fin 4) (m : PloamMsg) (s : State) (v : Nat), Heads s ch m →
    (m.body = .deactivateOnuId → s.targets ch m = [v] → ((s.vt v).state = 4 ∨ (s.vt v).state = 5) →
      ∃ u : State, exec (.deactivateOnuId ch) s = .next (u.settle ch) ∧ (u.vt v).state = 1 ∧ (u.vt v).onuId = none ∧
        (∀ a ∈ u.pon.allocs, a.2.vt ≠ v) ∧ (∀ p ∈ u.pon.ports, p.2.vt ≠ v) ∧ ∀ k ∈ u.pon.keys, k.1 / 4 ≠ v) ∧
    (∀ serial : BitVec 64, m.body = .disableSerial serial → 1 ≤ (s.vt v).state → (s.vt v).state ≤ 6 →
      ((s.vtsOn ch).find? fun v => s.serial v = serial.toNat && (s.vt v).enabled) = some v →
      ∃ t, exec (.disableSerialNumber ch) s = .next t ∧ (t.vt v).state = 7 ∧ (t.vt v).onuId = none ∧
        t.pon.allocs = s.pon.allocs ∧ t.pon.ports = s.pon.ports ∧ t.pon.keys = s.pon.keys) ∧
    (∀ serial : BitVec 64, m.body = .enableSerial serial → ((s.vtsOn ch).filter fun v => s.serial v = serial.toNat) = [v] → (s.vt v).state = 7 →
      ∃ u : State, exec (.disableSerialNumber ch) s = .next (u.settle ch) ∧ (u.vt v).state = 1) ∧
    (m.body = .enableAll → s.vtsOn ch = [v] → (s.vt v).state = 7 →
      ∃ u : State, exec (.disableSerialNumber ch) s = .next (u.settle ch) ∧ (u.vt v).state = 1)

/-- The counters of upstream PLOAM messages of a channel's terminals that find no room (R101). -/
def ploamDrops (s : State) (ch : Nat) : List (Nat × Fld) := (s.vtsOn ch).map fun v => (engPloam (s.vt v).channel, PL.PL_DROP)

/-- R102, R103: Tuning_Control, Adjust_Tx_Wavelength and unknown Fennath sub-types are answered Parameter Error and tune nothing, unlisted types that
call for an acknowledgement Unknown Message Type, and others count in PL_DROP; Request_Registration is owed by each terminal it addresses. -/
def Obligations.OtherMessagesAreAnswered : Prop :=
  ∀ (ch : Fin 4) (m : PloamMsg) (s : State), Heads s ch m →
    (m.body = .tuningControl → exec (.tuningControl ch) s = .next ((s.popped ch).ackAll ch m .parameterError)) ∧
    (m.body = .adjustTxWavelength → exec (.adjustTxWavelength ch) s = .next ((s.popped ch).ackAll ch m .parameterError)) ∧
    (m.body = .unlisted true → exec (.ploamUnknownMessage ch) s = .next ((s.popped ch).ackAll ch m .unknownType)) ∧
    (m.body = .unlisted false → ∃ t, exec (.ploamUnknownMessage ch) s = .next t ∧ Counts s t (engPloam ch) PL.PL_DROP 1 ∧
      Keeps s t [.pon] [(engPloam ch, PL.PL_DROP)]) ∧
    (∀ c, m.body = .fennath c → isFennath c = true → subType c ∉ [1, 3, 0x10, 0x13] →
      exec (.ploamUnknownMessage ch) s = .next ((s.popped ch).ackAll ch m .parameterError)) ∧
    (m.body = .requestRegistration → ∃ t, exec (.requestRegistration ch) s = .next t ∧ (∀ v ∈ s.targets ch m, (t.vt v).wantReg = true) ∧
      Keeps s t [.pon] (ploamDrops s ch))

/-- R109 to R112: Assign_Alloc-ID and PORT_ASSIGN to a terminal add an entry that the channel does not hold while explicit entries are left, and
otherwise refuse with Parameter Error and PON_TABLE_FULL; a deallocation frees the entry at once. -/
def Obligations.TablesFillAndFree : Prop :=
  ∀ (ch : Fin 4) (m : PloamMsg) (s : State) (v : Nat), Heads s ch m → s.targets ch m = [v] →
    (∀ a : BitVec 14, m.body = .assignAllocId a true → s.pon.allocs.look (allocKey ch a.toNat) = none →
      (s.allocExplicit < 960 → ∃ u : State, exec (.assignAllocId ch) s = .next (u.ackFrom v m .ok) ∧
        u.pon.allocs.look (allocKey ch a.toNat) = some { vt := v, dflt := false } ∧ Keeps s u [.pon] []) ∧
      (960 ≤ s.allocExplicit → exec (.assignAllocId ch) s = .next (((s.popped ch).ackFrom v m .parameterError).tableFull 0 v 0 a.toNat))) ∧
    (∀ (a : BitVec 14) (x : Alloc), m.body = .assignAllocId a true → s.pon.allocs.look (allocKey ch a.toNat) = some x → x.vt ≠ v →
      exec (.assignAllocId ch) s = .next ((s.popped ch).ackFrom v m .parameterError)) ∧
    (∀ (a : BitVec 14) (x : Alloc), m.body = .assignAllocId a false → s.pon.allocs.look (allocKey ch a.toNat) = some x → x.vt = v →
      ∃ u : State, exec (.assignAllocId ch) s = .next (u.ackFrom v m .ok) ∧ u.pon.allocs.look (allocKey ch a.toNat) = none ∧
        Keeps s u [.pon, .pages] []) ∧
    (∀ c, m.body = .fennath c → isFennath c = true → subType c = 1 → c.getD 4 0 = 1 → (c.getD 7 0).toNat ≤ 1 → beVal (part c 5 2) ≠ 0xFFFF →
      s.pon.ports.look (portKey ch (beVal (part c 5 2))) = none →
      (s.portExplicit < 8128 → ∃ u : State, exec (.portAssign ch) s = .next (u.ackFrom v m .ok) ∧
        u.pon.ports.look (portKey ch (beVal (part c 5 2))) = some { vt := v, kind := 1, keying := (c.getD 7 0).toNat } ∧ Keeps s u [.pon] []) ∧
      (8128 ≤ s.portExplicit →
        exec (.portAssign ch) s = .next (((s.popped ch).ackFrom v m .parameterError).tableFull 1 v 0 (beVal (part c 5 2)))))

/-- R115, R125, R273, rows KEY_CONTROL, SLEEP_ALLOW, PARK_ACK: a new key is asked of the DRBG, and until its output is released the keys stand; with the
DRBG stopped the keys stand and the request is counted; a confirmed switch drops the other key. Sleep_Allow is noted; PARK_ACK starts the hold of a park
(R123). -/
def Obligations.KeySleepAndParkMessages : Prop :=
  ∀ (ch : Fin 4) (m : PloamMsg) (s : State), Heads s ch m →
    (∀ (i : Fin 2) (v : Nat), s.targets ch m = [v] →
      (m.body = .keyControl true i → s.rf engDrbg RNG.STATE = 2 →
        ∃ t, exec (.keyControl ch) s = .next t ∧ t.pon = (s.popped ch).pon ∧ (∃ x ∈ t.cry.rng.inner, x.use = .ponKey ch v (i.val + 1)) ∧
          Keeps s t [.pon, .cry, .chan, .freeCtr] [(engDrbg, RNG.RESEEDS)]) ∧
      (m.body = .keyControl true i → (s.rf engDrbg RNG.STATE = 0 ∨ s.rf engDrbg RNG.STATE = 3) →
        ∃ t, exec (.keyControl ch) s = .next t ∧ t.pon.keys = s.pon.keys ∧ Counts s t (engPloam ch) PL.PL_KEY_FAIL 1 ∧
          Keeps s t [.pon, .chan, .log] [cueFld, (engPloam ch, PL.PL_KEY_FAIL)]) ∧
      (m.body = .keyControl false i → s.pon.keys.has (uniKey v (i.val + 1)) = true →
        ∃ t, exec (.keyControl ch) s = .next t ∧ (t.vt v).curKey = i.val + 1 ∧ t.pon.keys.look (uniKey v (2 - i.val)) = none ∧ Keeps s t [.pon] [])) ∧
    (m.body = .sleepAllow true →
      ∃ t, exec (.sleepAllow ch) s = .next t ∧ (∀ v ∈ s.targets ch m, (t.vt v).sleepOk = true) ∧ Keeps s t [.pon] []) ∧
    (m.body = .sleepAllow false →
      ∃ u : State, exec (.sleepAllow ch) s = .next (u.wsEnd ch) ∧ (∀ v ∈ s.targets ch m, (u.vt v).sleepOk = false) ∧ Keeps s u [.pon] []) ∧
    (∀ c, m.body = .fennath c → isFennath c = true → subType c = 3 → (c.getD 4 0).toNat < 4 → c.getD 5 0 = 1 →
      (s.chn (c.getD 4 0).toNat).park = .parkAck →
      ∃ t, exec (.parkAck ch) s = .next t ∧ (t.chn (c.getD 4 0).toNat).park = .parkHold ∧ Keeps s t [.pon] [])

/-- R104, R107, R108, R114, rows OMCI_MESSAGE and XGEM_FRAME_RX: an OMCI message that verifies is raised without its MIC; frames without an entry,
with a key that may not be used, or with a bad header are counted and discarded, the last with the rest of its downstream frame; a clear SDU goes where its
Port-ID says, and one under a key is deciphered first. -/
def Obligations.DownstreamFramesAreSorted : Prop :=
  ∀ (ch : Fin 4) (s : State),
    (∀ (v : Nat) (b : List Byte) (rest : List (Nat × List Byte)), (s.chn ch).omciIn = (v, b) :: rest → s.fwStops = false →
      5 ≤ b.length → b.length ≤ 2048 →
      (beVal (b.drop (b.length - 4)) =
          ((Config.cmac (be 16 (Config.ponDerive (s.pon.msk.look v) 1).toNat) (b.take (b.length - 4))).extractLsb' 96 32).toNat →
        ∃ u : State, exec (.omciMessage ch) s = .next (u.cue 0x2002 ([byte v, byte ch, 0, 0] ++ b.take (b.length - 4))) ∧
          (u.chn ch).omciIn = rest ∧ Keeps s u [.pon] []) ∧
      (beVal (b.drop (b.length - 4)) ≠
          ((Config.cmac (be 16 (Config.ponDerive (s.pon.msk.look v) 1).toNat) (b.take (b.length - 4))).extractLsb' 96 32).toNat →
        ∃ t, exec (.omciMessage ch) s = .next t ∧ (t.chn ch).omciIn = rest ∧ Counts s t (engPloam ch) PL.PL_MIC_ERR 1 ∧
          Keeps s t [.pon] [(engPloam ch, PL.PL_MIC_ERR)])) ∧
    (∀ x, (s.chn ch).rest = true → exec (.xgemFrameRx ch x) s = .next s) ∧
    (s.chWorks ch = true → s.rf (engFramer ch) FR.SYNC = 2 → (s.chn ch).watch = .active → (s.chn ch).rest = false →
      (∃ u : State, exec (.xgemFrameRx ch .badHeader) s = .next ((u.dropPartials ch).modCh ch fun c => { c with rest := true }) ∧
        Counts s u (engXgem ch) XG.XG_HEC_ERR 1 ∧ Keeps s u [] [(engXgem ch, XG.XG_HEC_ERR)]) ∧
      exec (.xgemFrameRx ch .idle) s = .next s ∧
      ∀ (port : BitVec 16) (key : Fin 4) (last full : Bool) (payload counter : List Byte),
        (s.pon.ports.look (portKey ch port.toNat) = none →
          ∃ t, exec (.xgemFrameRx ch (.frame port key last payload counter full)) s = .next t ∧ Counts s t (engXgem ch) XG.XG_UNKNOWN 1 ∧
            Keeps s t [] [(engXgem ch, XG.XG_UNKNOWN)]) ∧
        (∀ p, s.pon.ports.look (portKey ch port.toNat) = some p →
          (key = 3 ∨ key ≠ 0 ∧ (full = true ∨ s.ponEngine ch = none ∨ s.on (engXgem ch) XG.DEC_EN = false ∨ s.dnKey ch p key = none)) →
          (s.chn ch).partials.has port.toNat = false →
          ∃ t, exec (.xgemFrameRx ch (.frame port key last payload counter full)) s = .next t ∧ Counts s t (engXgem ch) XG.XG_KEY_MISS 1 ∧
            Keeps s t [] [(engXgem ch, XG.XG_KEY_MISS)]) ∧
        (∀ p, s.pon.ports.look (portKey ch port.toNat) = some p → key = 0 → last = true → (s.chn ch).partials.look port.toNat = none →
          payload.length ≤ 16384 →
          (p.kind = 3 → ∃ t, exec (.xgemFrameRx ch (.frame port key last payload counter full)) s = .next t ∧
            (t.chn ch).omciIn = (s.chn ch).omciIn ++ [(p.vt, payload)] ∧ Counts s t (engXgem ch) XG.XG_FRAMES 1 ∧
            Keeps s t [.pon] [(engXgem ch, XG.XG_FRAMES)]) ∧
          (p.kind ≠ 3 → s.userShut ch = true → ∃ t, exec (.xgemFrameRx ch (.frame port key last payload counter full)) s = .next t ∧
            Counts s t (engXgem ch) XG.XG_FRAMES 1 ∧ Counts s t engBond BD.BU_FENCED 1 ∧
            Keeps s t [.pon] [(engXgem ch, XG.XG_FRAMES), (engBond, BD.BU_FENCED)]) ∧
          (p.kind = 1 → s.userShut ch = false → ∃ t, exec (.xgemFrameRx ch (.frame port key last payload counter full)) s = .next t ∧
            t.pon.bondIn = s.pon.bondIn ++ [{ vt := p.vt, bytes := payload }] ∧ Counts s t (engXgem ch) XG.XG_FRAMES 1 ∧
            Keeps s t [.pon] [(engXgem ch, XG.XG_FRAMES)]) ∧
          (p.kind ≠ 1 → p.kind ≠ 3 → s.userShut ch = false →
            ∃ u : State, exec (.xgemFrameRx ch (.frame port key last payload counter full)) s = .next (u.toOpen ch p.vt payload) ∧
              Counts s u (engXgem ch) XG.XG_FRAMES 1 ∧ Keeps s u [.pon] [(engXgem ch, XG.XG_FRAMES)])) ∧
        (∀ p k, s.pon.ports.look (portKey ch port.toNat) = some p → key ≠ 0 → key ≠ 3 → full = false → (s.ponEngine ch).isSome = true →
          s.on (engXgem ch) XG.DEC_EN = true → s.dnKey ch p key = some k → p.kind = 3 → last = true → (s.chn ch).partials.look port.toNat = none →
          (crypt (be 16 k.toNat) counter payload).length ≤ 16384 →
          ∃ t, exec (.xgemFrameRx ch (.frame port key last payload counter full)) s = .next t ∧
            (t.chn ch).omciIn = (s.chn ch).omciIn ++ [(p.vt, crypt (be 16 k.toNat) counter payload)] ∧ Counts s t (engXgem ch) XG.XG_FRAMES 1 ∧
            Keeps s t [.pon, .cry] [(engXgem ch, XG.XG_FRAMES)]))

/-- R117 to R120, rows BOND_FRAGMENT_RX, BOND_GAP_TIMER_EXPIRY, BOND_IDLE_FLUSH: invalid, late and duplicate fragments are counted and discarded;
the first fragment of a frame sets NEXT; at the window's end what stands before the next frame goes, counted by its SOF fragments; a flush empties
the group. -/
def Obligations.ReassemblyFollowsItsRules : Prop :=
  ∀ s : State,
    (∀ (x : FragIn) (xs : List FragIn), s.works engBond = true → s.pon.bondIn = x :: xs →
      (parseFrag x.bytes = none →
        ∃ t, exec .bondFragmentRx s = .next t ∧ t.pon.bondIn = xs ∧ Counts s t engBond BD.BD_BAD 1 ∧ Keeps s t [.pon] [(engBond, BD.BD_BAD)]) ∧
      (∀ (gi : Nat) (f : DnFrag), parseFrag x.bytes = some (gi, f) → s.pon.groups.look gi = none →
        ∃ t, exec .bondFragmentRx s = .next t ∧ t.pon.bondIn = xs ∧ Counts s t engBond BD.BD_BAD 1 ∧ Keeps s t [.pon] [(engBond, BD.BD_BAD)]) ∧
      (∀ (gi : Nat) (f : DnFrag) (g : Group), parseFrag x.bytes = some (gi, f) → s.pon.groups.look gi = some g →
        (some x.vt ∉ g.members → ∃ t, exec .bondFragmentRx s = .next t ∧ t.pon.bondIn = xs ∧ Counts s t engBond BD.BD_BAD 1 ∧
          Keeps s t [.pon] [(engBond, BD.BD_BAD)]) ∧
        (some x.vt ∈ g.members → (∃ n, g.next = some n ∧ 2 ^ 23 ≤ bseqDist f.bseq n) ∨ g.next = none ∧ f.sof = false →
          ∃ t, exec .bondFragmentRx s = .next t ∧ t.pon.bondIn = xs ∧ t.pon.groups = s.pon.groups ∧ Counts s t engBond BD.BD_LATE 1 ∧
            Keeps s t [.pon] [(engBond, BD.BD_LATE)]) ∧
        (some x.vt ∈ g.members → (∃ n, g.next = some n ∧ bseqDist f.bseq n < 2 ^ 23) → (∃ h ∈ g.held, h.bseq = f.bseq) →
          ∃ t, exec .bondFragmentRx s = .next t ∧ t.pon.groups = s.pon.groups ∧ Counts s t engBond BD.BD_DUP 1 ∧
            Keeps s t [.pon] [(engBond, BD.BD_DUP)]) ∧
        (some x.vt ∈ g.members → g.next = none → g.held = [] → f.sof = true → f.eof = false →
          ∀ pages s', s.allocPages false f.data = some (pages, s') →
            ∃ t, exec .bondFragmentRx s = .next t ∧ t.pon.bondIn = xs ∧
              t.pon.groups.look gi = some { g with next := some f.bseq, held := [{ f with pages := pages }], gap := false } ∧
              Keeps s t [.pon, .pages] []))) ∧
    (∀ (group : Fin 16) (g : Group), s.pon.groups.look group = some g →
      (∀ n, g.gap = true → g.next = some n →
        ∃ u : State, exec (.bondGapTimerExpiry group) s = .next ((u.deliver group g.held.length).fixGap group) ∧
          u.pon.groups.look group =
            some { g with held := (windowSplit n g.held).2, next := (windowSplit n g.held).2.head?.map (·.bseq) } ∧
          Counts s u engBond BD.BD_DROP_GAP (gapCount (windowSplit n g.held).1) ∧ Keeps s u [.pon, .pages] [(engBond, BD.BD_DROP_GAP)]) ∧
      (∃ t, exec (.bondIdleFlush group) s = .next t ∧ t.pon.groups.look group = some { g with held := [], next := none, gap := false } ∧
        Counts s t engBond BD.BD_DROP_GAP (if g.held = [] then 0 else gapCount g.held) ∧ Keeps s t [.pon, .pages] [(engBond, BD.BD_DROP_GAP)]))

/-- R94, R123, R124, R125: TO1 and TO2 release the ONU-ID; a park that is not answered is undone with TIMEOUT, one that has been held goes through
and its domain sleeps; the steps of watchful sleep. -/
def Obligations.PonTimersEndTheirWaits : Prop :=
  (∀ (vt : Fin 64) (s : State),
    ((s.vt vt).state = 4 → (s.vt vt).to1.isSome = true →
      ∃ u : State, exec (.to1Expiry vt) s = .next (u.settle (s.vt vt).channel) ∧ (u.vt vt).state = 2 ∧ (u.vt vt).onuId = none ∧
        ∀ a ∈ u.pon.allocs, a.2.vt ≠ vt) ∧
    ((s.vt vt).state = 6 → (s.vt vt).to2.isSome = true →
      ∃ u : State, exec (.to2Expiry vt) s = .next (u.settle (s.vt vt).channel) ∧ (u.vt vt).state = 1 ∧ (u.vt vt).onuId = none ∧
        ∀ a ∈ u.pon.allocs, a.2.vt ≠ vt)) ∧
  (∀ (ch : Fin 4) (s : State),
    ((s.chn ch).park = .parkAck →
      ∃ u : State, exec (.parkAckTimeout ch) s = .next (u.answer (fun w => w = .park ch) St.timeout) ∧ (u.chn ch).park = .none ∧ Keeps s u [.pon] []) ∧
    ((s.chn ch).park = .unparkAck ∨ (s.chn ch).park = .unparkWake → s.asleep (4 + ch) = false →
      ∃ u : State, exec (.parkAckTimeout ch) s = .next (u.answer (fun w => w = .park ch) St.timeout) ∧ (u.chn ch).parked = true ∧
        u.pon.vts = s.pon.vts ∧ bitOf (u.rf engWake WK.AWAKE) (4 + ch) = false) ∧
    ((s.chn ch).park = .anchorWake → exec (.parkAckTimeout ch) s = .next (s.answer (fun w => w = .park ch) St.timeout)) ∧
    ((s.chn ch).park = .parkHold → ∃ u : State,
      exec (.parkHoldExpiry ch) s = .next ((u.answer (fun w => w = .park ch) St.ok).parkedCue ch true) ∧ (u.chn ch).parked = true ∧
        (u.chn ch).park = .none) ∧
    (s.wsHolds ch = true → s.workFor ch = false →
      ((s.chn ch).watch = .active → ∃ t, exec (.wsIawareExpiry ch) s = .next t ∧ (t.chn ch).watch = .leaving ∧
        ∀ v ∈ s.liveVts ch, (s.vt v).queue.length < 8 → .sleepRequest false ∈ (t.vt v).queue) ∧
      ((s.chn ch).watch = .aware → ∃ t, exec (.wsIawareExpiry ch) s = .next t ∧ (t.chn ch).watch = .sleep ∧ t.pon.vts = s.pon.vts ∧ Keeps s t [.pon] []) ∧
      ((s.chn ch).watch = .leaving ∨ (s.chn ch).watch = .sleep → exec (.wsIawareExpiry ch) s = .next s)) ∧
    (s.wsHolds ch = false ∨ s.workFor ch = true → exec (.wsIawareExpiry ch) s = .next (s.wsEnd ch)) ∧
    ((s.chn ch).watch = .sleep →
      ∃ u : State, exec (.wsIlowpowerExpiry ch) s = .next (u.wsCheckCh ch) ∧ (u.chn ch).watch = .aware ∧ Keeps s u [.pon] []))

/-- Rows VT_CONFIG, VT_QUERY, OMCI_SEND, PORT_SET, BOND_GROUP_SET, CHANNEL_PARK (R94, R99, R105, R112, R116, R123): what each answers, and does. -/
def Obligations.TerminalCommandsAnswer : Prop :=
  ∀ (r : Req) (k : Taken) (s : State),
    (Ready vtConfigCmd r k s → fld r.payload 2 1 = 1 → (s.vt (fld r.payload 0 1)).disable = none →
      ((s.vt (fld r.payload 0 1)).enabled = false → (s.vt (fld r.payload 0 1)).state = 0 → s.rf (engFramer (fld r.payload 1 1)) FR.SYNC ≠ 2 →
        Answers (.vtConfig r) s k St.ok 0 (fun _ => []) fun _ t =>
          (t.vt (fld r.payload 0 1)).enabled = true ∧ (t.vt (fld r.payload 0 1)).state = 1 ∧
          (t.vt (fld r.payload 0 1)).channel = fld r.payload 1 1 ∧ (t.vt (fld r.payload 0 1)).regId = part r.payload 4 36) ∧
      ((s.vt (fld r.payload 0 1)).enabled = true → (s.vt (fld r.payload 0 1)).regId = part r.payload 4 36 →
        Answers (.vtConfig r) s k St.noChange 0 (fun _ => []) Unchanged)) ∧
    (Ready vtQueryCmd r k s → Answers (.vtQuery r) s k St.ok 0 (fun u => u.vtReport (fld r.payload 0 1)) Unchanged) ∧
    (Ready omciSendCmd r k s →
      ((s.vt (fld r.payload 0 1)).state ≠ 5 → Answers (.omciSend r) s k St.notReady 0 (fun _ => []) Unchanged) ∧
      ((s.vt (fld r.payload 0 1)).state = 5 → (s.vt (fld r.payload 0 1)).omci.length < 16 →
        Answers (.omciSend r) s k St.ok 0 (fun _ => []) fun s t =>
          (t.vt (fld r.payload 0 1)).omci = (s.vt (fld r.payload 0 1)).omci ++ [r.payload.drop 4] ∧
            Keeps s t [.pon] (ploamDrops s (s.vt (fld r.payload 0 1)).channel)) ∧
      ((s.vt (fld r.payload 0 1)).state = 5 → 16 ≤ (s.vt (fld r.payload 0 1)).omci.length →
        Answers (.omciSend r) s k St.busy 4 (fun _ => []) Unchanged)) ∧
    (Ready portSetCmd r k s → fld r.payload 0 1 = 1 → ((s.vt (fld r.payload 1 1)).state = 5 ∨ (s.vt (fld r.payload 1 1)).state = 8) →
      (s.pon.ports.look (portKey (s.vt (fld r.payload 1 1)).channel (fld r.payload 2 2)) = none → s.portExplicit < 8128 →
        Answers (.portSet r) s k St.ok 0 (fun _ => []) fun s t =>
          t.pon.ports.look (portKey (s.vt (fld r.payload 1 1)).channel (fld r.payload 2 2)) =
            some { vt := fld r.payload 1 1, kind := fld r.payload 4 1, keying := fld r.payload 5 1 } ∧ Keeps s t [.pon] []) ∧
      (∀ x, s.pon.ports.look (portKey (s.vt (fld r.payload 1 1)).channel (fld r.payload 2 2)) = some x → x.kind ≠ 3 →
        x ≠ { vt := fld r.payload 1 1, kind := fld r.payload 4 1, keying := fld r.payload 5 1 } →
        Answers (.portSet r) s k St.collision 0 (fun _ => []) Unchanged)) ∧
    (Ready bondGroupSetCmd r k s → groupChecks r.payload s = none →
      (((s.pon.groups.look (fld r.payload 0 1)).map (·.members)).getD [none, none, none, none] = groupMembers r.payload →
        Answers (.bondGroupSet r) s k St.noChange 0 (fun _ => []) Unchanged) ∧
      (s.pon.groups.look (fld r.payload 0 1) = none → (groupMembers r.payload).any (·.isSome) = true →
        (∀ v, some v ∈ groupMembers r.payload → s.groupOf v = none) →
        Answers (.bondGroupSet r) s k St.ok 0 (fun _ => []) fun s t =>
          (∃ g, t.pon.groups.look (fld r.payload 0 1) = some g ∧ g.members = groupMembers r.payload ∧ g.next = none ∧ g.bseq = 0 ∧
            (groupMembers r.payload).getD g.anchor none ≠ none ∧ ∀ n < g.anchor, (groupMembers r.payload).getD n none = none) ∧
          Keeps s t [.pon] [])) ∧
    (Ready channelParkCmd r k s → (s.chn (fld r.payload 0 1)).park = .none →
      ((s.chn (fld r.payload 0 1)).parked = decide (fld r.payload 1 1 = 1) →
        Answers (.channelPark r) s k St.noChange 0 (fun _ => []) Unchanged 0 State.resume) ∧
      (fld r.payload 1 1 = 1 → (s.chn (fld r.payload 0 1)).parked = false →
        (∃ v, s.anchorOf (fld r.payload 0 1) = some v ∧ (s.vt v).state = 5) →
        Waits (.channelPark r) s k (.park (fld r.payload 0 1)) (fun _ t => (t.chn (fld r.payload 0 1)).park = .parkAck) State.resume) ∧
      (fld r.payload 1 1 = 0 → (s.chn (fld r.payload 0 1)).parked = true →
        (∃ v, s.anchorOf (fld r.payload 0 1) = some v ∧ (s.vt v).state = 5) →
        Waits (.channelPark r) s k (.park (fld r.payload 0 1)) (fun s t =>
          (s.asleep (4 + fld r.payload 0 1) = true → bitOf (t.rf engWake WK.AWAKE) (4 + fld r.payload 0 1) = true) ∧
          (s.asleep (4 + fld r.payload 0 1) = false → s.rf (engFramer (fld r.payload 0 1)) FR.SYNC ≠ 2 →
            (t.chn (fld r.payload 0 1)).park = .unparkWake ∧ Keeps s t [.pon] [])) State.resume))

/-! ### PON, upstream (R129 to R143) -/

/-- R94, R130, R131, row BANDWIDTH_MAP: a grant to a terminal in the state that its kind needs becomes a burst at T(k) + 35 µs + StartTime and, but for
ranging, EQD; one with no usable profile, with TX_EN = 0 or for a terminal in another state is counted and ignored; of two that overlap the later
StartTime is dropped; a grant to nobody here changes nothing. -/
def Obligations.GrantsBecomeBursts : Prop :=
  ∀ (ch : Fin 4) (arrival v : Nat) (g : Grant) (s : State), s.chWorks ch = true → s.rf (engFramer ch) FR.SYNC = 2 →
    (s.chn ch).watch = .active →
    (s.grantVts ch g = [] → exec (.bandwidthMap ch arrival [g]) s = .next s) ∧
    (s.grantVts ch g = [v] → g.allocs.length ≤ 64 →
      (s.profileOk ch g.profile.val = true → s.txOn ch = true → (s.chn ch).bursts = [] →
        (∀ o, g.kind = .normal o → (s.vt v).state = 5 →
          ∃ t, exec (.bandwidthMap ch arrival [g]) s = .next t ∧
            (t.chn ch).bursts =
              [{ vt := v, grant := g, sfc := (s.chn ch).sfc, start := arrival + 1741824 + s.rf (engFramer ch) FR.EQD + g.start }] ∧
            Counts s t engBond (BD.US_GRANT_DROP.idx ch) 0 ∧ Keeps s t [.pon] [(engBond, BD.US_GRANT_DROP.idx ch)]) ∧
        (∀ o, g.kind = .ranging o → (s.vt v).state = 4 →
          ∃ t, exec (.bandwidthMap ch arrival [g]) s = .next t ∧
            (t.chn ch).bursts =
              [{ vt := v, grant := g, sfc := (s.chn ch).sfc, start := arrival + 1741824 + Config.preAssignedDelay + g.start }] ∧
            Keeps s t [.pon] [(engBond, BD.US_GRANT_DROP.idx ch)]) ∧
        (g.kind = .serialNumber → (s.vt v).state = 2 →
          ∃ t, exec (.bandwidthMap ch arrival [g]) s = .next t ∧
            (t.chn ch).bursts =
              [{ vt := v, grant := g, sfc := (s.chn ch).sfc, delay := s.snDelay v,
                 start := arrival + 1741824 + s.rf (engFramer ch) FR.EQD + g.start + s.snDelay v }] ∧
            (t.vt v).draws = (s.vt v).draws + 1 ∧ Keeps s t [.pon] [(engBond, BD.US_GRANT_DROP.idx ch)])) ∧
      (s.profileOk ch g.profile.val = false ∨ s.txOn ch = false ∨ (s.vt v).state ≠ g.kind.state →
        ∃ t, exec (.bandwidthMap ch arrival [g]) s = .next t ∧ t.pon = s.pon ∧ Counts s t engBond (BD.US_GRANT_DROP.idx ch) 1 ∧
          Keeps s t [] [(engBond, BD.US_GRANT_DROP.idx ch)]) ∧
      (∀ o x, g.kind = .normal o → s.profileOk ch g.profile.val = true → s.txOn ch = true → (s.vt v).state = 5 → (s.chn ch).bursts = [x] →
        x.committed = false → s.overlap ch x (s.burstOf ch arrival v g) = true →
        (x.start < (s.burstOf ch arrival v g).start →
          ∃ t, exec (.bandwidthMap ch arrival [g]) s = .next t ∧ (t.chn ch).bursts = [x] ∧ Counts s t engBond (BD.US_GRANT_DROP.idx ch) 1 ∧
            Keeps s t [.pon] [(engBond, BD.US_GRANT_DROP.idx ch)]) ∧
        ((s.burstOf ch arrival v g).start < x.start →
          ∃ t, exec (.bandwidthMap ch arrival [g]) s = .next t ∧ (t.chn ch).bursts = [s.burstOf ch arrival v g] ∧
            Counts s t engBond (BD.US_GRANT_DROP.idx ch) 1 ∧ Keeps s t [.pon] [(engBond, BD.US_GRANT_DROP.idx ch)])))

/-- R100, R101, R132, R133, R138, R140, R467, rows BURST_COMMIT, BURST_END, ROGUE_DETECT, PMD_CFG_TX_EN_WRITE: the commit takes the terminal's oldest
PLOAM message and gives it its MIC; the end sends the burst and counts it; a rogue transmitter is stopped, and a cleared TX_EN abandons what is committed.
TX_BURST shows whether a committed burst is there; PBENn is at high impedance until TX_EN is first 1, then inactive. -/
def Obligations.BurstsCommitEndAndStop : Prop :=
  (∀ (ch : Fin 4) (enc : Nat) (b : Burst) (m : UpMsg) (ms : List UpMsg) (o : BitVec 10) (s : State), s.nextBurst ch false = some b →
    s.txOn ch = true → s.chWorks ch = true → s.lowerFirst ch b = [] → (s.vt b.vt).state = 5 → b.grant.kind = .normal o → b.grant.ploam = true →
    b.grant.allocs = [] → b.allocs = [] → (s.vt b.vt).wantReg = false → (s.vt b.vt).queue = m :: ms → (s.chn ch).bursts = [b] →
    ∃ t, exec (.burstCommit ch enc) s = .next t ∧ (t.chn ch).bursts = [{ b with committed := true, ploam := some (s.withMic b.vt m) }] ∧
      (t.vt b.vt).queue = ms ++ (s.vt b.vt).held.take 1 ∧ (t.vt b.vt).held = (s.vt b.vt).held.drop 1 ∧ t.on (engPmd ch) PMD.TX_BURST = true) ∧
  (∀ (ch : Fin 4) (enc : Nat) (b : Burst) (s : State), s.nextBurst ch false = some b → s.lowerFirst ch b = [] → (s.chn ch).bursts = [b] →
    (s.txOn ch = false ∨ s.chWorks ch = false ∨ (s.vt b.vt).state ≠ b.grant.kind.state) →
    ∃ t, exec (.burstCommit ch enc) s = .next t ∧ (t.chn ch).bursts = [] ∧ t.pon.vts = s.pon.vts ∧
      Counts s t engBond (BD.US_GRANT_DROP.idx ch) 1) ∧
  (∀ (ch : Fin 4) (b : Burst) (s : State), s.nextBurst ch true = some b →
    ∃ t, exec (.burstEnd ch) s = .next t ∧
      (∃ es, t.emitted = s.emitted ++ .burst (s.burstOut ch b) :: es ∧ ∀ x ∈ es, ∃ d, x = .pin (.pben ch) d) ∧
      b ∉ (t.chn ch).bursts ∧ t.on (engPmd ch) PMD.TX_BURST = ((t.chn ch).bursts.any fun x => x.committed) ∧
      Counts s t engBond (BD.US_BURSTS.idx ch) 1 ∧ Counts s t engBond BD.BU_FRAGS b.frags.length ∧
      (b.ploam.isSome = true → Counts s t (engPloam ch) PL.PL_TX 1) ∧
      Keeps s t [.pon, .pages, .emitted]
        ([(engPmd ch, PMD.TX_BURST), (engBond, BD.US_BURSTS.idx ch), (engBond, BD.BU_FRAGS)] ++
          if b.ploam.isSome then [(engPloam ch, PL.PL_TX)] else [])) ∧
  (∀ (ch : Fin 4) (s : State), s.on (engPmd ch) PMD.ROGUE = false →
    ∃ u : State, exec (.rogueDetect ch) s = .next ((u.alarmCue ch 4).abandon ch fun b => b.committed) ∧ u.on (engPmd ch) PMD.ROGUE = true ∧
      u.on (engPmd ch) PMD.TX_EN = false ∧ Keeps s u [] [(engPmd ch, PMD.ROGUE), (engPmd ch, PMD.TX_EN)]) ∧
  (∀ (ch : Fin 4) (s : State),
    (bitOf (s.rf engWake WK.AWAKE) (4 + ch) = false → ∀ on, exec (.pmdCfgTxEnWrite ch on) s = .next s) ∧
    (bitOf (s.rf engWake WK.AWAKE) (4 + ch) = true →
      (∃ t, exec (.pmdCfgTxEnWrite ch true) s = .next t ∧ t.on (engPmd ch) PMD.TX_EN = true ∧ (t.chn ch).pben = true ∧
        (s.on (engPmd ch) PMD.TX_BURST = false → s.boot.ioLow = false →
          t.pbenDrive ch = if s.on (engPmd ch) PMD.PBEN_POL then .high else .low) ∧
        Keeps s t [.pon, .emitted] [(engPmd ch, PMD.TX_EN)]) ∧
      (s.on (engPmd ch) PMD.TX_EN = true →
        ∃ u : State, exec (.pmdCfgTxEnWrite ch false) s = .next (u.abandon ch fun b => b.committed) ∧ u.on (engPmd ch) PMD.TX_EN = false ∧
          Keeps s u [] [(engPmd ch, PMD.TX_EN)]) ∧
      (s.on (engPmd ch) PMD.TX_EN = false → exec (.pmdCfgTxEnWrite ch false) s = .next s))) ∧
  (∀ (ch : Nat) (s : State), (s.chn ch).pben = false → s.pbenDrive ch = .hiZ)

/-- R134, R142, R143, R340, rows ALLOC_BIND, ANCHOR_SET, ANCHOR_SET_TIMEOUT: a plain binding to a free S5 node, one that clashes, one of a group on an XGS
channel, and the end of a binding; the anchor moves to a member in O5, to one in PARKED once its channel, which wakes, is in sync, and to no other. -/
def Obligations.BindingAndAnchorCommands : Prop :=
  (∀ (r : Req) (k : Taken) (s : State) (x : Alloc), Ready allocBindCmd r k s →
    s.pon.allocs.look (allocKey (s.vt (fld r.payload 2 1)).channel (fld r.payload 0 2)) = some x →
    (fld r.payload 3 1 ≠ 0xFF → s.rf (engPmd (s.vt (fld r.payload 2 1)).channel) PMD.MODE = 1 →
      Answers (.allocBind r) s k St.badParam 3 (fun _ => []) Unchanged) ∧
    (fld r.payload 3 1 = 0xFF →
      (x.vt ≠ fld r.payload 2 1 → Answers (.allocBind r) s k St.notReady 0 (fun _ => []) Unchanged) ∧
      (x.vt = fld r.payload 2 1 → fld r.payload 6 1 = 1 → x.bind ≠ some (none, fld r.payload 4 2) →
        ((∀ a ∈ s.pon.allocs, a.1 ≠ allocKey (s.vt (fld r.payload 2 1)).channel (fld r.payload 0 2) → ∀ g, a.2.bind ≠ some (g, fld r.payload 4 2)) →
          Answers (.allocBind r) s k St.ok 0 (fun _ => []) fun s t =>
            t.pon.allocs.look (allocKey (s.vt (fld r.payload 2 1)).channel (fld r.payload 0 2)) =
              some { x with bind := some (none, fld r.payload 4 2) } ∧ Keeps s t [.pon] []) ∧
        ((∃ a ∈ s.pon.allocs, a.1 ≠ allocKey (s.vt (fld r.payload 2 1)).channel (fld r.payload 0 2) ∧ ∃ g, a.2.bind = some (g, fld r.payload 4 2)) →
          Answers (.allocBind r) s k St.collision 0 (fun _ => []) Unchanged)) ∧
      (x.vt = fld r.payload 2 1 → fld r.payload 6 1 = 0 →
        (x.bind = none → Answers (.allocBind r) s k St.noChange 0 (fun _ => []) Unchanged) ∧
        (x.bind ≠ none → Answers (.allocBind r) s k St.ok 0 (fun _ => []) fun s t =>
          t.pon.allocs.look (allocKey (s.vt (fld r.payload 2 1)).channel (fld r.payload 0 2)) = some { x with bind := none } ∧
            Keeps s t [.pon] [])))) ∧
  (∀ (r : Req) (k : Taken) (s : State) (g : Group) (v : Nat), Ready anchorSetCmd r k s → s.pon.groups.look (fld r.payload 0 1) = some g →
    (g.anchor = fld r.payload 1 1 → Answers (.anchorSet r) s k St.noChange 0 (fun _ => []) Unchanged 0 State.resume) ∧
    (g.anchor ≠ fld r.payload 1 1 → g.member (fld r.payload 1 1) = some v →
      ((s.vt v).state = 5 →
        Answers (.anchorSet r) s k St.ok 0 (fun _ => []) (fun _ t =>
          (t.pon.groups.look (fld r.payload 0 1)).map (·.anchor) = some (fld r.payload 1 1)) 0 State.resume) ∧
      ((s.vt v).state = 8 → s.asleep (4 + fld r.payload 1 1) = true → s.rf (engFramer (fld r.payload 1 1)) FR.SYNC ≠ 2 →
        Waits (.anchorSet r) s k (.anchor (fld r.payload 0 1)) (fun _ t =>
          bitOf (t.rf engWake WK.AWAKE) (4 + fld r.payload 1 1) = true) State.resume) ∧
      ((s.vt v).state = 8 → s.asleep (4 + fld r.payload 1 1) = false → s.rf (engFramer (fld r.payload 1 1)) FR.SYNC ≠ 2 →
        Waits (.anchorSet r) s k (.anchor (fld r.payload 0 1)) (fun s t =>
          (t.chn (fld r.payload 1 1)).park = .anchorWake ∧ Keeps s t [.pon] []) State.resume) ∧
      ((s.vt v).state ≠ 5 → (s.vt v).state ≠ 8 →
        Answers (.anchorSet r) s k St.notReady 0 (fun _ => []) Unchanged 0 State.resume))) ∧
  (∀ (ch : Fin 4) (s : State),
    ((s.chn ch).park = .anchorWake →
      ∃ t, exec (.anchorSetTimeout ch) s = .next t ∧ (t.chn ch).parked = true ∧ (t.chn ch).park = .none ∧ t.pon.vts = s.pon.vts) ∧
    ((s.chn ch).park ≠ .anchorWake → exec (.anchorSetTimeout ch) s = .next s))

/-! ### Parents (R145 to R148) -/

/-- R146, row EPOCH_CLAIM: an offer for the active parent above the epoch is accepted, one equal to it is a refresh, one below it is stale; for the
other parent above it moves activity there, equal is a conflict. Each is answered by EPOCH_REPORT on the channel that carried it. Claims of earlier
frames, and of one frame those of lower channels, are taken before it. -/
def Obligations.EpochClaimsFollowTheTable : Prop :=
  ∀ (ch : Fin 4) (started : BitVec 4) (m : PloamMsg) (c : List Byte) (at_ : Nat) (s : State), Heads s ch m → m.body = .fennath c →
    isFennath c = true → subType c = 0x10 → s.claimAt ch = some at_ →
    (∀ d : Fin 4, ∀ a, s.claimAt d = some a → at_ < a ∨ a = at_ ∧ ch ≤ d) →
    (s.rf engBond BD.ACTIVE = s.parentOf ch → s.rf engBond BD.PA_EPOCH < beVal (part c 4 4) →
      ∃ u : State, exec (.epochClaim ch started) s = .next (u.sendOn ch 0x11 (u.epochReport 0 (beVal (part c 4 4)))) ∧
        u.rf engBond BD.PA_EPOCH = beVal (part c 4 4) ∧ Keeps s u [.pon] [(engBond, BD.PA_EPOCH)]) ∧
    (s.rf engBond BD.ACTIVE = s.parentOf ch → s.rf engBond BD.PA_EPOCH = beVal (part c 4 4) →
      exec (.epochClaim ch started) s = .next ((s.popped ch).sendOn ch 0x11 (s.epochReport 1 (beVal (part c 4 4))))) ∧
    (beVal (part c 4 4) < s.rf engBond BD.PA_EPOCH →
      ∃ u : State, exec (.epochClaim ch started) s = .next (u.sendOn ch 0x11 (s.epochReport 2 (beVal (part c 4 4)))) ∧
        Counts s u engBond BD.PA_STALE 1 ∧ Keeps s u [.pon] [(engBond, BD.PA_STALE)]) ∧
    (s.rf engBond BD.ACTIVE ≠ 0 → s.rf engBond BD.ACTIVE ≠ s.parentOf ch → s.rf engBond BD.PA_EPOCH = beVal (part c 4 4) →
      ∃ u : State, exec (.epochClaim ch started) s = .next (u.sendOn ch 0x11 (s.epochReport 3 (beVal (part c 4 4)))) ∧
        Counts s u engBond BD.PA_STALE 1 ∧ Keeps s u [.pon, .chan] [(engBond, BD.PA_STALE), cueFld]) ∧
    (s.rf engBond BD.ACTIVE ≠ s.parentOf ch → s.rf engBond BD.PA_EPOCH < beVal (part c 4 4) →
      ∃ u : State, exec (.epochClaim ch started) s = .next (u.sendOn ch 0x11 (u.epochReport 0 (beVal (part c 4 4)))) ∧
        u.rf engBond BD.PA_EPOCH = beVal (part c 4 4) ∧ u.rf engBond BD.ACTIVE = s.parentOf ch)

/-- R145, R146, R148, rows PARENT_MAP, PARENT_EPOCH, PARENT_CLEAR, PARENT_LOST_TIMER, where no EPOCH_CLAIM waits that came first. -/
def Obligations.ParentCommandsSetActivity : Prop :=
  (∀ (r : Req) (k : Taken) (started : BitVec 4) (s : State), (∀ ch, s.claimAt ch = none) →
    (Ready (parentMapCmd started) r k s →
      (s.rf engBond BD.PA_MAP = fld r.payload 0 1 → Answers (.parentMap r started) s k St.noChange 0 (fun _ => []) Unchanged) ∧
      (s.rf engBond BD.PA_MAP ≠ fld r.payload 0 1 → fld r.payload 0 1 < 16 →
        Answers (.parentMap r started) s k St.ok 0 (fun _ => []) fun s t =>
          t.rf engBond BD.PA_MAP = fld r.payload 0 1 ∧ t.rf engBond BD.ACTIVE = (if fld r.payload 0 1 = 0 then 1 else 0) ∧
            t.rf engBond BD.PA_EPOCH = s.rf engBond BD.PA_EPOCH)) ∧
    (Ready (parentEpochCmd started) r k s → fld r.payload 4 4 < s.rf engBond BD.PA_EPOCH →
      Answers (.parentEpoch r started) s k St.staleEpoch 0 (fun _ => []) fun s t =>
        Counts s t engBond BD.PA_STALE 1 ∧ t.rf engBond BD.PA_EPOCH = s.rf engBond BD.PA_EPOCH ∧ t.rf engBond BD.ACTIVE = s.rf engBond BD.ACTIVE) ∧
    (Ready (parentEpochCmd started) r k s → s.rf engBond BD.ACTIVE = fld r.payload 0 1 → s.rf engBond BD.ACTIVE ≠ 0 →
      s.rf engBond BD.PA_EPOCH < fld r.payload 4 4 →
      Answers (.parentEpoch r started) s k St.ok 0 (fun _ => []) fun s t =>
        t.rf engBond BD.PA_EPOCH = fld r.payload 4 4 ∧ t.rf engBond BD.ACTIVE = s.rf engBond BD.ACTIVE) ∧
    (Ready (parentClearCmd started) r k s →
      Answers (.parentClear r started) s k St.ok 0 (fun _ => []) fun s t =>
        t.rf engBond BD.PA_EPOCH = 0 ∧ t.rf engBond BD.ACTIVE = (if s.rf engBond BD.PA_MAP = 0 then 1 else 0))) ∧
  (∀ s : State, s.rf engBond BD.ACTIVE ≠ 0 → s.on engBond BD.LOST = false → s.parentTalks (s.rf engBond BD.ACTIVE) = none →
    ∃ t, exec .parentLostTimer s = .next t ∧ t.on engBond BD.LOST = true ∧ t.rf engBond BD.ACTIVE = s.rf engBond BD.ACTIVE ∧
      Cued (s.wf engBond BD.LOST 1) t 0x2024 [byte (s.rf engBond BD.ACTIVE), 0, 0, 0] ∧ Keeps s t [.chan] [(engBond, BD.LOST), cueFld])

/-! ### Redundancy pairs (R149 to R157) -/

/-- R152: the fields of a heartbeat in its 32 bytes, the TAG under the pair key, and the PAIR_HB that carries it on the lowest channel in O5 of the active
parent; HB_SEQ counts it. -/
def HeartbeatCarriesItsFields : Prop :=
  ∀ (key : List Byte) (s : State),
    (s.heartbeat key).length = 32 ∧ (s.heartbeat key).take 2 = be 2 s.pon.pair.pairId ∧ part (s.heartbeat key) 2 1 = [byte s.role] ∧
    part (s.heartbeat key) 4 8 = be 8 s.myRank ∧ part (s.heartbeat key) 12 4 = be 4 (s.rf engKeys KS.IV_FIXED) ∧
    part (s.heartbeat key) 16 4 = be 4 s.pon.pair.hbSeq ∧ part (s.heartbeat key) 20 4 = be 4 (s.rf engBond BD.PA_EPOCH) ∧
    (s.heartbeat key).drop 24 = (be 48 (Config.hmac384 key ((s.heartbeat key).take 24)).toNat).take 8 ∧
    (∀ k ch, s.cry.slots.look s.pon.pair.keySlot = some k → s.parentTalks (s.rf engBond BD.ACTIVE) = some ch →
      s.hbPon = (s.sendOn ch 0x12 (s.heartbeat k.key)).modPair fun p => { p with hbSeq := (p.hbSeq + 1) % 2 ^ 32 })

/-- R152 to R154, R156, R323, rows HEARTBEAT_TIMER, HEARTBEAT_RX, PAIR_PATH_TIMEOUT, SWAP_TIMEOUT, SWAP_DRAIN_COMPLETE: the timer's heartbeat is the job
that was waiting for its time, or a new one, and is followed by the job of the next; without a context nothing is sent (log entry 160). -/
def Obligations.PairEventsFollowHeartbeats : Prop :=
  HeartbeatCarriesItsFields ∧
  (∀ (pon : Bool) (s : State),
    (s.pon.pair.on = false → exec (.pairPathTimeout pon) s = .next s ∧
      ((∀ x ∈ s.disp.jobs, x.2.work ≠ .heartbeat pon) → exec (.heartbeatTimer pon) s = .next s)) ∧
    (s.pon.pair.on = true →
      (∀ c u, (∀ x ∈ s.disp.jobs, x.2.work ≠ .heartbeat pon) →
        s.runJob { work := .heartbeat pon, cls := .classP, prio := 13, list := 14 } = (some c, u) →
        exec (.heartbeatTimer pon) s = .next (((if pon then u.hbPon else u.hbLink).endJob c true).hbNext pon)) ∧
      (∀ u, (∀ x ∈ s.disp.jobs, x.2.work ≠ .heartbeat pon) →
        s.runJob { work := .heartbeat pon, cls := .classP, prio := 13, list := 14 } = (none, u) → exec (.heartbeatTimer pon) s = .next (u.hbNext pon)) ∧
      (∀ c j (u : State), s.disp.jobs.find? (fun x => x.2.work = .heartbeat pon) = some (c, j) →
        u = (if j.state = .waiting then s.timeOut c else s).putJobState c .running →
        exec (.heartbeatTimer pon) s = .next (((if pon then u.hbPon else u.hbLink).endJob c true).hbNext pon))) ∧
    (s.pon.pair.on = true → s.on engBond (if pon then BD.PON_UP else BD.LINK_UP) = true →
      s.on engBond (if pon then BD.LINK_UP else BD.PON_UP) = true →
      ∃ t, exec (.pairPathTimeout pon) s = .next t ∧ t.on engBond (if pon then BD.PON_UP else BD.LINK_UP) = false ∧
        Keeps s t [.chan] [(engBond, if pon then BD.PON_UP else BD.LINK_UP), cueFld]) ∧
    (s.pon.pair.on = true → s.on engBond (if pon then BD.PON_UP else BD.LINK_UP) = true →
      s.on engBond (if pon then BD.LINK_UP else BD.PON_UP) = false → s.on engBond BD.ISOLATED = false →
      ∃ t, exec (.pairPathTimeout pon) s = .next t ∧ t.on engBond (if pon then BD.PON_UP else BD.LINK_UP) = false ∧
        t.on engBond BD.ISOLATED = true ∧ t.role = s.role)) ∧
  (∀ (b : List Byte) (bs : List (List Byte)) (s : State), s.pon.pair.hbIn = b :: bs → s.pon.pair.on = true →
    (b.length ≠ 32 ∨ beVal (b.take 2) ≠ s.pon.pair.pairId →
      ∃ t, exec (.heartbeatRx none) s = .next t ∧ t.pon.pair = { s.pon.pair with hbIn := bs } ∧ Counts s t engBond BD.PR_HB_BAD 1 ∧
        Keeps s t [.pon] [(engBond, BD.PR_HB_BAD)]) ∧
    (∀ k x y, b.length = 32 → beVal (b.take 2) = s.pon.pair.pairId → s.cry.slots.look s.pon.pair.keySlot = some k →
      b.drop 24 = hbTag k.key (b.take 24) → s.pon.pair.lastRank = some (beVal (part b 4 8)) → s.pon.pair.seqLink = some x →
      s.pon.pair.seqTop = some y → ahead 32 (beVal (part b 16 4)) x = true → ahead 32 (beVal (part b 16 4)) y = false →
      ∃ t, exec (.heartbeatRx none) s = .next t ∧ t.on engBond BD.LINK_UP = true ∧ t.pon.pair.seqLink = some (beVal (part b 16 4)) ∧
        t.pon.pair.seqTop = some y ∧ t.role = s.role ∧ Keeps s t [.pon, .chan] [(engBond, BD.LINK_UP), (engBond, BD.ISOLATED), cueFld])) ∧
  (∀ (ch : Fin 4) (m : PloamMsg) (c : List Byte) (s : State), Heads s ch m → m.body = .fennath c → isFennath c = true → subType c = 0x13 →
    exec (.heartbeatRx (some ch)) s = .next (if s.pon.pair.on then (s.popped ch).hbRx true (part c 4 32) else s.popped ch)) ∧
  (∀ s : State, (s.pon.pair.swapReq = false ∨ s.pon.pair.granted = true → exec .swapTimeout s = .next s) ∧
    (s.pon.pair.draining = false ∨ s.cry.msgs ≠ [] → exec .swapDrainComplete s = .next s) ∧ (s.pon.pair.hbIn = [] → exec (.heartbeatRx none) s = .next s)) ∧
  (∀ s : State, s.pon.pair.swapReq = true → s.pon.pair.granted = false →
    ∃ u : State, exec .swapTimeout s = .next u.hbBoth ∧ u.pon.pair.swapReq = false ∧ u.on engBond BD.SWAP_PEND = false ∧ u.role = s.role) ∧
  (∀ s : State, s.pon.pair.draining = true → s.cry.msgs = [] →
    ∃ t, exec .swapDrainComplete s = .next t ∧ t.role = 2 ∧ t.pon.pair.draining = false)

/-- R149, R154 to R156, rows PAIR_CONFIG, PAIR_ROLE. -/
def Obligations.PairCommandsAnswer : Prop :=
  ∀ (r : Req) (k : Taken) (s : State),
    (Ready pairConfigCmd r k s →
      (fld r.payload 0 1 = 0 → s.pon.pair.on = false → Answers (.pairConfig r) s k St.noChange 0 (fun _ => []) Unchanged) ∧
      (fld r.payload 0 1 = 0 → s.pon.pair.on = true →
        Answers (.pairConfig r) s k St.ok 0 (fun _ => []) fun _ t => t.role = 0 ∧ t.pon.pair.on = false) ∧
      (∀ x, fld r.payload 0 1 = 1 → s.pairLanes ≠ [] → s.slotNeed (fld r.payload 8 2) = none → s.cry.slots.look (fld r.payload 8 2) = some x →
        x.usage = 4 → s.pon.pair.on = false → (fld r.payload 1 1 = 1 ∨ fld r.payload 1 1 = 2) →
        Answers (.pairConfig r) s k St.ok 0 (fun _ => []) fun _ t =>
          t.role = fld r.payload 1 1 ∧ t.pon.pair.on = true ∧ t.pon.pair.pairId = fld r.payload 2 2 ∧
            t.rf engBond BD.PR_RANK_HI = fld r.payload 4 4 ∧ t.on engBond BD.BARRED = false)) ∧
    (Ready pairRoleCmd r k s →
      (s.pon.pair.on = false → Answers (.pairRole r) s k St.notReady 0 (fun _ => []) Unchanged) ∧
      (s.pon.pair.on = true → fld r.payload 0 1 = 2 → s.role = 1 → Answers (.pairRole r) s k St.noChange 0 (fun _ => []) Unchanged) ∧
      (s.pon.pair.on = true → fld r.payload 0 1 = 3 → s.role = 1 →
        Answers (.pairRole r) s k St.ok 0 (fun _ => []) fun _ t => t.role = 2) ∧
      (s.pon.pair.on = true → fld r.payload 0 1 = 1 → s.on engBond BD.BARRED = false → s.on engBond BD.LINK_UP = true →
        s.pon.pair.swapReq = false → s.pon.pair.swapAck = false →
        Waits (.pairRole r) s k .swap fun s t => t.pon.pair.swapReq = true ∧ t.on engBond BD.SWAP_PEND = true ∧ t.role = s.role))

/-! ### TDM and circuits (R160 to R198) -/

/-- What a far-end loop sends back of a received frame (R368). -/
def sdhEchoOf (s : State) (lane : Nat) (f : SdhIn) : List Emit := if s.rf (engLane lane) LN.LOOP = 3 then [.sdhEcho lane f] else []

/-- R162, R163, R168, rows SDH_FRAME_RX, LOF_TIMER: out of frame after the fourth frame in error, under LOS too; a frame in frame adds its B1, B2 and
MS-REI counts, one under LOS adds none; LOF follows OOF. -/
def SdhReceived : Prop :=
  ∀ (lane : Fin 64) (s : State), s.sdhWorks lane = true →
    (∀ f : SdhIn,
      (s.on (engSdh lane) SF.OOF = true → f.a1a2 = false →
        ∃ t, exec (.sdhFrameRx lane f) s = .next t ∧ t.on (engSdh lane) SF.OOF = true ∧ t.emitted = s.emitted ++ sdhEchoOf s lane f ∧
          Keeps s t [.tdm, .emitted] []) ∧
      (s.on (engSdh lane) SF.OOF = false → f.a1a2 = false → (s.tdm.lanes.get lane {}).badA = 3 →
        ∃ t, exec (.sdhFrameRx lane f) s = .next t ∧ t.on (engSdh lane) SF.OOF = true ∧ bitOf (t.rf (engSdh lane) SF.EVENTS) 0 = true ∧
          t.emitted = s.emitted ++ sdhEchoOf s lane f ∧ Keeps s t [.tdm, .emitted] [(engSdh lane, SF.OOF), (engSdh lane, SF.EVENTS)]) ∧
      (s.on (engSdh lane) SF.OOF = false → f.a1a2 = true → s.on (engLane lane) LN.LOS = true →
        ∃ t, exec (.sdhFrameRx lane f) s = .next t ∧ t.on (engSdh lane) SF.OOF = false ∧ (t.tdm.lanes.get lane {}).b2Prev = 0 ∧
          t.emitted = s.emitted ++ sdhEchoOf s lane f ∧ Keeps s t [.tdm, .emitted] [(engSdh lane, SF.OOF)]) ∧
      (s.on (engSdh lane) SF.OOF = false → f.a1a2 = true → s.on (engLane lane) LN.LOS = false → f.aus = [] → f.h4 = [] → f.tus = [] →
        f.paths = [] → f.j0 = none →
        ∃ t, exec (.sdhFrameRx lane f) s = .next t ∧ Counts s t (engSdh lane) SF.FR_B1 f.b1 ∧ Counts s t (engSdh lane) SF.FR_B2 f.b2 ∧
          Counts s t (engSdh lane) SF.FR_MS_REI f.rei ∧ (t.tdm.lanes.get lane {}).b2Prev = f.b2 ∧ t.emitted = s.emitted ++ sdhEchoOf s lane f ∧
          Keeps s t [.tdm, .chan, .emitted] [(engSdh lane, SF.FR_B1), (engSdh lane, SF.FR_B2), (engSdh lane, SF.FR_MS_REI),
            (engSdh lane, SF.RS_TIM), (engSdh lane, SF.MS_AIS), (engSdh lane, SF.MS_RDI), (engSdh lane, SF.EVENTS), (engSdh lane, SF.S1_RX),
            (engSdh lane, SF.OOF), cueFld])) ∧
    (s.reports (entRs lane) = true →
      (s.on (engSdh lane) SF.OOF = true → s.on (engSdh lane) SF.LOF = false →
        ∃ t, exec (.lofTimer lane) s = .next t ∧ t.on (engSdh lane) SF.LOF = true ∧ bitOf (t.rf (engSdh lane) SF.EVENTS) 1 = true ∧
          Cued s t 0x4001 (le 4 (entRs lane) ++ [2, 1, 0, 0]) ∧ Keeps s t [.chan, .tdm] [(engSdh lane, SF.LOF), (engSdh lane, SF.EVENTS), cueFld]) ∧
      (s.on (engSdh lane) SF.OOF = false → s.on (engSdh lane) SF.LOF = true →
        ∃ t, exec (.lofTimer lane) s = .next t ∧ t.on (engSdh lane) SF.LOF = false ∧
          Cued s t 0x4001 (le 4 (entRs lane) ++ [2, 0, 0, 0]) ∧ Keeps s t [.chan, .tdm] [(engSdh lane, SF.LOF), cueFld]))

/-- R163, R166, R167, R172, row SDH_FRAME_TX: the section overhead of a frame, and on each path of it all ones where the source gives AIS, a new pointer
with NDF after a slip, the same pointer, or a justification of one step as the elastic store asks; the path overhead of a VC-4 that the part
builds. B1, B2, B3 and the value of a new pointer are free (the spec gives none: log entry 142). A squelched or looped lane sends nothing. -/
def SdhSent : Prop :=
  ∀ (lane : Fin 64) (s : State), s.sdhWorks lane = true →
    (s.lineSends lane = false → ∃ t, exec (.sdhFrameTx lane []) s = .next t ∧ Keeps s t [.freeCtr] []) ∧
    (s.lineSends lane = true →
      ∃ (b1 : Nat) (b2 : List Byte),
        (∃ t, exec (.sdhFrameTx lane []) s = .next t ∧ t.emitted = s.emitted ++ [.sdhSection lane
            { a1 := 0xF6, a2 := 0x28, j0 := s.msg16 (engSdh lane) SF.J0_TX, b1 := b1, b2 := b2, k1 := 0,
              k2 := if s.laneAis lane then 0b110 else 0, s1 := s.rf (engSdh lane) SF.S1_TX, m1 := (s.tdm.lanes.get lane {}).b2Prev, rest := 0 }] ∧
          Keeps s t [.emitted, .freeCtr] []) ∧
        ∀ (p : PathOut) (top key slot : Nat) (sec : Emit), s.outTop lane p = some top → key = genKey lane p.au.val p.unit.val → slot = genSlot key →
          sec = .sdhSection lane
            { j0 := s.msg16 (engSdh lane) SF.J0_TX, b1 := b1, b2 := b2, k2 := if s.laneAis lane then 0b110 else 0,
              s1 := s.rf (engSdh lane) SF.S1_TX, m1 := (s.tdm.lanes.get lane {}).b2Prev } →
          (p.unit ≠ 0 → s.outVc slot = .ais →
            ∃ t, exec (.sdhFrameTx lane [p]) s = .next t ∧ t.emitted = s.emitted ++ [sec, .sdh lane (p.au.val + 1) p.unit.val .ais 0 .ais] ∧
              Keeps s t [.tdm, .emitted, .freeCtr] []) ∧
          (p.unit ≠ 0 → s.outVc slot ≠ .ais → p.fill = .slip →
            ∃ t v, exec (.sdhFrameTx lane [p]) s = .next t ∧ v ≤ top ∧
              t.emitted = s.emitted ++ [sec, .sdh lane (p.au.val + 1) p.unit.val (.offset v true) 0 (s.outVc slot)] ∧
              Counts s t (engSdh lane) SF.FR_ES_SLIP 1 ∧ Keeps s t [.tdm, .emitted, .freeCtr] [(engSdh lane, SF.FR_ES_SLIP)]) ∧
          (∀ g, p.unit ≠ 0 → s.outVc slot ≠ .ais → s.tdm.gens.look key = some g → g.fresh = false → g.ais = false →
            (p.fill = .within →
              ∃ t, exec (.sdhFrameTx lane [p]) s = .next t ∧
                t.emitted = s.emitted ++ [sec, .sdh lane (p.au.val + 1) p.unit.val (.offset g.off false) 0 (s.outVc slot)] ∧
                Keeps s t [.tdm, .emitted, .freeCtr] []) ∧
            (p.fill = .above → 3 ≤ g.sinceNeg →
              ∃ t, exec (.sdhFrameTx lane [p]) s = .next t ∧ Counts s t (engSdh lane) SF.FR_NJ_GEN 1 ∧
                t.emitted = s.emitted ++
                  [sec, .sdh lane (p.au.val + 1) p.unit.val (.offset (if g.off = 0 then top else g.off - 1) false) (-1) (s.outVc slot)] ∧
                Keeps s t [.tdm, .emitted, .freeCtr] [(engSdh lane, SF.FR_NJ_GEN)]) ∧
            (p.fill = .below → 3 ≤ g.sincePos →
              ∃ t, exec (.sdhFrameTx lane [p]) s = .next t ∧ Counts s t (engSdh lane) SF.FR_PJ_GEN 1 ∧
                t.emitted = s.emitted ++
                  [sec, .sdh lane (p.au.val + 1) p.unit.val (.offset (if top ≤ g.off then 0 else g.off + 1) false) 1 (s.outVc slot)] ∧
                Keeps s t [.tdm, .emitted, .freeCtr] [(engSdh lane, SF.FR_PJ_GEN)])) ∧
          (p.unit = 0 → (s.tdm.act.au lane p.au.val).1 = 2 → p.fill = .slip →
            ∃ t v b3, exec (.sdhFrameTx lane [p]) s = .next t ∧ v ≤ top ∧ Counts s t (engSdh lane) SF.FR_ES_SLIP 1 ∧
              t.emitted = s.emitted ++ [sec, .sdh lane (p.au.val + 1) 0 (.offset v true) 0 .built, .sdhPath lane (p.au.val + 1)
                { j1 := s.msg16 (engSdh lane) SF.J1_TX, b3 := b3, c2 := 0x02,
                  rei := ((s.tdm.loms.look (auKey lane p.au.val)).map (·.b3)).getD 0,
                  rdi := s.laneAis lane || s.auSt lane p.au.val ≠ 0, h4 := s.mfPhase }]) ∧
          (p.unit = 0 → (s.tdm.act.au lane p.au.val).1 = 5 →
            ∃ t ptr, exec (.sdhFrameTx lane [p]) s = .next t ∧ (ptr = .ais ∨ ptr = .conc) ∧
              t.emitted = s.emitted ++ [sec, .sdh lane (p.au.val + 1) 0 ptr 0 .member]))

/-- R162, R163, R166 to R168, R172: SDH frames as the two parts above have them, those received and those sent. -/
def Obligations.SdhFramesFollowTheSection : Prop := SdhReceived ∧ SdhSent

/-- R173, R174, R176, rows TSI_SPLICE, MULTIFRAME_BOUNDARY, TSI_COPY_COMPLETE: a splice waits for its boundary, where the pages swap and the copy begins; at
its end both pages are alike. -/
def Obligations.SplicesSwapThePages : Prop :=
  (∀ (r : Req) (k : Taken) (s : State), Ready tsiSpliceCmd r k s →
    (s.on engTsi TSI.COPYING = true → Waits (.tsiSplice r) s k (.unit engTsi) Unchanged) ∧
    (s.on engTsi TSI.COPYING = false → s.tdm.splice = none →
      (s.tdm.act = s.tdm.stby → Answers (.tsiSplice r) s k St.noChange 0 (fun _ => []) Unchanged) ∧
      (s.tdm.act ≠ s.tdm.stby → Waits (.tsiSplice r) s k .splice fun s t =>
        t.tdm = { s.tdm with splice := some .command } ∧ t.on engTsi TSI.PENDING = true ∧ Keeps s t [.tdm] [(engTsi, TSI.PENDING)]))) ∧
  (∀ (due : Bool) (s : State),
    (bitOf (s.rf engWake WK.AWAKE) 10 = false → exec (.multiframeBoundary due) s = .next s) ∧
    (bitOf (s.rf engWake WK.AWAKE) 10 = true → s.tdm.splice = none ∨ due = false →
      ∃ u : State, exec (.multiframeBoundary due) s = .next u.afterCommit ∧ u.rf engTsi TSI.MF_STAMP = s.short ∧
        Keeps s u [] [(engTsi, TSI.MF_STAMP)]) ∧
    (bitOf (s.rf engWake WK.AWAKE) 10 = true → s.tdm.splice = some .command →
      ∃ t, exec (.multiframeBoundary true) s = .next t ∧ t.tdm.act = s.tdm.stby ∧ t.tdm.stby = s.tdm.act ∧ t.tdm.splice = none ∧
        t.rf engTsi TSI.ACTIVE = 1 - s.rf engTsi TSI.ACTIVE ∧ Counts s t engTsi TSI.SPLICES 1 ∧ t.on engTsi TSI.PENDING = false ∧
        t.on engTsi TSI.COPYING = true ∧ t.rf engTsi TSI.MF_STAMP = s.short)) ∧
  (∀ s : State,
    (s.on engTsi TSI.COPYING = false → exec .tsiCopyComplete s = .next s) ∧
    (s.on engTsi TSI.COPYING = true → ∃ u : State, exec .tsiCopyComplete s = .next (u.rerunUnit engTsi) ∧ u.tdm.act = s.tdm.act ∧
      u.tdm.stby = s.tdm.act ∧ u.on engTsi TSI.COPYING = false))

/-- R170, R171, R173, R176, rows TDM_STRUCT, TSI_CONNECT, TSI_READ: what changes the standby page, and the active page stands. -/
def Obligations.PageCommandsEditTheStandbyPage : Prop :=
  ∀ (r : Req) (k : Taken) (s : State),
    (Ready tdmStructCmd r k s → ∀ lane au st tu : Nat, lane = fld r.payload 0 1 → au + 1 = fld r.payload 1 1 → st = fld r.payload 2 1 →
      tu = (if st = 2 then tugBits r.payload else 0) →
      (s.on engTsi TSI.COPYING = true → Waits (.tdmStruct r) s k (.unit engTsi) Unchanged) ∧
      (s.on engTsi TSI.COPYING = false →
        (s.sdhLane lane = false → Answers (.tdmStruct r) s k St.badParam 0 (fun _ => []) Unchanged) ∧
        (s.sdhLane lane = true → au < s.sdhAus lane → au % structSpan st = 0 → au + structSpan st ≤ s.sdhAus lane →
          (s.tdm.stby.au lane au = (st, tu) → Answers (.tdmStruct r) s k St.noChange 0 (fun _ => []) Unchanged) ∧
          (s.tdm.stby.au lane au ≠ (st, tu) →
            (s.slotsUsed s.tdm.stby (slotsChanged s.tdm.stby (s.tdm.stby.restruct lane au st tu) lane) = true →
              Answers (.tdmStruct r) s k St.collision 0 (fun _ => []) Unchanged) ∧
            (s.slotsUsed s.tdm.stby (slotsChanged s.tdm.stby (s.tdm.stby.restruct lane au st tu) lane) = false → st ≠ 0 →
              Answers (.tdmStruct r) s k St.ok 0 (fun _ => []) fun s t =>
                t.tdm.stby.au lane au = (st, tu) ∧ (∀ i, 0 < i → i < structSpan st → t.tdm.stby.au lane (au + i) = (5, 0)) ∧
                  t.tdm = { s.tdm with stby := t.tdm.stby } ∧ Keeps s t [.tdm] []))))) ∧
    (Ready tsiConnectCmd r k s → ∀ size out src : Nat, size = fld r.payload 1 1 → out = fld r.payload 4 4 → src = fld r.payload 8 4 →
      (s.on engTsi TSI.COPYING = true → Waits (.tsiConnect r) s k (.unit engTsi) Unchanged) ∧
      (s.on engTsi TSI.COPYING = false →
        (fld r.payload 0 1 = 0 → s.tdm.stby.conns.look out = none → Answers (.tsiConnect r) s k St.noChange 0 (fun _ => []) Unchanged) ∧
        (∀ x, fld r.payload 0 1 = 0 → s.tdm.stby.conns.look out = some (size, x) →
          Answers (.tsiConnect r) s k St.ok 0 (fun _ => []) fun s t =>
            t.tdm.stby.conns.look out = none ∧ (∀ n, n ≠ out → t.tdm.stby.conns.look n = s.tdm.stby.conns.look n) ∧ t.tdm.act = s.tdm.act ∧
              Keeps s t [.tdm] []) ∧
        (fld r.payload 0 1 ≠ 0 → s.slotValid s.tdm.stby out size = true → s.slotValid s.tdm.stby src size = true →
          (s.tdm.stby.conns.look out = some (size, src) → Answers (.tsiConnect r) s k St.noChange 0 (fun _ => []) Unchanged) ∧
          ((∀ c ∈ s.tdm.stby.conns, slotsMeet c.1 (sizeSlots c.2.1) out (sizeSlots size) = false) → s.tdm.stby.conns.look out = none →
            Answers (.tsiConnect r) s k St.ok 0 (fun _ => []) fun s t =>
              t.tdm.stby.conns.look out = some (size, src) ∧ (∀ n, n ≠ out → t.tdm.stby.conns.look n = s.tdm.stby.conns.look n) ∧
                t.tdm.act = s.tdm.act ∧ Keeps s t [.tdm] [])))) ∧
    (Ready tsiReadCmd r k s → Answers (.tsiRead r) s k St.ok 0
      (fun u => (List.range (fld r.payload 2 2)).flatMap fun i =>
        le 4 (((if fld r.payload 0 1 = 0 then u.tdm.act else u.tdm.stby).source (fld r.payload 4 4 + i)).getD 0xFFFFFFFF)) Unchanged)

/-- The highest sequence number that has arrived, packet `seq` included (R186). -/
def topAfter (r : CircRt) (seq : Nat) : Option Nat := if r.top.any fun t => ahead 16 t seq then r.top else some seq

/-- R181 to R184, R186, R188, R189, rows CIRCUIT_PACKET_FORM, CIRCUIT_PACKET_RX, PLAYOUT_TICK: a packet formed takes the next sequence number and goes to
sealing, or is discarded and counted while its SA is EXPIRED; an opened packet of a circuit that plays is late, a duplicate, early or held; a tick plays
its packet, or the fill. -/
def Obligations.CircuitPacketsAreFormedAndPlayed : Prop :=
  (∀ (circuit : Fin 32256) (payload : List Byte) (pointer : Fin 4096) (x : Circ) (src : Nat) (s : State),
    s.tdm.act.circs.look circuit.val = some x → s.circSource circuit.val = some src → s.works engPack = true → payload.length = x.payload →
    (s.saExpired x.txSa = true →
      ∃ t, exec (.circuitPacketForm circuit payload pointer) s = .next t ∧ Counts s t engPack PK.PK_PKTS 1 ∧ Counts s t engPack PK.PK_EXPIRED 1 ∧
        (t.circ circuit.val).txSeq = ((s.circ circuit.val).txSeq + 1) % 2 ^ 16 ∧
        (t.circ circuit.val).expiredDrop = satAdd 0xFFFFFFFF (s.circ circuit.val).expiredDrop 1 ∧
        Keeps s t [.tdm] [(engPack, PK.PK_PKTS), (engPack, PK.PK_EXPIRED)]) ∧
    (s.saExpired x.txSa = false →
      ∃ u : State, exec (.circuitPacketForm circuit payload pointer) s = .next (u.sealCirc circuit.val x
          (circFrame x (circHeader x.mode (s.srcAis src) ((s.circ circuit.val).state = 3) (s.circ circuit.val).txSeq pointer.val)
            (if s.srcAis src then List.replicate x.payload 0xFF else payload))) ∧
        Counts s u engPack PK.PK_PKTS 1 ∧ (u.circ circuit.val).txSeq = ((s.circ circuit.val).txSeq + 1) % 2 ^ 16 ∧
        (u.circ circuit.val).lTx = s.srcAis src ∧ Keeps s u [.tdm] [(engPack, PK.PK_PKTS)])) ∧
  (∀ (i : CircIn) (is : List CircIn) (b : List Byte) (s : State), s.tdm.rx = i :: is → s.works engPlay = true → b = s.readPages i.pages i.len →
    (s.circFor i.sa (fbe b (typeOff b + 2) 4 / 4096) = none →
      ∃ t, exec .circuitPacketRx s = .next t ∧ t.tdm = { s.tdm with rx := is } ∧ Counts s t engPlay PO.PO_UNKNOWN 1 ∧
        Keeps s t [.tdm, .pages] [(engPlay, PO.PO_UNKNOWN)]) ∧
    (∀ (c : Nat) (x : Circ) (l rem : Bool) (seq at_ : Nat) (sp : Option Nat), s.circFor i.sa (fbe b (typeOff b + 2) 4 / 4096) = some (c, x) →
      b.length = typeOff b + 10 + x.payload → circRead x.mode (fbe b (typeOff b + 6) 4) = (l, rem, seq, sp) → (s.circ c).state = 2 →
      at_ = playoutAt x (s.circ c) seq →
      (ahead 32 at_ s.disp.tick = false →
        ∃ t, exec .circuitPacketRx s = .next t ∧
          t.circ c = { s.circ c with lRx := l, remote := rem, late := satAdd 0xFFFFFFFF (s.circ c).late 1, earlyRun := 0, top := topAfter (s.circ c) seq } ∧
          Keeps s t [.tdm, .pages] []) ∧
      (ahead 32 at_ s.disp.tick = true → (s.circ c).held.has seq = true →
        ∃ t, exec .circuitPacketRx s = .next t ∧
          t.circ c = { s.circ c with lRx := l, remote := rem, dup := satAdd 0xFFFFFFFF (s.circ c).dup 1, earlyRun := 0, top := topAfter (s.circ c) seq } ∧
          Keeps s t [.tdm, .pages] []) ∧
      (ahead 32 at_ s.disp.tick = true → (s.circ c).held.has seq = false → (at_ + 2 ^ 32 - s.disp.tick) % 2 ^ 32 > x.depth * 250 →
        (s.circ c).earlyRun < 7 →
        ∃ t, exec .circuitPacketRx s = .next t ∧ t.circ c = { s.circ c with
            lRx := l, remote := rem, early := satAdd 0xFFFFFFFF (s.circ c).early 1, earlyRun := (s.circ c).earlyRun + 1,
            top := topAfter (s.circ c) seq } ∧
          Keeps s t [.tdm, .pages] []) ∧
      (ahead 32 at_ s.disp.tick = true → (s.circ c).held.has seq = false → (at_ + 2 ^ 32 - s.disp.tick) % 2 ^ 32 > x.depth * 250 →
        (s.circ c).earlyRun = 7 →
        ∃ t, exec .circuitPacketRx s = .next t ∧ (t.circ c).state = 1 ∧ (t.circ c).held = [] ∧
          (t.circ c).reprime = satAdd 0xFFFFFFFF (s.circ c).reprime 1 ∧ Cued s t 0x4003 (le 2 c ++ [2, 1, 3, 0, 0, 0]) ∧
          Keeps s t [.tdm, .pages, .disp, .chan] [cueFld]) ∧
      (ahead 32 at_ s.disp.tick = true → (s.circ c).held.has seq = false → (at_ + 2 ^ 32 - s.disp.tick) % 2 ^ 32 ≤ x.depth * 250 →
        ∃ t, exec .circuitPacketRx s = .next t ∧ (t.circ c).rx = satAdd 0xFFFFFFFF (s.circ c).rx 1 ∧
          (t.circ c).held.look seq = some { bytes := b.drop (typeOff b + 10), lBit := l, tick := s.disp.tick, sp := sp } ∧
          (t.circ c).top = topAfter (s.circ c) seq ∧
          (t.circ c).lRx = l ∧ (t.circ c).remote = rem ∧ Counts s t engPlay PO.PO_PKTS 1 ∧
          Keeps s t [.tdm, .pages] [(engPlay, PO.PO_PKTS)]))) ∧
  (∀ (circuit : Fin 32256) (x : Circ) (n : Nat) (s : State), s.tdm.act.circs.look circuit.val = some x → (s.circ circuit.val).ctx = some n →
    ((s.disp.jobs.look n).map (·.state)) = some .running → s.works engPlay = true → (s.circ circuit.val).state = 2 →
    ahead 32 (playoutAt x (s.circ circuit.val) (s.circ circuit.val).next) s.disp.tick = false →
    (∀ p, (s.circ circuit.val).held.look (s.circ circuit.val).next = some p →
      ∃ t, exec (.playoutTick circuit) s = .next t ∧
        t.emitted = s.emitted ++ [.play circuit.val (if p.lBit then List.replicate x.payload 0xFF else p.bytes)] ∧
        (t.circ circuit.val).next = ((s.circ circuit.val).next + 1) % 2 ^ 16 ∧ (t.circ circuit.val).filled = 0 ∧
        (t.circ circuit.val).state = 2 ∧ Keeps s t [.tdm, .disp, .emitted] []) ∧
    ((s.circ circuit.val).held.look (s.circ circuit.val).next = none →
      ((s.circ circuit.val).filled + 1 < x.lopsSet →
        ∃ t, exec (.playoutTick circuit) s = .next t ∧ t.emitted = s.emitted ++ [.play circuit.val (List.replicate x.payload 0xFF)] ∧
          (t.circ circuit.val).next = ((s.circ circuit.val).next + 1) % 2 ^ 16 ∧ (t.circ circuit.val).filled = (s.circ circuit.val).filled + 1 ∧
          (t.circ circuit.val).lost = satAdd 0xFFFFFFFF (s.circ circuit.val).lost 1 ∧ (t.circ circuit.val).state = 2 ∧
          Counts s t engPlay PO.PO_FILLED 1 ∧ Keeps s t [.tdm, .disp, .emitted] [(engPlay, PO.PO_FILLED)]) ∧
      (x.lopsSet ≤ (s.circ circuit.val).filled + 1 →
        ∃ t, exec (.playoutTick circuit) s = .next t ∧ (t.circ circuit.val).state = 3 ∧ (t.circ circuit.val).aisOut = true ∧
          (t.circ circuit.val).lost = satAdd 0xFFFFFFFF (s.circ circuit.val).lost 1 ∧ Counts s t engPlay PO.PO_FILLED 1 ∧
          Cued s t 0x4003 (le 2 circuit.val ++ [2, 3, 2, 0, 0, 0]) ∧
          Keeps s t [.tdm, .disp, .emitted, .chan] [(engPlay, PO.PO_FILLED), cueFld])))

/-- After R179, R190, R191, rows CIRCUIT_SET, CIRCUIT_QUERY: the standby table takes an entry whose SAs exist with their keys and whose blocks fit. -/
def Obligations.CircuitCommandsAnswer : Prop :=
  ∀ (r : Req) (k : Taken) (s : State) (c : Nat), c = fld r.payload 4 2 →
    (Ready circuitSetCmd r k s → s.on engTsi TSI.COPYING = true → Waits (.circuitSet r) s k (.unit engTsi) Unchanged) ∧
    (Ready circuitSetCmd r k s → s.on engTsi TSI.COPYING = false → fld r.payload 0 1 = 0 →
      (s.tdm.stby.circs.look c = none → Answers (.circuitSet r) s k St.noChange 0 (fun _ => []) Unchanged) ∧
      (∀ x, s.tdm.stby.circs.look c = some x → s.tdm.act.circs.has c = true →
        Answers (.circuitSet r) s k St.ok 0 (fun _ => []) fun s t => t.tdm.stby.circs.look c = none ∧ t.tdm.act = s.tdm.act ∧ Keeps s t [.tdm] [])) ∧
    (Ready circuitSetCmd r k s → s.on engTsi TSI.COPYING = false → fld r.payload 0 1 = 1 →
      (∀ y ∈ s.tdm.stby.circs, y.1 ≠ c → slotsMeet y.1 (sizeSlots y.2.size) c (sizeSlots (circOf r.payload).size) = false) →
      (s.tdm.stby.circs.look c = some (circOf r.payload) → Answers (.circuitSet r) s k St.noChange 0 (fun _ => []) Unchanged) ∧
      (s.tdm.stby.circs.look c ≠ some (circOf r.payload) →
        (s.saThere (circOf r.payload).txSa = false ∨ s.saThere (circOf r.payload).rxSa = false →
          Answers (.circuitSet r) s k St.notReady 0 (fun _ => []) Unchanged) ∧
        (s.saThere (circOf r.payload).txSa = true → s.saThere (circOf r.payload).rxSa = true → s.saKeyed (circOf r.payload).txSa = true →
          s.saKeyed (circOf r.payload).rxSa = true →
          (∀ y ∈ s.tdm.stby.circs, y.1 ≠ c → y.2.rxSa ≠ (circOf r.payload).rxSa ∨ y.2.rxEcid ≠ (circOf r.payload).rxEcid) →
          (65536 < Tdm.blocks { s.tdm with stby := { s.tdm.stby with circs := s.tdm.stby.circs.put c (circOf r.payload) } } →
            Answers (.circuitSet r) s k St.exhausted 0 (fun _ => []) Unchanged) ∧
          (Tdm.blocks { s.tdm with stby := { s.tdm.stby with circs := s.tdm.stby.circs.put c (circOf r.payload) } } ≤ 65536 →
            (s.circCtx c).isSome = true →
            Answers (.circuitSet r) s k St.ok 0 (fun _ => []) fun s t =>
              t.tdm.stby.circs.look c = some (circOf r.payload) ∧ t.tdm.act = s.tdm.act ∧ Keeps s t [.tdm] [])))) ∧
    (∀ n, Ready circuitQueryCmd r k s → n = fld r.payload 0 2 →
      (s.tdm.act.circs.look n = none → Answers (.circuitQuery r) s k St.notReady 0 (fun _ => []) Unchanged) ∧
      (∀ x, s.tdm.act.circs.look n = some x →
        (fld r.payload 2 1 = 0 → Answers (.circuitQuery r) s k St.ok 0 (fun u => u.circReport n x) Unchanged) ∧
        (fld r.payload 2 1 = 1 → Answers (.circuitQuery r) s k St.ok 0 (fun _ => (s.starting k).circReport n x) fun s t =>
          t.circ n = { s.circ n with tx := 0, rx := 0, lost := 0, late := 0, early := 0, dup := 0, reordered := 0, reprime := 0, expiredDrop := 0 } ∧
            Keeps s t [.tdm] [])))

/-- R193 to R198, rows PM_SECOND_CLASSIFY, PM_BIN_BOUNDARY, PM_CONFIG, PM_READ: a second is classified when ten more have ended and counts ES, SES, BBE or
UAS in the bin of its time; a bin begins; the pool of path monitors; what PM_READ answers. -/
def Obligations.MonitorsClassifyAndReport : Prop :=
  (∀ (sec ent : Nat) (m : PmMon) (s : State), s.counting ent = true → s.entities = [ent] → s.mon ent = m →
    (m.secs.length < 10 → ∃ t, exec (.pmSecondClassify sec) s = .next t ∧ t.tdm.mons.look ent = some { m with
        eb := 0, defect := false, secs := m.secs ++ [{ sec := sec, era := m.era, eb := m.eb, defect := m.defect || s.entDefect ent }] } ∧ Keeps s t [.tdm] []) ∧
    (∀ (x : PmSec) (rest : List PmSec) (b : PmBin) (a0 a1 a2 a3 a4 a5 : Nat), m.secs = x :: rest → rest.length = 9 → m.tcas = [0, 0, 0, 0] →
      m.bins = [b] → b.start ≤ x.sec → b.era = x.era → b.counts = [a0, a1, a2, a3, a4, a5] →
      (m.unavail = false → x.ses (s.sesLimit ent) = false → 0 < x.eb →
        ∃ t m', exec (.pmSecondClassify sec) s = .next t ∧ t.tdm.mons.look ent = some m' ∧ m'.unavail = false ∧ Keeps s t [.tdm] [] ∧
          m'.bins = [{ b with unavail := false, counts := [satAdd 0xFFFFFFFF a0 1, a1, satAdd 0xFFFFFFFF a2 x.eb, a3, a4, a5] }]) ∧
      (m.unavail = false → x.ses (s.sesLimit ent) = true → (∃ y ∈ rest, y.ses (s.sesLimit ent) = false) → (0 < x.eb ∨ x.defect = true) →
        ∃ t m', exec (.pmSecondClassify sec) s = .next t ∧ t.tdm.mons.look ent = some m' ∧ m'.unavail = false ∧ Keeps s t [.tdm] [] ∧
          m'.bins = [{ b with unavail := false, counts := [satAdd 0xFFFFFFFF a0 1, satAdd 0xFFFFFFFF a1 1, a2, a3, a4, a5] }]) ∧
      (m.unavail = false → (∀ y ∈ x :: rest, y.ses (s.sesLimit ent) = true) →
        ∃ t m', exec (.pmSecondClassify sec) s = .next t ∧ t.tdm.mons.look ent = some m' ∧ m'.unavail = true ∧ Keeps s t [.tdm] [] ∧
          m'.bins = [{ b with unavail := true, counts := [a0, a1, a2, satAdd 0xFFFFFFFF a3 1, a4, a5] }]) ∧
      (m.unavail = true → x.ses (s.sesLimit ent) = true →
        ∃ t m', exec (.pmSecondClassify sec) s = .next t ∧ t.tdm.mons.look ent = some m' ∧ m'.unavail = true ∧ Keeps s t [.tdm] [] ∧
          m'.bins = [{ b with unavail := true, counts := [a0, a1, a2, satAdd 0xFFFFFFFF a3 1, a4, a5] }])) ∧
    (∀ start : Nat, s.clk.slewLeft ≤ 0 → s.clk.barredNs < (start : Int) * 1000000000 →
      (start = quarterStart s.nowSec → begunBin m.era start m.bins = false →
        ∃ t, exec (.pmBinBoundary start false) s = .next t ∧ Keeps s t [.tdm] [] ∧ t.tdm.mons.look ent = some { m with
          bins := ({ start := start, era := m.era, suspect := false } :: m.bins).take 97 }) ∧
      (start = s.dayStart s.nowSec → begunBin m.era start m.days = false →
        ∃ t, exec (.pmBinBoundary start true) s = .next t ∧ Keeps s t [.tdm] [] ∧ t.tdm.mons.look ent = some { m with
          days := ({ start := start, era := m.era, suspect := false } :: m.days).take 8 }) ∧
      (start ≠ quarterStart s.nowSec → exec (.pmBinBoundary start false) s = .next s) ∧
      (start ≠ s.dayStart s.nowSec → exec (.pmBinBoundary start true) s = .next s))) ∧
  (∀ (sec ent : Nat) (m : PmMon) (b : PmBin) (s : State), s.works engPm = false → s.tdm.mons = [(ent, m)] → m.bins = [b] → m.days = [b] →
    ∃ t, exec (.pmSecondClassify sec) s = .next t ∧
      t.tdm.mons = [(ent, { m with bins := [{ b with suspect := true }], days := [{ b with suspect := true }] })] ∧ Keeps s t [.tdm] []) ∧
  (∀ (r : Req) (k : Taken) (s : State) (ent : Nat), ent = fld r.payload 0 4 → 3 ≤ ent / 2 ^ 28 →
    (Ready pmConfigCmd r k s → s.tdm.mons.has ent = false →
      (fld r.payload 4 1 = 0 → Answers (.pmConfig r) s k St.noChange 0 (fun _ => []) Unchanged) ∧
      (fld r.payload 4 1 = 1 → 64512 ≤ (s.tdm.mons.filter fun x => x.1 / 2 ^ 28 ≥ 3).length →
        Answers (.pmConfig r) s k St.exhausted 0 (fun _ => []) Unchanged) ∧
      (fld r.payload 4 1 = 1 → (s.tdm.mons.filter fun x => x.1 / 2 ^ 28 ≥ 3).length < 64512 →
        Answers (.pmConfig r) s k St.ok 0 (fun _ => []) fun s t => t.tdm.mons.look ent = some { s.mon ent with
          trace := fld r.payload 5 1 = 1, label := fld r.payload 6 1,
          tcas := [fld r.payload 8 2, fld r.payload 10 2, fld r.payload 16 4, fld r.payload 12 2], expTrace := part r.payload 20 16 } ∧
          Keeps s t [.tdm] [])) ∧
    (Ready pmConfigCmd r k s → s.tdm.mons.has ent = true → fld r.payload 4 1 = 0 →
      Answers (.pmConfig r) s k St.ok 0 (fun _ => []) fun s t => t.tdm.mons.has ent = false ∧ Keeps s t [.tdm] []) ∧
    (Ready pmReadCmd r k s →
      (s.tdm.mons.has ent = false → Answers (.pmRead r) s k St.notReady 0 (fun _ => []) Unchanged) ∧
      (s.tdm.mons.has ent = true → Answers (.pmRead r) s k St.ok 0
        (fun u => (List.range (fld r.payload 6 1)).flatMap fun i => u.pmRecord (if fld r.payload 4 1 = 0 then (u.mon ent).bins else (u.mon ent).days)
          (fld r.payload 5 1 + i) (if fld r.payload 4 1 = 0 then 900 else 86400)) Unchanged)))

/-! ### The cipher complex (R201 to R253) -/

/-- R203, R204, R206, R207, R248, rows CX_BIND_WRITE, LOCK_CLAIM, LOCK_RELEASE: a binding is taken now or with the release; of the owners that write
their own ID in one cycle the lowest takes an unlocked engine; the holder releases an idle one, and an owner left without an engine is told of. -/
def Obligations.EnginesAreBoundAndLocked : Prop :=
  ∀ (unit : Fin 10) (s : State),
    (∀ v : Word,
      (s.spareLocked (engCipher unit) = true ∨ 3 < v.toNat % 256 ∨ s.rf (engCipher unit) CX.BIND = v.toNat % 256 →
        exec (.cxBindWrite unit v) s = .next s) ∧
      (s.spareLocked (engCipher unit) = false → v.toNat % 256 ≤ 3 → s.rf (engCipher unit) CX.BIND ≠ v.toNat % 256 →
        (s.rf (engCipher unit) CX.OWNER ≠ 0 → ∃ t, exec (.cxBindWrite unit v) s = .next t ∧ t.rf (engCipher unit) CX.BIND = v.toNat % 256 ∧
          t.on (engCipher unit) CX.REBIND = true ∧ Keeps s t [] [(engCipher unit, CX.BIND), (engCipher unit, CX.REBIND)]) ∧
        (s.rf (engCipher unit) CX.OWNER = 0 → s.isOn (engCipher unit) = true → ∃ t, exec (.cxBindWrite unit v) s = .next t ∧
          t.rf (engCipher unit) CX.BIND = v.toNat % 256 ∧ t.on (engCipher unit) CX.REBIND = false ∧
          t.rf (engCipher unit) CX.OWNER = v.toNat % 256 ∧
          Keeps s t [] [(engCipher unit, CX.BIND), (engCipher unit, CX.REBIND), (engCipher unit, CX.OWNER)]) ∧
        (s.rf (engCipher unit) CX.OWNER = 0 → s.isOn (engCipher unit) = false → ∃ t, exec (.cxBindWrite unit v) s = .next t ∧
          t.rf (engCipher unit) CX.BIND = v.toNat % 256 ∧ t.on (engCipher unit) CX.REBIND = false ∧
          Keeps s t [] [(engCipher unit, CX.BIND), (engCipher unit, CX.REBIND)]))) ∧
    (∀ writes : List (Fin 7 × Byte),
      (∀ o : Fin 7, o ≠ 0 → (∃ w ∈ writes, w.1 = o ∧ w.2.toNat = o.val) → (∀ w ∈ writes, w.1 ≠ 0 → w.2.toNat = w.1.val → o ≤ w.1) →
        s.rf (engCipher unit) CX.OWNER = 0 → s.isOn (engCipher unit) = true →
        ∃ t, exec (.lockClaim unit writes) s = .next t ∧ t.rf (engCipher unit) CX.OWNER = o ∧ Keeps s t [] [(engCipher unit, CX.OWNER)]) ∧
      ((∀ w ∈ writes, w.1 = 0 ∨ w.2.toNat ≠ w.1.val) → exec (.lockClaim unit writes) s = .next s) ∧
      (s.rf (engCipher unit) CX.OWNER ≠ 0 ∨ s.isOn (engCipher unit) = false → exec (.lockClaim unit writes) s = .next s)) ∧
    (∀ owner : Fin 7,
      (owner ≠ 0 → s.rf (engCipher unit) CX.OWNER = owner → s.cxIdle unit = true →
        (s.on (engCipher unit) CX.REBIND = false → ∃ u : State,
          exec (.lockRelease unit owner) s = .next (u.ownerLeft (if s.isOn (engCipher unit) then owner else 0)) ∧
            u.rf (engCipher unit) CX.OWNER = 0 ∧ Keeps s u [] [(engCipher unit, CX.OWNER)]) ∧
        (s.on (engCipher unit) CX.REBIND = true → s.isOn (engCipher unit) = true → s.rf (engCipher unit) CX.BIND ≤ 3 → ∃ u : State,
          exec (.lockRelease unit owner) s = .next (u.ownerLeft owner) ∧ u.rf (engCipher unit) CX.OWNER = s.rf (engCipher unit) CX.BIND ∧
            u.on (engCipher unit) CX.REBIND = false ∧ Keeps s u [] [(engCipher unit, CX.OWNER), (engCipher unit, CX.REBIND)])) ∧
      (s.rf (engCipher unit) CX.OWNER ≠ owner ∨ s.cxIdle unit = false → exec (.lockRelease unit owner) s = .next s))

/-- R244 to R247, rows KNOWN_ANSWER_TEST, ONLINE_CHECK: an engine under its first test goes ON by a pass and not by a fail; a spare that passes takes
over the logical engine it was taken for, which goes to WAKING and is not tested again; an online check feeds a block; an online mismatch sets KIND_FAULT bit 8 of ENG_FAULT and takes the engine out. -/
def Obligations.CipherTestsDecideService : Prop :=
  ∀ (unit : Fin 10) (s : State),
    (s.cry.testing = [(unit.val, none)] → unit < 8 → s.cry.pool = [] → s.engState (engCipher unit) = 1 → s.on (engCipher unit) HDR.PEND_OFF = false →
      (s.on (engCipher unit) HDR.ENABLE = true → s.rf (engCipher unit) CX.BIND ≤ 3 →
        ∃ u : State, exec (.knownAnswerTest unit true) s = .next u.goOn ∧ u.isOn (engCipher unit) = true ∧
          u.on (engCipher unit) CX.KAT_PASS = true ∧ u.on (engCipher unit) CX.KAT_RUN = true ∧ Counts s u (engCipher unit) CX.KAT_RUNS 1 ∧
          u.rf (engCipher unit) CX.OWNER = s.rf (engCipher unit) CX.BIND ∧ u.cry.testing = []) ∧
      (∃ u : State, exec (.knownAnswerTest unit false) s = .next u.goOn ∧ u.isOn (engCipher unit) = false ∧
        u.on (engCipher unit) CX.KAT_PASS = false ∧ u.on (engCipher unit) HDR.SELFTEST = true ∧ Counts s u (engCipher unit) CX.KAT_RUNS 1)) ∧
    (∀ n : Fin 8, s.cry.testing = [(unit.val, some n.val)] → 8 ≤ unit → s.cry.pool = [] → s.punit (engCipher n) = n →
      ∃ u : State, exec (.knownAnswerTest unit true) s = .next u.goOn ∧ u.engState (engCipher n) = 1 ∧ (u.ex (engCipher n)).selfTested = true ∧
        u.punit (engCipher n) = unit ∧ u.rf (engCipher unit) HDR.LUNIT = n ∧ u.cry.out.look n = some n.val) ∧
    (8 ≤ unit ∨ s.works (engCipher unit) = false → ∀ pass, exec (.onlineCheck unit pass) s = .next s) ∧
    (unit < 8 → s.works (engCipher unit) = true →
      (∃ t, exec (.onlineCheck unit true) s = .next t ∧ t.cry.blocks.get unit 0 = satAdd (2 ^ 64 - 1) (s.cry.blocks.get unit 0) 1 ∧
        Keeps s t [.cry] []) ∧
      ∃ u : State, exec (.onlineCheck unit false) s = .next (u.cipherDown unit) ∧ bitOf (u.rf (engCipher unit) HDR.KIND_FAULT) 0 = true ∧
        Keeps s u [.cry] [(engCipher unit, HDR.KIND_FAULT)])

/-- A message that its engine runs: found by its job's context. -/
def Runs (t : State) (ctx : Nat) (p : Msg → Prop) : Prop := ∃ m ∈ t.cry.msgs, m.ctx = ctx ∧ m.started = true ∧ p m

/-- The registers in which a message that begins may show. -/
def startFlds (m : Msg) : List (Nat × Fld) :=
  [(engCipher m.unit, CX.CX_SUSPENDS), (engCipher m.unit, CX.CX_MAX_WAIT), (engCipher m.unit, CX.CX_KEY_MISS)]

/-- R213 to R215, R220, R221, R226, R228, R229, R235, rows SEAL_JOB_START, OPEN_JOB_START, SUSPEND_RESTORE: a seal's first block takes its slot's counter,
adds its secure data to the volume and takes black pages, or ends NO_KEY or NO_SA with no counter; an open's result is that of its ordered checks and
changes no slot; a class-0 message being fed is suspended by an urgent one, and restored when no urgent one waits or has blocks left. -/
def Obligations.MessagesStartAndYield : Prop :=
  (∀ (ctx : Fin 65536) (urgent : Option Nat) (rotating fed : List Nat) (wait : Nat) (m : Msg) (d : CJob) (b : List Byte) (s : State),
    fed = urgent.toList ++ rotating → s.msgOf ctx true = some (m, d) →
    b = s.readPages d.src d.len →
    ((s.noteFed m.unit fed).mayFeed m = false ∨ s.on engBond BD.BARRED = true → exec (.sealJobStart ctx urgent rotating wait) s = .next (s.noteFed m.unit fed)) ∧
    ((s.noteFed m.unit fed).mayFeed m = true → s.on engBond BD.BARRED = false →
      (∀ st, st = (if s.rf engKeys KS.IV_FIXED = 0 then Rec.noKey else Rec.noSa) → s.rf engKeys KS.IV_FIXED = 0 ∨ s.cry.sas.look d.sa = none →
        ∃ t, exec (.sealJobStart ctx urgent rotating wait) s = .next t ∧ Runs t ctx (fun y => y.status = st ∧ y.counter = 0) ∧
          t.cry.slots = s.cry.slots ∧ Keeps s t [.cry] (startFlds m)) ∧
      (∀ (x : Sa) (k : Slot), s.cry.sas.look d.sa = some x → s.cry.slots.look x.cur = some k → x.fmt.macsec = true → x.fmt.tx = true →
        x.expired = false → b.length + 32 ≤ 9600 → s.rf engKeys KS.IV_FIXED ≠ 0 → x.next = none → k.volume + (b.length - 12) ≤ 2 ^ 52 → k.due = true →
        (s.allocPages false (sealMacsec x.fmt k (s.rf engKeys KS.IV_FIXED) k.counter x.an b)).isSome = true →
        ∃ t, exec (.sealJobStart ctx urgent rotating wait) s = .next t ∧
          Runs t ctx (fun y => y.status = 0 ∧ y.counter = k.counter ∧ y.slot = x.cur ∧ y.data = b.length - 12 ∧
            y.out = sealMacsec x.fmt k (s.rf engKeys KS.IV_FIXED) k.counter x.an b) ∧
          (∃ pages u, s.allocPages false (sealMacsec x.fmt k (s.rf engKeys KS.IV_FIXED) k.counter x.an b) = some (pages, u) ∧
            t.pages = u.pages ∧ (t.disp.jobs.look ctx).map (·.work) = some (.crypto { d with dst := pages })) ∧
          t.cry.slots.look x.cur = some { k with counter := k.counter + 1, volume := k.volume + (b.length - 12) } ∧
          (∀ n, n ≠ x.cur → t.cry.slots.look n = s.cry.slots.look n) ∧ t.cry.sas = s.cry.sas ∧
          (0 < m.cls → ∀ y ∈ s.cry.msgs, y.unit = m.unit → y.cls = 0 → y.started = true → y.suspended = false → y.done = false → y.ctx ∈ fed →
            ∃ z ∈ t.cry.msgs, z.ctx = y.ctx ∧ z.suspended = true) ∧
          Keeps s t [.cry, .disp, .pages, .freeCtr] (startFlds m)))) ∧
  (∀ (ctx : Fin 65536) (urgent : Option Nat) (rotating fed : List Nat) (wait : Nat) (m : Msg) (d : CJob) (s : State), fed = urgent.toList ++ rotating →
    s.msgOf ctx false = some (m, d) →
    ((s.noteFed m.unit fed).mayFeed m = false → exec (.openJobStart ctx urgent rotating wait) s = .next (s.noteFed m.unit fed)) ∧
    ((s.noteFed m.unit fed).mayFeed m = true → ∃ t, exec (.openJobStart ctx urgent rotating wait) s = .next t ∧
      Runs t ctx (fun y => y.status = (s.openFrame (s.readPages d.src d.len)).status ∧ y.out = (s.openFrame (s.readPages d.src d.len)).out ∧
        y.counter = (s.openFrame (s.readPages d.src d.len)).counter) ∧ t.cry.slots = s.cry.slots ∧ t.cry.sas = s.cry.sas ∧
      Keeps s t [.cry, .freeCtr] (startFlds m))) ∧
  (∀ (unit : Fin 10) (fed : List Nat) (s : State),
    ((∃ m ∈ (s.noteFed unit fed).cry.msgs, m.unit = unit.val ∧ 0 < m.cls ∧ m.done = false) →
      exec (.suspendRestore unit fed) s = .next (s.noteFed unit fed)) ∧
    ((∀ m ∈ (s.noteFed unit fed).cry.msgs, m.unit = unit.val → 0 < m.cls → m.done = true) → ∃ t, exec (.suspendRestore unit fed) s = .next t ∧
      (∀ m ∈ t.cry.msgs, m.unit = unit.val → m.suspended = false) ∧ t.cry.msgs.map (·.ctx) = s.cry.msgs.map (·.ctx) ∧ Keeps s t [.cry] [])) ∧
  (∀ (m : Msg) (s : State), s.cry.msgs = [m] → m.suspended = true → m.long = false → 1000 < (s.disp.tick + 2 ^ 32 - m.suspTick) % 2 ^ 32 →
    Counts s s.longSuspends (engCipher m.unit) CX.CX_LONG_SUSPEND 1 ∧ s.longSuspends.longSuspends = s.longSuspends)

/-- R217, R220, R221, R236, row CIPHER_JOB_COMPLETE: a REPLAY counts in the SA's LATE and discards the job; a verified open marks its counter accepted and
counts its packet; a seal goes to its queue in the black pages that it holds; a message that has not started, is suspended, or stands behind an earlier
seal of its SA and class, goes on. -/
def Obligations.CompletionsCountAndAccept : Prop :=
  ∀ (ctx : Fin 65536) (m : Msg) (d : CJob) (sa : Nat) (x : Sa) (s : State), (s.cry.msgs.find? fun m => m.ctx = ctx.val) = some m →
    (s.disp.jobs.look ctx).map (·.work) = some (.crypto d) → m.sa = some sa → s.cry.sas.look sa = some x → m.ctx = ctx →
    (m.started = false ∨ m.suspended = true ∨ s.behindSeal m = true → exec (.cipherJobComplete ctx) s = .next s) ∧
    (m.started = true → m.suspended = false → m.isSeal = false →
      (m.status = Rec.replay →
        ∃ u : State, exec (.cipherJobComplete ctx) s = .next (u.discardJob ctx) ∧
          u.cry.sas.look sa = some { x with late := satAdd (2 ^ 64 - 1) x.late 1 } ∧ Counts s u (engCipher m.unit) CX.CX_MSGS 1 ∧
          Keeps s u [.cry] [(engCipher m.unit, CX.CX_MSGS)]) ∧
      (m.status = Rec.authFail → x.fmt.alarm = 0 →
        ∃ u : State, exec (.cipherJobComplete ctx) s = .next (u.discardJob ctx) ∧
          (u.cry.sas.look sa).map (·.notValid) = some (satAdd (2 ^ 64 - 1) x.notValid 1) ∧ u.cry.slots = s.cry.slots ∧
          Counts s u (engCipher m.unit) CX.CX_AUTH_FAIL 1 ∧
          Keeps s u [.cry] [(engCipher m.unit, CX.CX_MSGS), (engCipher m.unit, CX.CX_AUTH_FAIL)]) ∧
      (∀ (k : Slot), m.status = 0 → s.cry.slots.look m.slot = some k → (s.allocPages true m.out).isSome = true → s.cry.olds = [] →
        x.next = none → k.due = true → k.accepted + m.data ≤ 2 ^ 52 →
        ((k.rep m.sender).fresh x.fmt.window m.counter = true →
          ∃ (u : State) (pages : List Nat), exec (.cipherJobComplete ctx) s = .next (u.opened m d pages) ∧
            u.cry.slots.look m.slot = some { (k.setRep m.sender ((k.rep m.sender).accept m.counter)) with accepted := k.accepted + m.data } ∧
            u.cry.sas.look sa = some { x with pkts := satAdd (2 ^ 64 - 1) x.pkts 1 } ∧ u.cry.msgs = s.cry.msgs.filter (fun y => y.ctx != ctx.val)) ∧
        ((k.rep m.sender).fresh x.fmt.window m.counter = false →
          ∃ u : State, exec (.cipherJobComplete ctx) s = .next (u.discardJob ctx) ∧ u.cry.slots = s.cry.slots ∧
            u.cry.sas.look sa = some { x with late := satAdd (2 ^ 64 - 1) x.late 1 }))) ∧
    (∀ q, m.started = true → m.suspended = false → m.status = 0 → m.isSeal = true → s.behindSeal m = false → d.dest = .queue q → s.cry.olds = [] →
      ∃ u : State, exec (.cipherJobComplete ctx) s = .next (u.sealedInto q ctx d.dst m.out.length) ∧
        u.cry.sas.look sa = some { x with pkts := satAdd (2 ^ 64 - 1) x.pkts 1 } ∧ u.cry.slots = s.cry.slots ∧
        u.cry.msgs = s.cry.msgs.filter (fun y => y.ctx != ctx.val))

/-- R225, R234: the bytes of a sealed MACsec frame, 32 more than the plain one. -/
def Obligations.MacsecFramesHaveTheLayout : Prop :=
  ∀ (f : Fmt) (k : Slot) (fixed counter an : Nat) (b : List Byte), 12 ≤ b.length → an < 4 →
    (sealMacsec f k fixed counter an b).length = b.length + 32 ∧ part (sealMacsec f k fixed counter an b) 0 12 = b.take 12 ∧
    part (sealMacsec f k fixed counter an b) 12 2 = [0x88, 0xE5] ∧
    fbe (sealMacsec f k fixed counter an b) 14 1 = 0x2C + an ∧
    fbe (sealMacsec f k fixed counter an b) 15 1 = (if b.length - 12 < 48 then b.length - 12 else 0) ∧
    fbe (sealMacsec f k fixed counter an b) 16 4 = counter % 2 ^ 32 ∧
    fbe (sealMacsec f k fixed counter an b) 20 8 = f.sciA % 2 ^ 64

/-- R225, R234 to R236: what one member of a MACsec association seals, another opens: under the same key and salt, with the sealer's fixed field as FIXED_A
and its SCI as SCI_A, a counter within the window and not yet accepted gives the plain frame back. -/
def Obligations.OpenReversesSeal : Prop :=
  ∀ (s : State) (f : Fmt) (k k' : Slot) (x : Sa) (sa slot fixed counter an : Nat) (b : List Byte), 12 ≤ b.length → b.length + 32 ≤ 9600 → an < 4 →
    f.sciA ≠ 0 → f.sciA < 2 ^ 64 →
    (s.cry.sas.find? fun x => x.2.fmt.macsec && !x.2.fmt.tx && f.sciA ≠ 0 && (x.2.fmt.sciA = f.sciA || x.2.fmt.sciB = f.sciA)) = some (sa, x) →
    x.fmt.sciA = f.sciA → x.fmt.fixedA = fixed → s.slotByAn x an = some slot → s.cry.slots.look slot = some k' → k'.key = k.key → k'.salt = k.salt →
    x.expired = false → (k'.rep 0).recover x.fmt.window (counter % 2 ^ 32) = counter → (k'.rep 0).fresh x.fmt.window counter = true →
    (s.openFrame (sealMacsec f k fixed counter an b)).status = 0 ∧ (s.openFrame (sealMacsec f k fixed counter an b)).out = b ∧
      (s.openFrame (sealMacsec f k fixed counter an b)).counter = counter ∧ (s.openFrame (sealMacsec f k fixed counter an b)).sa = some sa ∧
      (s.openFrame (sealMacsec f k fixed counter an b)).slot = slot

/-- R204, R210, R220, R228, R232, rows IV_FIXED_SET, SA_FORMAT, SA_STATS, CIPHER_RUN, SELFTEST_RUN, POOL_BORROW_RETRY. -/
def Obligations.CipherCommandsAnswer : Prop :=
  ∀ (r : Req) (k : Taken) (s : State),
    (Ready ivFixedSetCmd r k s →
      (s.rf engKeys KS.IV_FIXED = fld r.payload 0 4 → Answers (.ivFixedSet r) s k St.noChange 0 (fun _ => []) Unchanged) ∧
      (s.rf engKeys KS.IV_FIXED ≠ fld r.payload 0 4 → s.rf engKeys KS.IV_FIXED ≠ 0 →
        Answers (.ivFixedSet r) s k St.collision 0 (fun _ => []) Unchanged) ∧
      (s.rf engKeys KS.IV_FIXED = 0 → fld r.payload 0 4 ≠ 0 → Answers (.ivFixedSet r) s k St.ok 0 (fun _ => []) fun s t =>
        t.rf engKeys KS.IV_FIXED = fld r.payload 0 4 ∧ t.rf engKeys KS.FIXED_SRC = 2 ∧
          Keeps s t [] [(engKeys, KS.IV_FIXED), (engKeys, KS.FIXED_SRC)])) ∧
    (Ready saFormatCmd r k s → (s.cry.sas.look (fld r.payload 0 2) = none → Answers (.saFormat r) s k St.notReady 0 (fun _ => []) Unchanged) ∧
      (∀ x f, s.cry.sas.look (fld r.payload 0 2) = some x → f = parseFmt (r.payload.drop 4) →
        (x.fmt = f → Answers (.saFormat r) s k St.noChange 0 (fun _ => []) Unchanged) ∧
        (x.fmt ≠ f → x.fmt.format ≠ f.format → Answers (.saFormat r) s k St.badParam 4 (fun _ => []) Unchanged) ∧
        (x.fmt.tx = false → f = { x.fmt with window := f.window, alarm := f.alarm } → x.fmt ≠ f → s.sciTaken (fld r.payload 0 2) f = false →
          Answers (.saFormat r) s k St.ok 0 (fun _ => []) fun s t =>
            t.cry.sas.look (fld r.payload 0 2) = some { x with fmt := f } ∧
              (∀ n y, n ∉ x.slots → s.cry.slots.look n = some y → t.cry.slots.look n = some y) ∧ Keeps s t [.cry] []))) ∧
    (Ready saStatsCmd r k s → (s.cry.sas.look (fld r.payload 0 2) = none → Answers (.saStats r) s k St.notReady 0 (fun _ => []) Unchanged) ∧
      (∀ x, s.cry.sas.look (fld r.payload 0 2) = some x →
        (fld r.payload 2 1 = 0 → Answers (.saStats r) s k St.ok 0 (fun u => saStats u (fld r.payload 0 2) x) Unchanged) ∧
        (fld r.payload 2 1 = 1 → Answers (.saStats r) s k St.ok 0 (fun u => saStats u (fld r.payload 0 2) x) fun s t =>
          t.cry.sas.look (fld r.payload 0 2) = some { x with pkts := 0, late := 0, notValid := 0, noSa := 0 } ∧ t.cry.slots = s.cry.slots ∧
            Keeps s t [.cry] []))) ∧
    (Ready (cipherRunCmd []) r k s →
      (s.cry.sas.look (fld r.payload 2 2) = none → Answers (.cipherRun r []) s k St.notReady 0 (fun _ => []) Unchanged) ∧
      (∀ x, s.cry.sas.look (fld r.payload 2 2) = some x → fld r.payload 0 1 = 1 → x.fmt.macsec = true → x.fmt.dir = 1 →
        (x.mgmt = false → Answers (.cipherRun r []) s k St.badParam 2 (fun _ => []) Unchanged) ∧
        (x.mgmt = true → s.borrow = none ∨ s.on engBond BD.BARRED = true → Waits (.cipherRun r []) s k (.engineRun 0x0602) Unchanged) ∧
        (∀ n y out, x.mgmt = true → s.borrow = some n → s.on engBond BD.BARRED = false → s.cry.slots.look x.cur = some y → x.expired = false →
          s.rf engKeys KS.IV_FIXED ≠ 0 → x.next = none → y.volume + ((r.payload.drop 8).length - 12) ≤ 2 ^ 52 → y.due = true →
          (r.payload.drop 8).length ≤ 4000 → out = sealMacsec x.fmt y (s.rf engKeys KS.IV_FIXED) y.counter x.an (r.payload.drop 8) →
          Answers (.cipherRun r []) s k St.ok 0
            (fun t => [0, byte (t.punit (engCipher n))] ++ le 2 (fld r.payload 2 2) ++ le 4 (s.rf engKeys KS.IV_FIXED) ++ le 8 y.counter ++
              le 2 out.length ++ [byte x.an, 0] ++ le 4 t.short ++
              le 4 ((t.short + (cipherBlocks ((r.payload.drop 8).length - 12) - 1) + 36) % 2 ^ 32) ++ le 2 x.cur ++ [0, 0] ++ out)
            fun s t => (t.cry.slots.look x.cur).map (·.counter) = some (y.counter + 1) ∧ Counts s t (engCipher n) CX.CX_MSGS 1 ∧
              (t.cry.sas.look (fld r.payload 2 2)).map (·.pkts) = some (satAdd (2 ^ 64 - 1) x.pkts 1) ∧
              Keeps s t [.cry, .freeCtr] [(engCipher n, CX.CX_MSGS), (engCipher n, CX.CX_KEY_MISS)]))) ∧
    (∀ (pass : Bool) (us : Nat), Ready (selftestRunCmd pass us) r k s →
      (s.unitWindow (fld r.payload 0 1) = none →
        (fld r.payload 0 1 ∉ s.cry.pool → Answers (.selftestRun r pass us) s k St.unitFailed 0 (fun _ => []) Unchanged) ∧
        (fld r.payload 0 1 ∈ s.cry.pool → s.cry.testing = [] →
          Answers (.selftestRun r pass us) s k St.ok 0 (fun _ => [byte (bit (!pass)), 0] ++ le 2 us) fun s t => Keeps s t [.cry] [])) ∧
      (∀ w, s.unitWindow (fld r.payload 0 1) = some w →
        (s.engState (engCipher w) = 4 ∨ s.engState (engCipher w) = 5 →
          Answers (.selftestRun r pass us) s k St.unitFailed 0 (fun _ => []) Unchanged) ∧
        (s.engState (engCipher w) ≠ 4 → s.engState (engCipher w) ≠ 5 →
          (s.testable w = false → Waits (.selftestRun r pass us) s k (.engineRun 0x0603) Unchanged) ∧
          (s.testable w = true → pass = true → (∀ x ∈ s.disp.jobs, x.2.work ≠ .kat w) →
            Answers (.selftestRun r pass us) s k St.ok 0 (fun _ => [0, 0] ++ le 2 us) fun s t =>
              t.on (engCipher w) CX.KAT_PASS = true ∧ Counts s t (engCipher w) CX.KAT_RUNS 1 ∧
                Keeps s t [.cry, .freeCtr] [(engCipher w, CX.KAT_PASS), (engCipher w, CX.KAT_RUN), (engCipher w, CX.KAT_RUNS)])))) ∧
    (∀ (turn : Nat) (giveUp pass : Bool) (us : Nat) (faults : List FaultCause),
      ((s.chan.waits.filter fun w => w.why.borrows)[turn]? = none → exec (.poolBorrowRetry ⟨turn, giveUp⟩ pass us faults) s = .next s) ∧
      (∀ w x, (s.chan.waits.filter fun w => w.why.borrows)[turn]? = some w → w.why = .engineRun 0x0603 → w.cmd.op = 0x0603 →
        (selftestRunCmd true us).first w.cmd.req s = none → s.unitWindow (fld w.cmd.req.payload 0 1) = some x → s.engState (engCipher x) ≠ 4 →
        s.engState (engCipher x) ≠ 5 → s.testable x = true → (∀ y ∈ s.disp.jobs, y.2.work ≠ .kat x) →
        Ends (.poolBorrowRetry ⟨turn, giveUp⟩ true us faults) s w St.ok 0 (fun _ => [0, 0] ++ le 2 us) fun s t => t.on (engCipher x) CX.KAT_PASS = true ∧
          Counts s t (engCipher x) CX.KAT_RUNS 1 ∧
          Keeps s t [.cry, .freeCtr] [(engCipher x, CX.KAT_PASS), (engCipher x, CX.KAT_RUN), (engCipher x, CX.KAT_RUNS)]) ∧
      (∀ w x, (s.chan.waits.filter fun w => w.why.borrows)[turn]? = some w → w.why = .engineRun 0x0602 → w.cmd.op = 0x0602 →
        (cipherRunCmd faults).first w.cmd.req s = none → s.cry.sas.look (fld w.cmd.req.payload 2 2) = some x →
        cipherRunChecks w.cmd.req.payload s = none → s.borrow = none →
        Ends (.poolBorrowRetry ⟨turn, true⟩ pass us faults) s w St.busy 6 (fun _ => []) Unchanged))

/-! ### Keys, random numbers and alarms (R254 to R290) -/

/-- The fields of the entry buffer (R286). -/
def entryFlds : List (Nat × Fld) := (List.range 16).map (fun i => (engCmd, VS.KE_DATA.idx i)) ++ [(engCmd, VS.FILLED)]

/-- The entry buffer is clear (R258). -/
def EntryClear (t : State) : Prop := (∀ i < 16, t.rf engCmd (VS.KE_DATA.idx i) = 0) ∧ t.rf engCmd VS.FILLED = 0

/-- R256, R258, R286, rows KE_DATA_WRITE, KE_CLEAR_WRITE, KE_BUFFER_TIMEOUT. -/
def Obligations.EntryBufferFillsAndClears : Prop :=
  ∀ s : State,
    (∀ (word : Fin 16) (v : Word), ∃ t, exec (.keDataWrite word v) s = .next t ∧ t.rf engCmd (VS.KE_DATA.idx word) = v.toNat ∧
      bitOf (t.rf engCmd VS.FILLED) word = true ∧ Keeps s t [] [(engCmd, VS.KE_DATA.idx word), (engCmd, VS.FILLED)]) ∧
    (∀ v : Word, v.getLsbD 0 = false → exec (.keClearWrite v) s = .next s) ∧
    (∀ v : Word, v.getLsbD 0 = true → ∃ t, exec (.keClearWrite v) s = .next t ∧ EntryClear t ∧ Keeps s t [] entryFlds) ∧
    (∃ t, exec .keBufferTimeout s = .next t ∧ EntryClear t ∧ Keeps s t [] entryFlds)

/-- The registers in which a slot that is filled shows. -/
def slotFlds : List (Nat × Fld) := [(engKeys, KS.KS_COMMITS), (engKeys, KS.ZEROIZED), (engKeys, KS.SLOTS_USED), (engKeys, KS.HWM_SLOTS)]

/-- The registers of a key-wrap operation on engine `u`. -/
def wrapFlds (u : Nat) : List (Nat × Fld) := [(engWrap, KW.KW_WRAPS), (engCipher u, CX.CX_MSGS), (engCipher u, CX.CX_KEY_MISS)]

/-- R257, R258: what KEY_COMMIT looks at first, in this order: every word written (12, or 14 of a wrapped key), then the digest of the buffer. -/
def CommitLooksFirst : Prop :=
  ∀ (r : Req) (k : Taken) (s : State) (words : Nat), Ready keyCommitCmd r k s → words = (if fld r.payload 2 1 = 1 then 14 else 12) →
    (s.rf engCmd VS.FILLED % 2 ^ words ≠ 2 ^ words - 1 → Answers (.keyCommit r) s k St.notReady 0 (fun _ => []) fun s t =>
      EntryClear t ∧ Keeps s t [] entryFlds) ∧
    (s.rf engCmd VS.FILLED % 2 ^ words = 2 ^ words - 1 → (be 48 (Config.sha384 s.entryBytes).toNat).take 4 ≠ part r.payload 8 4 →
      Answers (.keyCommit r) s k St.integrity 0 (fun _ => []) fun s t =>
        EntryClear t ∧ Counts s t engKeys KS.KS_UNWRAP_FAIL 1 ∧ Keeps s t [] ((engKeys, KS.KS_UNWRAP_FAIL) :: entryFlds))

/-- The buffer is whole and its digest is the one given; past its `words` words it holds zeros. -/
abbrev BufferAccepted (r : Req) (s : State) (words : Nat) : Prop :=
  s.rf engCmd VS.FILLED % 2 ^ words = 2 ^ words - 1 ∧ (be 48 (Config.sha384 s.entryBytes).toNat).take 4 = part r.payload 8 4 ∧
    firstNonzero s.entryBytes (4 * words) (64 - 4 * words) = none

/-- R257, R260: a plain record goes to the slot named, unless that holds a key. -/
def PlainRecordsFillSlots : Prop :=
  ∀ (r : Req) (k : Taken) (s : State) (n : Nat) (rec : List Byte), Ready keyCommitCmd r k s → fld r.payload 2 1 = 0 → fld r.payload 3 1 = 0 →
    n = fld r.payload 0 2 → BufferAccepted r s 12 → rec = s.entryBytes.take 48 → fld rec 45 1 ≠ 5 →
    recCheck rec ((s.namer n).map fun x => (x.2.fmt, x.2.mgmt)) = none →
    (s.cry.slots.has n = true → Answers (.keyCommit r) s k St.collision 0 (fun _ => []) fun s t => EntryClear t ∧ Keeps s t [] entryFlds) ∧
    (s.cry.slots.has n = false → s.cry.retired.contains n = false → s.cry.olds = [] →
      Answers (.keyCommit r) s k St.ok 0 (fun _ => le 2 n ++ [0, 0]) fun s t => EntryClear t ∧ t.cry.slots.look n = some (recSlot rec) ∧
        (∀ i, i ≠ n → t.cry.slots.look i = s.cry.slots.look i) ∧ t.cry.sas = s.cry.sas ∧ (∀ x ∈ t.cry.cache, n ∉ x.2) ∧
        Counts s t engKeys KS.KS_COMMITS 1 ∧ t.on engKeys KS.ZEROIZED = false ∧ Keeps s t [.cry] (slotFlds ++ entryFlds))

/-- R202, R210, R257: a wrapped record is unwrapped under a key-encryption key, on a borrowed engine, which feeds 36 blocks; with none to borrow the
command waits. -/
def WrappedRecordsNeedAnEngine : Prop :=
  ∀ (r : Req) (k : Taken) (s : State) (kek : Slot), Ready keyCommitCmd r k s → fld r.payload 2 1 = 1 → BufferAccepted r s 14 →
    s.cry.slots.look (fld r.payload 4 2) = some kek →
    (kek.usage ≠ 3 → Answers (.keyCommit r) s k St.badParam 4 (fun _ => []) fun s t => EntryClear t ∧ Keeps s t [] entryFlds) ∧
    (kek.usage = 3 → s.borrow = none → Waits (.keyCommit r) s k (.engineRun 0x0620) Unchanged) ∧
    (∀ u, kek.usage = 3 → s.borrow = some u →
      (Config.kwUnwrap kek.key (s.entryBytes.take 56) = none → Answers (.keyCommit r) s k St.integrity 0 (fun _ => []) fun s t =>
        EntryClear t ∧ Counts s t engWrap KW.KW_FAILS 1 ∧ Counts s t engKeys KS.KS_UNWRAP_FAIL 1 ∧
          t.cry.blocks.get u 0 = satAdd (2 ^ 64 - 1) (s.cry.blocks.get u 0) 36 ∧ t.cry.slots = s.cry.slots) ∧
      (∀ v rec n, Config.kwUnwrap kek.key (s.entryBytes.take 56) = some v → rec = be 48 v → fld rec 45 1 ≠ 5 → n = fld r.payload 0 2 →
        fld r.payload 3 1 = 0 → recCheck rec ((s.namer n).map fun x => (x.2.fmt, x.2.mgmt)) = none → s.cry.slots.has n = false →
        s.cry.retired.contains n = false → s.cry.olds = [] →
        Answers (.keyCommit r) s k St.ok 0 (fun _ => le 2 n ++ [0, 0]) fun s t => EntryClear t ∧ t.cry.slots.look n = some (recSlot rec) ∧
          (∀ i, i ≠ n → t.cry.slots.look i = s.cry.slots.look i) ∧ Counts s t engWrap KW.KW_UNWRAPS 1 ∧ Counts s t engKeys KS.KS_COMMITS 1 ∧
          t.cry.blocks.get u 0 = satAdd (2 ^ 64 - 1) (s.cry.blocks.get u 0) 36 ∧
          Keeps s t [.cry, .freeCtr] ((engWrap, KW.KW_UNWRAPS) :: (engCipher u, CX.CX_MSGS) :: (engCipher u, CX.CX_KEY_MISS) :: slotFlds ++ entryFlds)))

/-- R254, R264, R273, R274: a key generated from the DRBG, whose output it waits for, and for an engine that wraps it. -/
def GeneratedKeysWaitForOutput : Prop :=
  ∀ (r : Req) (k : Taken) (s : State) (rel : Bool) (n len : Nat), Ready (keyGenerateCmd (.within rel)) r k s → fld r.payload 2 1 = 0 →
    n = fld r.payload 0 2 → len = drawLen (fld r.payload 3 1) (fld r.payload 4 1) →
    (s.cry.slots.look (fld r.payload 6 2) = none → s.cry.zeroed.contains (fld r.payload 6 2) = true →
      Answers (.keyGenerate r rel) s k St.zeroized 0 (fun _ => []) Unchanged) ∧
    (s.cry.slots.look (fld r.payload 6 2) = none → s.cry.zeroed.contains (fld r.payload 6 2) = false →
      Answers (.keyGenerate r rel) s k St.notReady 0 (fun _ => []) Unchanged) ∧
    (∀ x : Slot, s.cry.slots.look (fld r.payload 6 2) = some x → x.usage = 3 → s.namer n = none → s.cry.slots.has n = false →
      s.cry.retired.contains n = false → s.cry.olds = [] →
      (s.rf engDrbg RNG.STATE = 0 ∨ s.rf engDrbg RNG.STATE = 3 → Answers (.keyGenerate r rel) s k St.rngFail 0 (fun _ => []) Unchanged) ∧
      (s.rf engDrbg RNG.STATE = 1 → Waits (.keyGenerate r rel) s k (.rng len [] false) Unchanged) ∧
      (s.rf engDrbg RNG.STATE = 2 → s.rngLoad + len ≤ 4096 → s.cry.rng.requests < 65536 →
        (rel = false → Waits (.keyGenerate r rel) s k (.rng len (s.drawBytes len).1 false) fun s t =>
          t.cry.rng = { s.cry.rng with requests := s.cry.rng.requests + 1 } ∧ t.cry.slots = s.cry.slots ∧ Keeps s t [.cry, .freeCtr] []) ∧
        (rel = true → s.borrow = none → Waits (.keyGenerate r rel) s k (.rng len (s.drawBytes len).1 true) fun s t =>
          t.cry.slots = s.cry.slots ∧ Keeps s t [.cry, .freeCtr] []) ∧
        (∀ u y, rel = true → s.borrow = some u → y = drawnSlot (fld r.payload 3 1) (fld r.payload 4 1) (s.drawBytes len).1 →
          Answers (.keyGenerate r rel) s k St.ok 0 (fun _ => le 2 n ++ [0, 0] ++ wrapRecord x.key y) fun s t => t.cry.slots.look n = some y ∧
            (∀ i, i ≠ n → t.cry.slots.look i = s.cry.slots.look i) ∧ Counts s t engDrbg RNG.BYTES_OUT len ∧
            Counts s t engKeys KS.KS_COMMITS 1 ∧ Counts s t engWrap KW.KW_WRAPS 1 ∧ Counts s t (engCipher u) CX.CX_MSGS 1 ∧
            Keeps s t [.cry, .freeCtr] ((engDrbg, RNG.BYTES_OUT) :: wrapFlds u ++ slotFlds))))

/-- R270: an erased slot is as one never written; one that is bound stays. -/
def SlotsAreErased : Prop :=
  ∀ (r : Req) (k : Taken) (s : State) (n : Nat), Ready keyEraseCmd r k s → n = fld r.payload 0 2 →
    (fld r.payload 2 1 = 0 →
      (s.slotBound n = true → Answers (.keyErase r) s k St.collision 0 (fun _ => []) Unchanged) ∧
      (s.slotBound n = false → s.cry.slots.has n = false → Answers (.keyErase r) s k St.noChange 0 (fun _ => []) Unchanged) ∧
      (s.slotBound n = false → s.cry.slots.has n = true → Answers (.keyErase r) s k St.ok 0 (fun _ => []) fun s t =>
        t.cry.slots.look n = none ∧ (∀ i, i ≠ n → t.cry.slots.look i = s.cry.slots.look i) ∧ t.cry.zeroed = s.cry.zeroed ∧
          (∀ x ∈ t.cry.cache, n ∉ x.2) ∧ Keeps s t [.cry] [(engKeys, KS.SLOTS_USED), (engKeys, KS.HWM_SLOTS)])) ∧
    (fld r.payload 2 1 = 1 →
      (s.pon.msk.has n = false → Answers (.keyErase r) s k St.noChange 0 (fun _ => []) Unchanged) ∧
      (s.pon.msk.has n = true → Answers (.keyErase r) s k St.ok 0 (fun _ => []) fun s t => t.pon.msk.has n = false ∧ Keeps s t [.pon] []))

/-- R202, R210, R254, R257, R258, R260, R264, R270, R273, R274, rows KEY_COMMIT, KEY_GENERATE, KEY_ERASE. What the DRBG puts out is free values. -/
def Obligations.KeyCommandsFillAndEmptySlots : Prop :=
  CommitLooksFirst ∧ PlainRecordsFillSlots ∧ WrappedRecordsNeedAnEngine ∧ GeneratedKeysWaitForOutput ∧ SlotsAreErased

/-- R265, R267, R268, R270, rows SA_CREATE, SA_STAGE, SA_ROLL, SA_DELETE, SA_QUERY, RX_OVERLAP_EXPIRY. -/
def Obligations.SecurityAssociationsBindAndRoll : Prop :=
  (∀ (r : Req) (k : Taken) (s : State) (n : Nat), n = fld r.payload 0 2 →
    (Ready (saCreateCmd .later) r k s → fld r.payload 4 1 = 0 →
      (s.cry.sas.has n = true → Answers (.saCreate r false) s k St.collision 0 (fun _ => []) Unchanged) ∧
      (∀ y, s.cry.sas.has n = false → s.sciTaken n (parseFmt (r.payload.drop 20)) = false → s.cry.slots.look (fld r.payload 2 2) = some y →
        (s.slotBound (fld r.payload 2 2) = true → Answers (.saCreate r false) s k St.collision 0 (fun _ => []) Unchanged) ∧
        (s.slotBound (fld r.payload 2 2) = false → y.suits (parseFmt (r.payload.drop 20)) (bitOf (fld r.payload 6 1) 0) = true →
          Answers (.saCreate r false) s k St.ok 0 (fun _ => le 2 (fld r.payload 2 2) ++ zeros 58) fun s t =>
            t.cry.sas.look n = some {
              fmt := parseFmt (r.payload.drop 20), mgmt := bitOf (fld r.payload 6 1) 0, cur := fld r.payload 2 2,
              an := fld r.payload 5 1, rollAt := if fld r.payload 8 8 = 0 then 2 ^ 51 else fld r.payload 8 8, overlap := fld r.payload 18 2 } ∧
            t.cry.slots = s.cry.slots ∧ Keeps s t [.cry] [(engKeys, KS.SA_USED)]))) ∧
    (∀ (x : Slot) (f : Fmt) (u m : Nat) (y : Slot), Ready (saCreateCmd .now) r k s → fld r.payload 4 1 = 1 → f = parseFmt (r.payload.drop 20) →
      s.cry.sas.has n = false → s.sciTaken n f = false → s.cry.slots.look (fld r.payload 16 2) = some x → x.usage = 3 →
      s.freeSlot 0 65536 = some m → s.rf engDrbg RNG.STATE = 2 → s.rngLoad + (f.keyLen + 12) ≤ 4096 → s.cry.rng.requests < 65536 →
      s.borrow = some u → y = drawnSlot (if bitOf (fld r.payload 6 1) 0 then 2 else 1) f.keyLen (s.drawBytes (f.keyLen + 12)).1 →
      Answers (.saCreate r true) s k St.ok 0 (fun _ => le 2 m ++ [0, 0] ++ wrapRecord x.key y) fun s t =>
        t.cry.sas.look n = some (saOf r.payload m) ∧ t.cry.slots.look m = some y ∧ Counts s t engWrap KW.KW_WRAPS 1 ∧
          Counts s t engDrbg RNG.BYTES_OUT (f.keyLen + 12) ∧
          Keeps s t [.cry, .freeCtr] ((engKeys, KS.SA_USED) :: (engDrbg, RNG.BYTES_OUT) :: wrapFlds u ++ slotFlds)) ∧
    (Ready saStageCmd r k s →
      (s.cry.sas.look n = none → Answers (.saStage r) s k St.notReady 0 (fun _ => []) Unchanged) ∧
      (∀ x, s.cry.sas.look n = some x →
        (x.next = some (fld r.payload 2 2, fld r.payload 4 1) → Answers (.saStage r) s k St.noChange 0 (fun _ => []) Unchanged) ∧
        (∀ y, x.next = none → s.cry.slots.look (fld r.payload 2 2) = some y →
          (s.slotBound (fld r.payload 2 2) = true → Answers (.saStage r) s k St.collision 0 (fun _ => []) Unchanged) ∧
          (s.slotBound (fld r.payload 2 2) = false → y.suits x.fmt x.mgmt = false → Answers (.saStage r) s k St.badParam 2 (fun _ => []) Unchanged) ∧
          (s.slotBound (fld r.payload 2 2) = false → y.suits x.fmt x.mgmt = true → x.expired = false →
            Answers (.saStage r) s k St.ok 0 (fun _ => []) fun s t =>
              t.cry.sas.look n = some { x with next := some (fld r.payload 2 2, fld r.payload 4 1) } ∧ Keeps s t [.cry] [])))) ∧
    (Ready saRollCmd r k s →
      ((s.cry.sas.look n).bind (·.next) = none → Answers (.saRoll r) s k St.notReady 0 (fun _ => []) Unchanged) ∧
      (∀ x new mode, s.cry.sas.look n = some x → x.next = some (new, mode) → x.expired = false → new ≠ x.cur →
        (x.fmt.tx = true → s.slotInFlight x.cur = false →
          Answers (.saRoll r) s k St.ok 0 (fun _ => []) fun s t =>
            t.cry.sas.look n = some { x with cur := new, an := (x.an + 1) % 4, next := none } ∧ t.cry.slots.look x.cur = none ∧
              t.cry.slots.look new = s.cry.slots.look new ∧ Counts s t engKeys KS.KS_ROLLS 1 ∧
              Cued s t 0x6022 (le 2 n ++ [1, byte ((x.an + 1) % 4)] ++ le 2 new ++ le 2 x.cur)) ∧
        (x.fmt.tx = false → x.prev = none →
          Answers (.saRoll r) s k St.ok 0 (fun _ => []) fun s t =>
            t.cry.sas.look n = some { x with cur := new, an := (x.an + 1) % 4, next := none, prev := some x.cur } ∧ t.cry.slots = s.cry.slots ∧
              Counts s t engKeys KS.KS_ROLLS 1 ∧ Keeps s t [.cry, .chan] [(engKeys, KS.KS_ROLLS), cueFld]))) ∧
    (Ready saDeleteCmd r k s →
      (s.cry.sas.look n = none → Answers (.saDelete r) s k St.noChange 0 (fun _ => []) Unchanged) ∧
      (s.cry.sas.has n = true → s.saInCircuit n = true → Answers (.saDelete r) s k St.collision 0 (fun _ => []) Unchanged) ∧
      (∀ x, s.cry.sas.look n = some x → s.saInCircuit n = false → Answers (.saDelete r) s k St.ok 0 (fun _ => []) fun s t =>
        t.cry.sas.look n = none ∧ (fld r.payload 2 1 = 0 → t.cry.slots = s.cry.slots) ∧
          (fld r.payload 2 1 = 1 → ∀ i ∈ x.slots, t.cry.slots.look i = none) ∧
          Keeps s t [.cry] [(engKeys, KS.SA_USED), (engKeys, KS.SLOTS_USED), (engKeys, KS.HWM_SLOTS)])) ∧
    (Ready saQueryCmd r k s →
      (s.cry.sas.look n = none → Answers (.saQuery r) s k St.notReady 0 (fun _ => []) Unchanged) ∧
      (∀ x, s.cry.sas.look n = some x → Answers (.saQuery r) s k St.ok 0 (fun t => saReport t n x) Unchanged))) ∧
  (∀ (sa : BitVec 16) (s : State),
    ((s.cry.sas.look sa.toNat).bind (·.prev) = none → exec (.rxOverlapExpiry sa) s = .next s) ∧
    (∀ x p, s.cry.sas.look sa.toNat = some x → x.prev = some p → ∃ t, exec (.rxOverlapExpiry sa) s = .next t ∧
      t.cry.sas.look sa.toNat = some { x with prev := none } ∧ t.cry.slots.look p = none ∧
      Keeps s t [.cry] [(engKeys, KS.SLOTS_USED), (engKeys, KS.HWM_SLOTS)]))

/-- What a seal of bytes `b` puts out (R234, R238, R239). -/
def sealBytes (s : State) (d : CJob) (f : Fmt) (k : Slot) (an : Nat) (b : List Byte) : List Byte :=
  if f.macsec then sealMacsec f k (s.rf engKeys KS.IV_FIXED) k.counter an b else sealIxyel f k d.sa (s.rf engKeys KS.IV_FIXED) k.counter an d.hdr b

/-- R266, R267, R269, row SEAL_JOB_START, in both frame formats: past ROLL_AT with a successor in MODE 0 the seal takes the successor's counter, under the next
association number, and the old slot is erased; a seal that would pass 2^52 bytes with no successor ends EXPIRED and makes the SA so; an EXPIRED SA seals
nothing. -/
def Obligations.VolumeCeilingSwitchesOrExpires : Prop :=
  ∀ (ctx : Fin 65536) (urgent : Option Nat) (rotating fed : List Nat) (wait : Nat) (m : Msg) (d : CJob) (b : List Byte) (x : Sa) (k : Slot) (n : Nat)
    (s : State), fed = urgent.toList ++ rotating →
    s.msgOf ctx true = some (m, d) → (s.noteFed m.unit fed).mayFeed m = true → s.on engBond BD.BARRED = false → s.cry.sas.look d.sa = some x →
    s.cry.slots.look x.cur = some k → x.fmt.tx = true → b = s.readPages d.src d.len → b.length + x.fmt.overhead ≤ 9600 →
    s.rf engKeys KS.IV_FIXED ≠ 0 → (x.fmt.macsec = true ∧ n + 12 = b.length ∨ x.fmt.macsec = false ∧ n + (d.hdr + 2) = b.length ∧ fbe b d.hdr 2 = 0x88D8) →
    (∀ new y, x.expired = false → x.next = some (new, 0) → x.rollAt ≤ k.volume → new ≠ x.cur → s.cry.slots.look new = some y → y.volume = 0 →
      s.slotInFlight x.cur = false → y.due = true → (s.allocPages false (sealBytes s d x.fmt y ((x.an + 1) % 4) b)).isSome = true →
      ∃ t, exec (.sealJobStart ctx urgent rotating wait) s = .next t ∧
        Runs t ctx (fun z => z.status = 0 ∧ z.slot = new ∧ z.counter = y.counter ∧ z.an = (x.an + 1) % 4 ∧
          z.out = sealBytes s d x.fmt y ((x.an + 1) % 4) b) ∧ t.cry.slots.look x.cur = none ∧
        t.cry.slots.look new = some { y with counter := y.counter + 1, volume := n } ∧ Counts s t engKeys KS.KS_ROLLS 1) ∧
    (x.expired = false → x.next = none → 2 ^ 52 < k.volume + n →
      ∃ t, exec (.sealJobStart ctx urgent rotating wait) s = .next t ∧ Runs t ctx (fun z => z.status = Rec.expired ∧ z.counter = 0) ∧
        (t.cry.sas.look d.sa).map (·.expired) = some true ∧ t.cry.slots = s.cry.slots ∧ Counts s t engKeys KS.KS_EXPIRIES 1) ∧
    (x.expired = true →
      ∃ t, exec (.sealJobStart ctx urgent rotating wait) s = .next t ∧ Runs t ctx (fun z => z.status = Rec.expired ∧ z.counter = 0) ∧
        t.cry.slots = s.cry.slots ∧ t.cry.sas = s.cry.sas)

/-- R271, R275, row ENTROPY_WINDOW: a window fails with a run of 41 identical samples, else with 410 equal to its first; a failure stops the DRBG, discards what
is not released and ends every request that waits. -/
def WindowsAreTested : Prop :=
  ∀ (s : State) (run apt : Fin 513),
    (s.rf engDrbg RNG.STATE ≠ 1 → s.rf engDrbg RNG.STATE ≠ 2 → exec (.entropyWindow run apt) s = .next s) ∧
    (∀ test, test = (if 41 ≤ run.val then 1 else 2) → s.rf engDrbg RNG.STATE = 1 ∨ s.rf engDrbg RNG.STATE = 2 → 41 ≤ run.val ∨ 410 ≤ apt.val →
      ∃ t, exec (.entropyWindow run apt) s = .next t ∧ t.rf engDrbg RNG.STATE = 3 ∧ t.rf engDrbg RNG.FAIL_TEST = test ∧
        Counts s t engDrbg RNG.RNG_FAILS 1 ∧ Counts s t engDrbg RNG.DISCARDED s.rngLost ∧ t.cry.rng.inner = [] ∧
        ∀ w ∈ t.chan.waits, w.why.isRng = false ∧ w.why ≠ .unit engDrbg) ∧
    (run.val < 41 → apt.val < 410 →
      (s.rf engDrbg RNG.STATE = 1 → ∃ t, exec (.entropyWindow run apt) s = .next t ∧
        t.rf engDrbg RNG.APT_MAX = max (s.rf engDrbg RNG.APT_MAX) apt ∧ Keeps s t [] [(engDrbg, RNG.APT_MAX)]) ∧
      (s.rf engDrbg RNG.STATE = 2 → ∃ t, exec (.entropyWindow run apt) s = .next t ∧
        t.rf engDrbg RNG.APT_MAX = max (s.rf engDrbg RNG.APT_MAX) apt ∧
        (∀ w ∈ s.chan.waits, ∀ n out p, w.why = .rng n out p → out ≠ [] → { w with why := .rng n out true } ∈ t.chan.waits) ∧
        (∀ w ∈ t.chan.waits, ∀ n out, w.why = .rng n out true → out ≠ [] ∧ ∃ p, { w with why := .rng n out p } ∈ s.chan.waits) ∧
        Keeps s t [.chan, .cry, .freeCtr] [(engDrbg, RNG.APT_MAX), (engDrbg, RNG.RESEEDS)]))

/-- R272, R274, rows DRBG_RESEED, DRBG_STARTUP_COMPLETE: a reseed takes its 1,024 samples; at the end of STARTUP the DRBG runs, or its tests failed. -/
def DrbgStartsAndReseeds : Prop :=
  ∀ s : State,
    (s.rf engDrbg RNG.STATE = 2 → s.cry.rng.samples = 1024 → ∃ t, exec .drbgReseed s = .next t ∧ Counts s t engDrbg RNG.RESEEDS 1 ∧
      t.cry.rng.samples = 0 ∧ Keeps s t [.chan, .cry, .freeCtr] [(engDrbg, RNG.RESEEDS)]) ∧
    (s.rf engDrbg RNG.STATE ≠ 2 ∨ s.cry.rng.samples ≠ 1024 → exec .drbgReseed s = .next s) ∧
    (s.rf engDrbg RNG.STATE = 1 →
      (∃ t, exec (.drbgStartupComplete true) s = .next t ∧ t.rf engDrbg RNG.STATE = 2 ∧ (∀ w ∈ t.chan.waits, w.why ≠ .unit engDrbg) ∧
        (∀ w, s.chan.waits = [w] → s.cry.rng.inner = [] → s.pon.rankDone = true → s.cry.rng.requests < 65536 → ∀ n, w.why = .rng n [] false →
          t.chan.waits = [{ w with why := .rng n (s.drawBytes n).1 false }])) ∧
      (∃ t, exec (.drbgStartupComplete false) s = .next t ∧ t.rf engDrbg RNG.STATE = 3 ∧ t.rf engDrbg RNG.FAIL_TEST = 3 ∧
        Counts s t engDrbg RNG.RNG_FAILS 1 ∧ ∀ w ∈ t.chan.waits, w.why.isRng = false ∧ w.why ≠ .unit engDrbg)) ∧
    (s.rf engDrbg RNG.STATE ≠ 1 → ∀ pass, exec (.drbgStartupComplete pass) s = .next s)

/-- R273, row RNG_RELEASE, for one request that waits: output whose window has passed reaches it; other output does not. -/
def OutputIsReleased : Prop :=
  ∀ (s : State) (pct : Bool),
    (s.rf engDrbg RNG.STATE ≠ 2 → exec (.rngRelease pct) s = .next s) ∧
    (∀ (w : Wait) (n : Nat) (out : List Byte), s.rf engDrbg RNG.STATE = 2 → s.chan.waits = [w] → s.cry.rng.inner = [] → w.cmd.op = 0x0628 →
      n = fld w.cmd.req.payload 0 2 → out.length = n →
      (w.why = .rng n out true → (rngReadCmd (.given out)).first w.cmd.req s.ordered = none →
        Ends (.rngRelease pct) s w St.ok 0 (fun _ => out) (fun s t => Counts s t engDrbg RNG.BYTES_OUT n ∧ Keeps s t [] [(engDrbg, RNG.BYTES_OUT)])
          State.afterCommit) ∧
      (w.why = .rng n out false → out ≠ [] → exec (.rngRelease pct) s = .next s.afterCommit))

/-- R273, R274, rows RNG_READ, RNG_RESTART: a read is refused while the DRBG is stopped, waits while it starts up and until its output's window has passed; a
restart waits for STARTUP's end. -/
def RngCommandsAnswer : Prop :=
  ∀ (r : Req) (k : Taken) (rel : Bool) (s : State),
    (∀ n, n = fld r.payload 0 2 → Ready (rngReadCmd (.within rel)) r k s →
      (s.rf engDrbg RNG.STATE = 0 ∨ s.rf engDrbg RNG.STATE = 3 → Answers (.rngRead r rel) s k St.rngFail 0 (fun _ => []) Unchanged) ∧
      (s.rf engDrbg RNG.STATE = 1 → Waits (.rngRead r rel) s k (.rng n [] false) Unchanged) ∧
      (s.rf engDrbg RNG.STATE = 2 → s.rngLoad ≠ 0 → 4096 < s.rngLoad + n → Waits (.rngRead r rel) s k (.rng n [] false) Unchanged) ∧
      (s.rf engDrbg RNG.STATE = 2 → s.rngLoad + n ≤ 4096 → s.cry.rng.requests < 65536 →
        (rel = false → Waits (.rngRead r rel) s k (.rng n (s.drawBytes n).1 false) fun s t =>
          t.cry = { s.cry with rng := { s.cry.rng with requests := s.cry.rng.requests + 1 } } ∧ Keeps s t [.cry, .freeCtr] []) ∧
        (rel = true → Answers (.rngRead r rel) s k St.ok 0 (fun _ => (s.drawBytes n).1) fun s t => Counts s t engDrbg RNG.BYTES_OUT n ∧
          t.cry = { s.cry with rng := { s.cry.rng with requests := s.cry.rng.requests + 1 } } ∧
          Keeps s t [.cry, .freeCtr] [(engDrbg, RNG.BYTES_OUT)]))) ∧
    (Ready rngRestartCmd r k s →
      (s.rf engDrbg RNG.STATE = 1 ∨ s.rf engDrbg RNG.STATE = 2 → Answers (.rngRestart r) s k St.noChange 0 (fun _ => []) Unchanged) ∧
      (s.rf engDrbg RNG.STATE = 0 ∨ s.rf engDrbg RNG.STATE = 3 →
        Waits (.rngRestart r) s k (.unit engDrbg) fun s t => t.rf engDrbg RNG.STATE = 1 ∧ t.cry.rng.requests = 0 ∧
          Keeps s t [.cry] [(engDrbg, RNG.STATE)]))

/-- R271 to R275, rows ENTROPY_WINDOW, DRBG_RESEED, DRBG_STARTUP_COMPLETE, RNG_RELEASE, RNG_READ, RNG_RESTART. The bytes put out are free values. -/
def Obligations.RandomBitsFollowTheDrbgState : Prop := WindowsAreTested ∧ DrbgStartsAndReseeds ∧ OutputIsReleased ∧ RngCommandsAnswer

/-- Secrets are gone (R280): key slots and cached keys, PON-layer keys, authenticators, sessions, the entry buffer. -/
def SecretsErased (t : State) : Prop :=
  t.cry.slots = [] ∧ t.cry.cache = [] ∧ t.pon.msk = [] ∧ t.pon.keys = [] ∧ t.chan.officerA = none ∧ t.chan.maintA = none ∧ t.chan.sessions = [] ∧ EntryClear t

/-- Row `i` is a hardware alarm of bit `b` on a part that is up: the secrets are gone and the part is held in a cold reset of cause 6 (R276, R279). -/
def AlarmResets (i : Instr) (s : State) (b : Nat) : Prop :=
  ∃ t, exec i s = .next t ∧ SecretsErased t ∧ t.boot.phase = .held ∧ t.boot.hold = true ∧ bitOf (t.rf engAlarm AL.AL_CAUSE) b = true ∧
    t.rf engRst RST.LAST_CAUSE = 6 ∧ t.rf engRst RST.LAST_SCOPE = 1

/-- R276, R278 to R282, rows TAMPER_LOOP_SAMPLE, SUPPLY_ALARM, SLOWCLK_ALARM, REFCLK_ALARM, LOCKSTEP_ALARM, ALARM_SOURCES_ARMED, ALARM_HOLD_RELEASE,
ZEROIZE. -/
def Obligations.AlarmsEraseAndHold : Prop :=
  (∀ (s : State) (verified : Bool),
    (∃ t, exec .alarmSourcesArmed s = .next t ∧ t.boot = { s.boot with armed := true } ∧ Keeps s t [.boot] []) ∧
    (s.boot.hold = false → exec .alarmHoldRelease s = .next s) ∧
    (s.boot.hold = true → ∃ t, exec .alarmHoldRelease s = .next t ∧ t.boot.hold = false ∧ t.rf engAlarm AL.AL_NOW = 0 ∧
      t.boot.phase = s.boot.phase ∧ Keeps s t [.boot] [(engAlarm, AL.AL_NOW)]) ∧
    (∃ t, exec (.tamperLoopSample true verified) s = .next t ∧ t.boot = { s.boot with loopBad := 0 } ∧
      bitOf (t.rf engAlarm AL.AL_NOW) 0 = false ∧ (∀ b, 0 < b → b < 10 → bitOf (t.rf engAlarm AL.AL_NOW) b = bitOf (s.rf engAlarm AL.AL_NOW) b) ∧
      Keeps s t [.boot] [(engSens, SEN.LOOP_OK), (engAlarm, AL.AL_NOW)]) ∧
    (s.boot.loopBad = 0 → ∃ t, exec (.tamperLoopSample false verified) s = .next t ∧ t.boot.loopBad = 1 ∧
      Keeps s t [.boot] [(engSens, SEN.LOOP_OK)]) ∧
    (s.boot.armed = false → (∀ rail, exec (.supplyAlarm rail verified) s = .next s) ∧ exec (.slowclkAlarm verified) s = .next s) ∧
    (s.boot.refArmed = false → exec (.refclkAlarm verified) s = .next s) ∧
    (s.boot.hold = true → 1 ≤ s.boot.loopBad → ∃ t, exec (.tamperLoopSample false verified) s = .next t ∧
      bitOf (t.rf engAlarm AL.AL_NOW) 0 = true ∧ bitOf (t.rf engAlarm AL.AL_CAUSE) 0 = true ∧
      Keeps s t [.boot] [(engSens, SEN.LOOP_OK), (engAlarm, AL.AL_NOW), (engAlarm, AL.AL_CAUSE)]) ∧
    (s.boot.phase = .up → s.boot.hold = false →
      (1 ≤ s.boot.loopBad → AlarmResets (.tamperLoopSample false verified) s 0) ∧
      (s.boot.armed = true → (∀ rail, AlarmResets (.supplyAlarm rail verified) s 1) ∧ AlarmResets (.slowclkAlarm verified) s 2) ∧
      (s.boot.refArmed = true → AlarmResets (.refclkAlarm verified) s 3) ∧
      AlarmResets (.lockstepAlarm verified) s 6)) ∧
  (∀ (r : Req) (k : Taken) (s : State), Ready (zeroizeCmd true) r k s →
    Answers (.zeroize r true) s k St.ok 0 (fun _ => []) fun s t => SecretsErased t ∧ t.on engKeys KS.ZEROIZED = true ∧
      bitOf (t.rf engAlarm AL.AL_CAUSE) 7 = true ∧ Counts s t engKeys KS.KS_ZEROISES 1 ∧ Counts s t engAlarm AL.ZERO_COUNT 1 ∧
      t.cry.sas = s.cry.sas ∧ t.opt = s.opt ∧ t.rf engKeys KS.IV_FIXED = s.rf engKeys KS.IV_FIXED ∧ t.cry.msgs = [] ∧
      (s.rf engDrbg RNG.STATE = 2 → t.rf engDrbg RNG.STATE = 1))

/-! ### The classifier (R291 to R321) -/

/-- Of the classifier only table `n` changes, to `x`. -/
def OnlyTable (s t : State) (n : Nat) (x : TableC) : Prop :=
  t.cls = { s.cls with tables := t.cls.tables } ∧ t.cls.table n = x ∧ ∀ i, i ≠ n → t.cls.table i = s.cls.table i

/-- Of the classifier only flow entries at the places of `ps` change. -/
def OnlyFlows (s t : State) (ps : List FlowAt) : Prop :=
  t.cls = { s.cls with flows := t.cls.flows, stash := t.cls.stash, adds := t.cls.adds } ∧ ∀ b, b ∉ ps → t.cls.flowGet b = s.cls.flowGet b

/-- A table update can take its context of the general pool (R322, R333). -/
def TableRoom (s : State) : Prop := s.linksUsed ≤ 1048576 ∧ (s.pickCtx [1]).isSome = true

/-- The registers in which a table update's job shows. -/
def jobFlds : List (Nat × Fld) :=
  [(engDisp, DP.DP_JOBS), (engDisp, DP.GEN_USED), (engDisp, DP.GEN_HWM), (engDisp, DP.LINKS_USED), (engDisp, DP.DP_HOLDS), cueFld]

/-- Of the state only the classifier and what the update's job touches change; that job has run to its end. -/
def TableWork (s t : State) (fs : List (Nat × Fld)) : Prop :=
  Counts s t engDisp DP.DP_JOBS 1 ∧ t.disp.jobs.map (·.1) ⊆ s.disp.jobs.map (·.1) ∧ Keeps s t [.cls, .disp, .chan] (jobFlds ++ fs)

/-- R299, R301 to R307, R322, R333, rows TABLE_CONFIG, FLOW_ADD, FLOW_DEL, FLOW_READ, RULE_SET, TABLE_SPLICE, TABLE_COPY_COMPLETE: the lowest free slot of the bucket,
else of the stash; a freed slot takes the oldest stash entry of its bucket; rules are edited on the standby page, which a splice makes active. An
update that changes a table takes a general context for its job, and is answered BUSY where there is none. -/
def Obligations.ClassifierTablesAreEdited : Prop :=
  (∀ (r : Req) (k : Taken) (s : State) (n : Nat) (x : TableC), x = s.cls.table n → n = fld r.payload 0 1 →
    (Ready tableConfigCmd r k s → (fld r.payload 1 1 = 1 → s.cls.exactOthers n < 4) →
      (x.kind = fld r.payload 1 1 → x.fields = part r.payload 4 24 → x.miss = part r.payload 28 16 →
        Answers (.tableConfig r) s k St.noChange 0 (fun _ => []) Unchanged) ∧
      (x.kind ≠ fld r.payload 1 1 ∨ x.fields ≠ part r.payload 4 24 → s.cls.holds n = true →
        Answers (.tableConfig r) s k St.collision 0 (fun _ => []) Unchanged) ∧
      (x.kind ≠ fld r.payload 1 1 ∨ x.fields ≠ part r.payload 4 24 ∨ x.miss ≠ part r.payload 28 16 →
        (x.kind ≠ fld r.payload 1 1 ∨ x.fields ≠ part r.payload 4 24 → s.cls.holds n = false) →
        (TableRoom s → Answers (.tableConfig r) s k St.ok 0 (fun _ => []) fun s t =>
          OnlyTable s t n { x with kind := fld r.payload 1 1, fields := part r.payload 4 24, miss := part r.payload 28 16 } ∧ TableWork s t []) ∧
        (s.hasCtx .datapath = false → s.linksUsed ≤ 1048576 → Answers (.tableConfig r) s k St.busy 3 (fun _ => []) fun s t =>
          Counts s t engDisp DP.DP_NOCTX 1 ∧ Keeps s t [] [(engDisp, DP.DP_NOCTX)]))) ∧
    (∀ old new, Ready ruleSetCmd r k s → x.kind = 2 → old = x.stby.look (fld r.payload 2 2) →
      new = ({ key := part r.payload 4 40, mask := part r.payload 44 40, result := part r.payload 84 16 } : Rule) →
      (s.on (engTable n) TB.COPYING = true → Waits (.ruleSet r) s k (.unit (engTable n)) Unchanged) ∧
      (s.on (engTable n) TB.COPYING = false →
        (fld r.payload 1 1 = 0 → old = none → Answers (.ruleSet r) s k St.noChange 0 (fun _ => []) Unchanged) ∧
        (fld r.payload 1 1 = 0 → old ≠ none → TableRoom s → Answers (.ruleSet r) s k St.ok 0 (fun _ => []) fun s t =>
          OnlyTable s t n { x with stby := x.stby.del (fld r.payload 2 2) } ∧ TableWork s t []) ∧
        (fld r.payload 1 1 = 1 → firstNonzero r.payload (4 + keyLen x.fields) (40 - keyLen x.fields) = none →
          firstNonzero r.payload (44 + keyLen x.fields) (40 - keyLen x.fields) = none →
          (old = some new → Answers (.ruleSet r) s k St.noChange 0 (fun _ => []) Unchanged) ∧
          (old ≠ some new → TableRoom s → Answers (.ruleSet r) s k St.ok 0 (fun _ => []) fun s t =>
            OnlyTable s t n { x with stby := x.stby.put (fld r.payload 2 2) new } ∧ TableWork s t [])))) ∧
    (Ready tableSpliceCmd r k s →
      (s.on (engTable n) TB.COPYING = true → Waits (.tableSplice r) s k (.unit (engTable n)) Unchanged) ∧
      (s.on (engTable n) TB.COPYING = false →
        (x.act = x.stby → Answers (.tableSplice r) s k St.noChange 0 (fun _ => []) Unchanged) ∧
        (x.act ≠ x.stby → TableRoom s → Answers (.tableSplice r) s k St.ok 0 (fun _ => []) fun s t =>
          OnlyTable s t n { x with act := x.stby, stby := x.act } ∧ t.on (engTable n) TB.COPYING = true ∧
            t.rf (engTable n) TB.ACTIVE = 1 - s.rf (engTable n) TB.ACTIVE ∧
            (s.poolUsed 1 + 1 < 57088 → s.disp.dry = [] → Cued s t 0x5003 [byte n, byte (1 - s.rf (engTable n) TB.ACTIVE), 0, 0]) ∧
            TableWork s t [(engTable n, TB.ACTIVE), (engTable n, TB.COPYING)])))) ∧
  (∀ (i : Fin 6) (s : State),
    (s.on (engTable (i + 1)) TB.COPYING = false → exec (.tableCopyComplete i) s = .next s) ∧
    (s.on (engTable (i + 1)) TB.COPYING = true →
      ∃ u : State, exec (.tableCopyComplete i) s = .next (u.rerunUnit (engTable (i + 1))) ∧ u.on (engTable (i + 1)) TB.COPYING = false ∧
        OnlyTable s u (i + 1) { s.cls.table (i + 1) with stby := (s.cls.table (i + 1)).act } ∧
        Keeps s u [.cls] [(engTable (i + 1), TB.COPYING)])) ∧
  (∀ (r : Req) (k : Taken) (s : State) (n : Nat) (new : FlowE), n = fld r.payload 4 1 / 2 % 8 → Ready flowAddCmd r k s →
    s.flowKeyCheck r.payload n 4 5 12 = none →
    new = { table := n, keyLen := fld r.payload 5 1, hit := 0, key := part r.payload 12 24, result := part r.payload 36 16, data := part r.payload 52 16 } →
    (∀ a x, s.cls.findFlow n new.key = some (a, x) → s.cls.flowGet a = some x →
      (fld r.payload 0 1 = 0 → Answers (.flowAdd r) s k St.collision 0 (fun _ => []) Unchanged) ∧
      (fld r.payload 0 1 = 1 → TableRoom s → Answers (.flowAdd r) s k St.ok 0 (fun _ => le 4 a.handle) fun s t =>
        t.cls.flowGet a = some { x with result := new.result, data := new.data } ∧ OnlyFlows s t [a] ∧ TableWork s t [])) ∧
    (s.cls.findFlow n new.key = none →
      (fld r.payload 0 1 = 1 → Answers (.flowAdd r) s k St.notReady 0 (fun _ => []) Unchanged) ∧
      (fld r.payload 0 1 = 0 →
        (∀ i, s.cls.freeSlot (bucketOf n new.key) = some i → TableRoom s → Answers (.flowAdd r) s k St.ok 0 (fun _ => le 4 (2 ^ 31 + i)) fun s t =>
          t.cls.flowGet (.entry i) = some new ∧ OnlyFlows s t [.entry i] ∧ TableWork s t []) ∧
        (s.cls.freeSlot (bucketOf n new.key) = none →
          (∀ j, s.cls.stash.freeFrom 0 65536 = some j → TableRoom s → Answers (.flowAdd r) s k St.ok 0 (fun _ => le 4 (2 ^ 31 + 2 ^ 30 + j)) fun s t =>
            t.cls.flowGet (.stash j) = some { new with order := s.cls.adds } ∧ OnlyFlows s t [.stash j] ∧
              s.rf (engTable 1) FT.FT_STASH_HWM ≤ t.rf (engTable 1) FT.FT_STASH_HWM ∧ TableWork s t [(engTable 1, FT.FT_STASH_HWM)]) ∧
          (s.cls.stash.freeFrom 0 65536 = none → Answers (.flowAdd r) s k St.exhausted 0 (fun _ => []) fun s t =>
            t.cls = { s.cls with exhSec := some s.nowSec } ∧ Counts s t (engTable 1) FT.FT_EXHAUSTED 1 ∧
              (s.cls.exhSec ≠ some s.nowSec → Cued s t 0x5001 ([byte n, 0, 0, 0] ++ le 4 s.cls.used ++ le 4 (s.rf (engTable 1) FT.FT_STASH_HWM))) ∧
              Keeps s t [.cls, .chan] [(engTable 1, FT.FT_EXHAUSTED), cueFld]))))) ∧
  (∀ (r : Req) (k : Taken) (s : State) (n : Nat), n = fld r.payload 0 1 → s.flowKeyCheck r.payload n 0 1 4 = none →
    (Ready flowReadCmd r k s →
      (s.cls.findFlow n (part r.payload 4 24) = none → Answers (.flowRead r) s k St.notReady 0 (fun _ => []) Unchanged) ∧
      (∀ a x, s.cls.findFlow n (part r.payload 4 24) = some (a, x) →
        Answers (.flowRead r) s k St.ok 0 (fun _ => le 4 a.handle ++ x.bytes) Unchanged)) ∧
    (Ready flowDelCmd r k s →
      (s.cls.findFlow n (part r.payload 4 24) = none → Answers (.flowDel r) s k St.noChange 0 (fun _ => []) Unchanged) ∧
      (∀ j x, s.cls.findFlow n (part r.payload 4 24) = some (.stash j, x) → TableRoom s → Answers (.flowDel r) s k St.ok 0 (fun _ => []) fun s t =>
        t.cls.flowGet (.stash j) = none ∧ OnlyFlows s t [.stash j] ∧ TableWork s t []) ∧
      (∀ i x, s.cls.findFlow n (part r.payload 4 24) = some (.entry i, x) → TableRoom s →
        (s.cls.oldestOf x.bucket = none → Answers (.flowDel r) s k St.ok 0 (fun _ => []) fun s t =>
          t.cls.flowGet (.entry i) = none ∧ OnlyFlows s t [.entry i] ∧ TableWork s t []) ∧
        (∀ j y, s.cls.oldestOf x.bucket = some (j, y) → Answers (.flowDel r) s k St.ok 0 (fun _ => []) fun s t =>
          t.cls.flowGet (.entry i) = some { y with order := 0 } ∧ t.cls.flowGet (.stash j) = none ∧
            OnlyFlows s t [.entry i, .stash j] ∧ Counts s t (engTable 1) FT.FT_MOVES 1 ∧
            TableWork s t [(engTable 1, FT.FT_MOVES)]))))

/-- R297, R312, R313: a result block writes only the fields whose SET bit is 1; the arithmetic of the action units and its edges; a load returns what the
store before it wrote; an unset meter is green and spends nothing. -/
def ActionRules : Prop :=
  (∀ m r m' : List Byte, m.length = 32 → r.length = 16 → (bitOf (fld r 0 2) 9 = true → 16 ≤ fld r 11 1 ∧ fld r 11 1 ≤ 28) → m' = applyResult m r →
    m'.length = 32 ∧ Meta.sa m' = (if bitOf (fld r 0 2) 0 then fld r 2 2 else Meta.sa m) ∧
    Meta.queue m' = (if bitOf (fld r 0 2) 1 then fld r 4 2 else Meta.queue m) ∧ Meta.vt m' = (if bitOf (fld r 0 2) 2 then fld r 6 1 else Meta.vt m) ∧
    Meta.lane m' = (if bitOf (fld r 0 2) 3 then fld r 7 1 else Meta.lane m) ∧
    Meta.disp m' = (if bitOf (fld r 0 2) 4 then fld r 8 1 % 4 else Meta.disp m) ∧
    Meta.cls m' = (if bitOf (fld r 0 2) 5 then fld r 8 1 / 4 % 4 else Meta.cls m) ∧
    Meta.prio m' = (if bitOf (fld r 0 2) 6 then fld r 8 1 / 16 % 8 else Meta.prio m) ∧
    Meta.prog m' = (if bitOf (fld r 0 2) 7 then fld r 9 1 else Meta.prog m) ∧ Meta.flow m' = Meta.flow m) ∧
  (∀ a b imm : BitVec 64,
    (∀ op x, (op = 4 → x = a.toInt + b.toInt) → (op = 5 → x = a.toInt - b.toInt) → (op = 7 → x = a.toInt * b.toInt) → op = 4 ∨ op = 5 ∨ op = 7 →
      ∃ y v, auAlu op a b imm = some (y, some v, none) ∧ y = BitVec.ofInt 64 x ∧ (v = false ↔ y.toInt = x)) ∧
    (∀ op, op = 8 ∨ op = 9 → auAlu op a 0 imm = some (0, some false, some true)) ∧
    (∀ op, op = 10 ∨ op = 11 → auAlu op a 0 imm = some (a, some false, some true)) ∧
    auAlu 8 MIN64 (-1) imm = some (MIN64, some true, some false) ∧ auAlu 10 MIN64 (-1) imm = some (0, some true, some false) ∧
    (b ≠ 0 → (a = MIN64 → b ≠ -1) →
      (∃ q, auAlu 8 a b imm = some (q, some false, some false) ∧ q.toInt = a.toInt.tdiv b.toInt) ∧
      (∃ m, auAlu 10 a b imm = some (m, some false, some false) ∧ m.toInt = a.toInt.tmod b.toInt)) ∧
    (64 ≤ b.toNat → (∀ op, op = 16 ∨ op = 17 → auAlu op a b imm = some (0, none, none)) ∧
      auAlu 18 a b imm = some (if a.toInt < 0 then -1 else 0, none, none))) ∧
  (∀ (u u' : Au) (k : KeySrc) (w w' : Nat) (addr x : BitVec 64), u.store k w addr x = .ok u' → Aw.sp w < 2 → Aw.sp w' = Aw.sp w → Aw.sz w' = Aw.sz w →
    u'.load k w' addr = .ok (x.toNat % 2 ^ (8 * Aw.sz w))) ∧
  (∀ (s : State) (i len : Nat), s.cls.meters.look i = none → s.meter i len = (0, s))

/-- R291, R294 to R300, R308 to R318, R333, rows CLASSIFY_FRAME, ACTION_PROGRAM, PROG_LOAD, METER_SET, COUNTER_READ, EXC_READ. -/
def Obligations.FramesAreClassifiedAndRun : Prop :=
  ActionRules ∧
  (∀ s : State, (∀ down, s.works engParser = false ∨ s.chainRoom = false → exec (.classifyFrame down) s = .next s) ∧
    (s.chainRoom = true ↔ s.cls.progq.length < max 1 s.unitsUp) ∧
    (s.works engParser = true → s.chainRoom = true → (∀ t, s.cls.table t = {}) →
      (pickOut (fun x => x.down) s.cls.inq = none → exec (.classifyFrame true) s = .next s) ∧
      (∀ x rest, pickOut (fun x => x.down) s.cls.inq = some (x, rest) → x.down = true →
        (s.rf engParser PS.DEF_PROG_DN = 0xFF → ∃ t, exec (.classifyFrame true) s = .next t ∧ Counts s t engParser PS.PS_FRAMES 1 ∧
          Counts s t engParser PS.CL_DROP_LANE 1 ∧ t.cls = { s.cls with inq := rest } ∧ t.pages = (s.freePages x.pages).pages ∧
          Keeps s t [.cls, .pages] [(engParser, PS.PS_FRAMES), (engParser, PS.PS_TRUNC), (engParser, PS.PS_MALFORMED), (engParser, PS.PS_LIMIT),
            (engParser, PS.CL_DROP_LANE)]) ∧
        (∀ n w, n = s.rf engParser PS.DEF_PROG_DN → n < 0xFF → w = pwin x.bytes (s.rf engParser PS.DEPTH) →
          ∃ t, exec (.classifyFrame true) s = .next t ∧ Counts s t engParser PS.PS_FRAMES 1 ∧
            t.cls = { s.cls with inq := rest, progq := s.cls.progq ++ [{
              frame := x, record := (parseFrame w true).record 0xFF x.len x.arrival,
              data := metaStart ((parseFrame w true).record 0xFF x.len x.arrival) n }] } ∧
            Keeps s t [.cls] [(engParser, PS.PS_FRAMES), (engParser, PS.PS_TRUNC), (engParser, PS.PS_MALFORMED), (engParser, PS.PS_LIMIT)])) ∧
      (s.cls.nextFifo = none → exec (.classifyFrame false) s = .next s) ∧
      (∀ l p x rest c pool n w, s.cls.nextFifo = some (l, p) → pickOut (fun y => y.inFifo l p) s.cls.inq = some (x, rest) →
        s.pickCtx [1] = some (c, pool) → n = s.rf engParser PS.DEF_PROG_UP → n < 0xFF → w = pwin x.bytes (s.rf engParser PS.DEPTH) →
        ∃ t, exec (.classifyFrame false) s = .next t ∧ t.cls = { s.cls with inq := rest, lastMac := l, progq := s.cls.progq ++ [{
            frame := x, record := (parseFrame w x.down).record x.lane x.len x.arrival, ctx := some c,
            data := metaStart ((parseFrame w x.down).record x.lane x.len x.arrival) n }] } ∧
          s.disp.jobs.has c = false ∧ t.disp.jobs.has c = true ∧ Counts s t engParser PS.PS_FRAMES 1 ∧
          Keeps s t [.cls, .disp, .chan, .client, .emitted] [(engParser, PS.PS_FRAMES), (engParser, PS.PS_TRUNC), (engParser, PS.PS_MALFORMED),
            (engParser, PS.PS_LIMIT), (engDisp, DP.GEN_USED), (engDisp, DP.GEN_HWM), (engDisp, DP.DP_HOLDS), cueFld, (engMac l, MAC.TX_XOFF)]) ∧
      (s.cls.nextFifo ≠ none → s.hasCtx .datapath = false →
        ∃ t, exec (.classifyFrame false) s = .next t ∧ Counts s t engDisp DP.DP_NOCTX 1 ∧ Keeps s t [] [(engDisp, DP.DP_NOCTX)]))) ∧
  (∀ (unit : Fin 32) (waited : Bool) (s : State) (e : Nat), e = engAction unit → (s.cls.progq = [] ∨ s.works e = false →
      exec (.actionProgram unit waited) s = .next s) ∧
    (∀ x rest n w k, s.works e = true → s.cls.progq = x :: rest → n = Meta.prog x.data → w = pwin x.frame.bytes (s.rf engParser PS.DEPTH) →
      k = ({ win := w.frame.take w.win, record := x.record, data := x.data } : KeySrc) →
      (s.cls.progs.look n = none →
        ∃ u : State, exec (.actionProgram unit waited) s = .next (u.settleFrame { frame := x.frame, ctx := x.ctx, k := k, unit := engNo e, pc := 0 }) ∧
          u.cls = { s.cls with progq := rest } ∧ Counts s u e AU.AU_PROGS 1 ∧ Keeps s u [.cls] [(e, AU.AU_PROGS), (e, AU.AU_PARTIAL_WAIT)]) ∧
      (∀ i is, s.cls.progs.look n = some { trap := true, words := i :: is } → 8 ≤ Aw.op i → Aw.op i ≤ 11 → Aw.i i = true → Aw.imm i = 0 →
        s.cls.excq.length < 1024 → s.cls.excq ≠ [] → x.ctx = none →
        ∃ t, exec (.actionProgram unit waited) s = .next t ∧ Counts s t e AU.AU_TRAPS 1 ∧
          t.cls = { s.cls with progq := rest, excq := s.cls.excq ++ [excRecord s 2 0 (engNo e) 0 x.frame.down k] } ∧
          t.pages = (s.freePages x.frame.pages).pages ∧
          Keeps s t [.cls, .pages] [(e, AU.AU_PROGS), (e, AU.AU_TRAPS), (e, AU.AU_PARTIAL_WAIT), (e, AU.AU_ENTRY_WAIT)]))) ∧
  (∀ (r : Req) (k : Taken) (s : State),
    (Ready progLoadCmd r k s → Answers (.progLoad r) s k St.ok 0 (fun _ => []) fun s t =>
      (t.cls = { s.cls with progs := t.cls.progs } ∧ Keeps s t [.cls] [] ∧ (∀ i, i ≠ fld r.payload 0 1 → t.cls.progs.look i = s.cls.progs.look i)) ∧
        (fld r.payload 1 1 = 0 → t.cls.progs.look (fld r.payload 0 1) = none) ∧
        (fld r.payload 1 1 ≠ 0 → ∃ p, t.cls.progs.look (fld r.payload 0 1) = some p ∧ p.words.length = fld r.payload 1 1 ∧
          (∀ (i : Nat) (w : Nat), p.words[i]? = some w → w = fld r.payload (4 + 8 * i) 8 ∧ (0x20 ≤ Aw.op w → Aw.op w ≤ 0x28 → i < Aw.x w)))) ∧
    (Ready meterSetCmd r k s → Answers (.meterSet r) s k St.ok 0 (fun _ => []) fun s t =>
      t.cls = { s.cls with meters := t.cls.meters } ∧ t.cls.meters.look (fld r.payload 0 4) = some {
        cir := fld r.payload 4 4, cbs := fld r.payload 8 4, ebs := fld r.payload 12 4, tc := fld r.payload 8 4, te := fld r.payload 12 4,
        since := s.elapsed } ∧ (∀ i, i ≠ fld r.payload 0 4 → t.cls.meters.look i = s.cls.meters.look i) ∧ Keeps s t [.cls] []) ∧
    (∀ base n, Ready counterReadCmd r k s → base = fld r.payload 0 4 → n = fld r.payload 4 2 →
      Answers (.counterRead r) s k St.ok 0 (fun _ => (List.range n).flatMap fun i => le 8 (s.cls.counters.get (base + i) (0, 0)).1 ++
          le 8 (s.cls.counters.get (base + i) (0, 0)).2) fun s t =>
        (fld r.payload 6 1 = 0 → t = s) ∧ t.cls = { s.cls with counters := t.cls.counters } ∧ Keeps s t [.cls] [] ∧
          (fld r.payload 6 1 = 1 → ∀ i, t.cls.counters.get i (0, 0) = if base ≤ i ∧ i < base + n then (0, 0) else s.cls.counters.get i (0, 0))) ∧
    (Ready excReadCmd r k s → Answers (.excRead r) s k St.ok 0 (fun _ => (s.cls.excq.take (fld r.payload 0 2)).flatten) fun s t =>
      t.cls = { s.cls with excq := s.cls.excq.drop (fld r.payload 0 2) } ∧ Keeps s t [.cls] []))

/-! ### The dispatcher and the traffic scheduler (R322 to R354) -/

/-- R331, R341 to R346, R352: among the eligible children the highest effective priority, then the lowest start tag (tags less than half the circle
apart; at half the circle the lower number); a child that becomes active never starts below V; a tick adds RATE units up to the bucket's size; a charge takes 8,000 units a byte; a backlog of
exactly QLIMIT is allowed; a DUE that is not ahead makes the job due at the next tick. -/
def ChoiceRules : Prop :=
  (∀ xs n, (∀ x ∈ xs, x.2.2 < 2 ^ 63) → bestChild xs = some n →
    ∃ p v, (n, p, v) ∈ xs ∧ ∀ y ∈ xs, y.2.1 ≤ p ∧ (y.2.1 = p → v ≤ y.2.2)) ∧
  (∀ a b, a < 2 ^ 64 → b + 2 ^ 63 = a → tagLower b a = true ∧ tagLower a b = false) ∧
  (∀ v start finish, v < 2 ^ 63 → finish < 2 ^ 63 → tagsFollow false true v start finish = (true, max v finish, finish)) ∧
  (∀ b : Bucket, (b.rate ≠ 0 → b.refill = { b with tokens := min (b.burst * 8000) (b.tokens + b.rate) }) ∧ (b.rate = 0 → b.refill = b) ∧
    (∀ n, b.rate ≠ 0 → b.charge n = { b with tokens := b.tokens - n * 8000 }) ∧ (b.rate ≠ 0 → (b.allows = true ↔ 0 ≤ b.tokens))) ∧
  (∀ (s : State) (q len : Nat) (x : Queue), s.sched.queues.look q = some x →
    ((x.frames.map (·.len)).sum + len ≤ x.qlimit → s.underLimit q len = (true, s)) ∧
    (x.qlimit < (x.frames.map (·.len)).sum + len → (s.underLimit q len).1 = false ∧ Counts s (s.underLimit q len).2 engSched TS.TS_LIMIT_DROP 1 ∧
      ((s.underLimit q len).2.sched.counts.get q {}).limitDrop = satAdd (2 ^ 64 - 1) (s.sched.counts.get q {}).limitDrop 1 ∧
      (s.underLimit q len).2.sched.queues = s.sched.queues)) ∧
  (∀ (s : State) (d n : Nat), s.disp.tick < 2 ^ 32 → 0 < n → n < 2 ^ 31 →
    s.dueTick (s.disp.tick + n) = (s.disp.tick + n) % 2 ^ 32 ∧ (d = s.disp.tick ∨ d = (s.disp.tick + 2 ^ 31) % 2 ^ 32 → s.dueTick d = (s.disp.tick + 1) % 2 ^ 32))

/-- Job `c` is now `j`; every other context of the dispatcher is as it was. -/
def JobNow (s t : State) (c : Nat) (j : Job) : Prop := t.disp.jobs.look c = some j ∧ ∀ i, i ≠ c → t.disp.jobs.look i = s.disp.jobs.look i

/-- Of the scheduler only queue `n` changes: its settings and counters are those of `x`. -/
def QueueNow (s t : State) (n : Nat) (x : Queue) : Prop :=
  (∃ y, t.sched.queues.look n = some y ∧ { y with start := x.start, finish := x.finish, active := x.active } = x) ∧
    t.sched.counts = s.sched.counts ∧ ∀ i, i ≠ n → (t.sched.queues.look i).map (fun y => { y with start := 0, finish := 0, active := false }) =
      (s.sched.queues.look i).map fun y => { y with start := 0, finish := 0, active := false }

/-- The same for the node at `key`. -/
def NodeNow (s t : State) (key : Nat) (x : SNode) : Prop :=
  (∃ y, t.sched.nodes.look key = some y ∧ { y with v := x.v, start := x.start, finish := x.finish, active := x.active } = x) ∧
    ∀ i, i ≠ key → (t.sched.nodes.look i).map (fun y => { y with v := 0, start := 0, finish := 0, active := false }) =
      (s.sched.nodes.look i).map fun y => { y with v := 0, start := 0, finish := 0, active := false }

/-- R326, R327, R330 to R332, R339, R344, R345, R348, rows DISPATCHER_TICK, JOB_DUE, CLASS_P_TIMEOUT, JOB_TAKE, QUEUE_SET, NODE_SET, SHAPER_SET,
POLICER_SET, QUEUE_STATS, NODE_QUERY. -/
def Obligations.JobsAndQueuesFollowTheScheduler : Prop :=
  ChoiceRules ∧
  (∀ s : State,
    (s.asleep 13 = true → ∃ t, exec .dispatcherTick s = .next t ∧ t.disp = { s.disp with tick := (s.disp.tick + 1) % 2 ^ 32 } ∧ Keeps s t [.disp] []) ∧
    (s.asleep 13 = false → ∃ u : State, exec .dispatcherTick s = .next u.longSuspends.drainStages.wsCheck ∧
      u.disp = { s.disp with tick := (s.disp.tick + 1) % 2 ^ 32 } ∧ u.sched.s7 = s.sched.s7.refill ∧
      u.sched.counts = s.sched.counts ∧
      (∀ n, (u.sched.queues.look n).map (fun q => (q.shaper, q.policer, q.frames)) =
        (s.sched.queues.look n).map fun q => (q.shaper.refill, q.policer.refill, q.frames)) ∧
      (∀ n, (u.sched.nodes.look n).map (fun q => (q.shaper, q.policer)) = (s.sched.nodes.look n).map fun q => (q.shaper.refill, q.policer.refill)) ∧
      Keeps s u [.disp, .sched] []) ∧
    (s.firstDue (fun j => j.state = .delayed) (fun j => j.due.getD 0) = none → exec .jobDue s = .next s) ∧
    (∀ c j, s.firstDue (fun j => j.state = .delayed) (fun j => j.due.getD 0) = some (c, j) →
      ∃ t, exec .jobDue s = .next t ∧ JobNow s t c { j with state := .ready, due := none, entered := s.disp.entries, timed := false } ∧
        ((s.disp.tick + 2 ^ 32 - j.due.getD 0) % 2 ^ 32 ≤ 2 → Keeps s t [.disp] []) ∧
        (2 < (s.disp.tick + 2 ^ 32 - j.due.getD 0) % 2 ^ 32 → Counts s t engDisp DP.DP_LATE 1 ∧ Keeps s t [.disp] [(engDisp, DP.DP_LATE)])) ∧
    (s.firstDue (fun j => j.state = .waiting && j.timed && j.timeoutAt != s.disp.tick) (·.timeoutAt) = none → exec .classPTimeout s = .next s) ∧
    (∀ c j, s.firstDue (fun j => j.state = .waiting && j.timed && j.timeoutAt != s.disp.tick) (·.timeoutAt) = some (c, j) →
      s.disp.jobs.look c = some j →
      ∃ t, exec .classPTimeout s = .next t ∧
        t.disp.jobs.look c = some { j with state := .ready, timeout := true, timed := false, dep := 0, due := none, entered := s.disp.entries,
                                                waiters := j.waiters.filter (·.2 != c) } ∧
        (∀ i x, i ≠ c → s.disp.jobs.look i = some x → t.disp.jobs.look i = some { x with waiters := x.waiters.filter (·.2 != c) }) ∧
        Counts s t engDisp DP.DP_TIMEOUTS 1 ∧ Keeps s t [.disp] [(engDisp, DP.DP_TIMEOUTS), (engDisp, DP.LINKS_USED)]) ∧
    (∀ by_, by_ = .playout ∨ by_ = .tables ∨ by_ = .classP →
      (s.oldestReady (fun _ j => j.work.takenBy by_) = none → exec (.jobTake by_) s = .next s) ∧
      (∀ c j, s.oldestReady (fun _ j => j.work.takenBy by_) = some (c, j) → s.disp.jobs.look c = some j →
        ∃ t, exec (.jobTake by_) s = .next t ∧ JobNow s t c { j with state := .running } ∧ Keeps s t [.disp] [])) ∧
    (∀ by_ seal_, (by_ = .seals ∧ seal_ = true ∨ by_ = .opens ∧ seal_ = false) → s.cry.again = [] →
      (s.cxTakes = false ∨ s.oldestReady (fun _ j => j.work.isCrypto seal_) = none → exec (.jobTake by_) s = .next s) ∧
      (∀ c j d es u sa, s.cxTakes = true → s.oldestReady (fun _ j => j.work.isCrypto seal_) = some (c, j) → s.disp.jobs.look c = some j →
        j.work = .crypto d → es = s.enginesOf (if d.isSeal then 1 else 2) → sa = (if d.isSeal then d.sa else s.openSa (s.readPages d.src d.len)) →
        es[sa % es.length]? = some u →
        ∃ t, exec (.jobTake by_) s = .next t ∧ JobNow s t c { j with state := .running } ∧
          t.cry.msgs = s.cry.msgs ++ [{ ctx := c, unit := u, cls := d.cls, isSeal := d.isSeal }] ∧ Keeps s t [.disp, .cry] []))) ∧
  (∀ (r : Req) (k : Taken) (s : State) (n : Nat) (x : Queue), n = fld r.payload 0 2 →
    x = ({ circuit := decide (fld r.payload 3 1 = 1), parent := fld r.payload 4 2, prio := fld r.payload 6 1, weight := fld r.payload 8 2,
           qlimit := fld r.payload 12 4 } : Queue) →
    (Ready queueSetCmd r k s →
      (fld r.payload 2 1 = 0 → s.sched.queues.look n = none → Answers (.queueSet r) s k St.noChange 0 (fun _ => []) Unchanged) ∧
      (∀ q, s.sched.queues.look n = some q → fld r.payload 2 1 = 0 →
        (q.frames ≠ [] ∨ s.queueNamed n = true → Answers (.queueSet r) s k St.collision 0 (fun _ => []) Unchanged) ∧
        (q.frames = [] → s.queueNamed n = false → Answers (.queueSet r) s k St.ok 0 (fun _ => []) fun s t =>
          t.sched.queues.look n = none ∧ Keeps s t [.sched] [])) ∧
      (fld r.payload 2 1 = 1 → s.sched.nodes.has (nodeKey 2 x.parent) = false → Answers (.queueSet r) s k St.badParam 4 (fun _ => []) Unchanged) ∧
      (fld r.payload 2 1 = 1 → s.sched.nodes.has (nodeKey 2 x.parent) = true →
        (s.sched.queues.look n = none → Answers (.queueSet r) s k St.ok 0 (fun _ => []) fun s t => QueueNow s t n x ∧ Keeps s t [.sched] []) ∧
        (∀ q q', s.sched.queues.look n = some q → q' = { q with circuit := x.circuit, parent := x.parent, prio := x.prio, weight := x.weight, qlimit := x.qlimit } →
          (q = q' → Answers (.queueSet r) s k St.noChange 0 (fun _ => []) Unchanged) ∧
          (q.circuit ≠ x.circuit → q.frames ≠ [] → Answers (.queueSet r) s k St.collision 0 (fun _ => []) Unchanged) ∧
          (q ≠ q' → q.circuit = x.circuit ∨ q.frames = [] →
            Answers (.queueSet r) s k St.ok 0 (fun _ => []) fun s t => QueueNow s t n q' ∧ Keeps s t [.sched] [])))) ∧
    (Ready queueStatsCmd r k s → Answers (.queueStats r) s k St.ok 0 (fun _ => queueReport n (s.sched.queues.look n) (s.sched.counts.get n {})) fun s t =>
      (fld r.payload 2 1 = 0 → t = s) ∧ Keeps s t [.sched] [] ∧ t.sched = { s.sched with counts := t.sched.counts } ∧
        (fld r.payload 2 1 = 1 → t.sched.counts.get n {} = {} ∧ ∀ i, i ≠ n → t.sched.counts.get i {} = s.sched.counts.get i {})) ∧
    (Ready nodeQueryCmd r k s →
      Answers (.nodeQuery r) s k St.ok 0 (fun t => t.nodeReport (fld r.payload 0 1) (fld r.payload 2 2)) Unchanged)) ∧
  (∀ (r : Req) (k : Taken) (s : State) (lv n key : Nat), lv = fld r.payload 0 1 → n = fld r.payload 2 2 → key = nodeKey lv n →
    (∀ x : SNode, Ready nodeSetCmd r k s →
      x = ({ parent := fld r.payload 4 2, prio := fld r.payload 6 1, vt := fld r.payload 7 1, weight := fld r.payload 8 2 } : SNode) →
      (fld r.payload 1 1 = 0 → s.sched.nodes.look key = none → Answers (.nodeSet r) s k St.noChange 0 (fun _ => []) Unchanged) ∧
      (fld r.payload 1 1 = 0 → s.sched.nodes.has key = true →
        (s.sched.hasKids lv n = true ∨ lv = 5 ∧ s.nodeBound n = true → Answers (.nodeSet r) s k St.collision 0 (fun _ => []) Unchanged) ∧
        (s.sched.hasKids lv n = false → (lv = 5 → s.nodeBound n = false) → Answers (.nodeSet r) s k St.ok 0 (fun _ => []) fun s t =>
          t.sched.nodes.look key = none ∧ Keeps s t [.sched] [])) ∧
      (fld r.payload 1 1 = 1 → (lv < 5 → s.sched.nodes.has (nodeKey (lv + 1) x.parent) = true) →
        (s.sched.nodes.look key = none → Answers (.nodeSet r) s k St.ok 0 (fun _ => []) fun s t => NodeNow s t key x ∧ Keeps s t [.sched] []) ∧
        (∀ q q', s.sched.nodes.look key = some q → q' = { q with parent := x.parent, prio := x.prio, vt := x.vt, weight := x.weight } →
          (q = q' → Answers (.nodeSet r) s k St.noChange 0 (fun _ => []) Unchanged) ∧
          (q.vt ≠ x.vt → s.sched.hasKids lv n = true → Answers (.nodeSet r) s k St.collision 0 (fun _ => []) Unchanged) ∧
          (q ≠ q' → q.vt = x.vt ∨ s.sched.hasKids lv n = false →
            Answers (.nodeSet r) s k St.ok 0 (fun _ => []) fun s t => NodeNow s t key q' ∧ Keeps s t [.sched] [])))) ∧
    (Ready shaperSetCmd r k s →
      (s.sched.buckets lv n = none → Answers (.shaperSet r) s k St.notReady 0 (fun _ => []) Unchanged) ∧
      (∀ b, s.sched.buckets lv n = some b →
        (b.1.rate = fld r.payload 4 4 → b.1.burst = fld r.payload 8 4 → Answers (.shaperSet r) s k St.noChange 0 (fun _ => []) Unchanged) ∧
        (b.1.rate ≠ fld r.payload 4 4 ∨ b.1.burst ≠ fld r.payload 8 4 → Answers (.shaperSet r) s k St.ok 0 (fun _ => []) fun s t =>
          t.sched.buckets lv n = some ({ rate := fld r.payload 4 4, burst := fld r.payload 8 4, tokens := 0 }, b.2) ∧ Keeps s t [.sched] []))) ∧
    (Ready policerSetCmd r k s →
      (s.sched.buckets lv n = none → Answers (.policerSet r) s k St.notReady 0 (fun _ => []) Unchanged) ∧
      (∀ b, s.sched.buckets lv n = some b →
        (b.2.rate = fld r.payload 4 4 → b.2.burst = fld r.payload 8 4 → Answers (.policerSet r) s k St.noChange 0 (fun _ => []) Unchanged) ∧
        (b.2.rate ≠ fld r.payload 4 4 ∨ b.2.burst ≠ fld r.payload 8 4 → Answers (.policerSet r) s k St.ok 0 (fun _ => []) fun s t =>
          t.sched.buckets lv n = some (b.1, { rate := fld r.payload 4 4, burst := fld r.payload 8 4, tokens := fld r.payload 8 4 * 8000 }) ∧
            Keeps s t [.sched] []))))

/-! ### Client lanes and MACs (R355 to R386) -/

/-- The fields in which a lane's bring-up shows. -/
def bringFlds (l : Nat) : List (Nat × Fld) := [(engLane l, LN.RATE_NOW), (engLane l, LN.SYNC), (engLane l, LN.ALIGNED)]

/-- Lane `l` stands at step 1 of its bring-up (R363, R364): at 1.25 Gbaud, or with AN = 0 and in SDH mode at its RATE. -/
def Begins (s t : State) (l : Nat) : Prop :=
  t.on (engLane l) LN.SYNC = false ∧
    (s.on (engLane l) LN.AN = true → s.laneMode l ≠ 3 → (t.lane l).step = .pages ∧ t.rf (engLane l) LN.RATE_NOW = 1) ∧
    (s.on (engLane l) LN.AN = false ∨ s.laneMode l = 3 → (t.lane l).step = .done ∧ (s.rf (engLane l) LN.RATE < 256 →
      t.rf (engLane l) LN.RATE_NOW = s.rf (engLane l) LN.RATE))

/-- R361, R363, R364, R367, R386 for a lane that is no quad member: a link that goes down is told once, and with AN = 1 bring-up begins again, with AN = 0 the lane stays as it is; one that comes up is told once;
the trend moves by a 64th of the difference, toward zero. -/
def LinkRules : Prop :=
  (∀ (l cause : Nat) (s : State), l < 64 → s.laneMode l ≠ 2 →
    (s.on (engLane l) LN.LINK = false → s.linkLost l cause = s) ∧
    (s.on (engLane l) LN.LINK = true → (s.linkLost l cause).on (engLane l) LN.LINK = false ∧ (s.linkLost l cause).on (engLane l) LN.LINK_CHG = true ∧
      Cued s (s.linkLost l cause) 0x3001 [byte l, 0, byte (s.rf (engLane l) LN.RATE_NOW), byte cause, byte (s.rf (engLane l) LN.FOM), 0, 0, 0] ∧
      (s.on (engLane l) LN.AN = true → Begins s (s.linkLost l cause) l ∧
        Keeps s (s.linkLost l cause) [.client, .chan] ((engLane l, LN.LINK) :: (engLane l, LN.LINK_CHG) :: cueFld :: bringFlds l)) ∧
      (s.on (engLane l) LN.AN = false → ((s.linkLost l cause).lane l).step = (s.lane l).step ∧
        Keeps s (s.linkLost l cause) [.client, .chan] [(engLane l, LN.LINK), (engLane l, LN.LINK_CHG), cueFld])) ∧
    (s.linkUp l).on (engLane l) LN.LINK = true ∧ ((s.linkUp l).lane l).step = (if s.rf (engLane l) LN.LOOP = 0 then .done else (s.lane l).step) ∧
    (s.on (engLane l) LN.LINK = false → (s.linkUp l).on (engLane l) LN.LINK_CHG = true ∧
      Cued s (s.linkUp l) 0x3001 [byte l, 1, byte (s.rf (engLane l) LN.RATE_NOW), (if s.rf (engLane l) LN.LOOP = 0 then 0 else 5),
        byte (s.rf (engLane l) LN.FOM), 0, 0, 0]) ∧
    Keeps s (s.linkUp l) [.client, .chan] [(engLane l, LN.LINK), (engLane l, LN.LINK_CHG), cueFld]) ∧
  (∀ t fom : Nat, (t ≤ fom * 256 → nextTrend t fom = t + (fom * 256 - t) / 64) ∧ (fom * 256 ≤ t → nextTrend t fom = t - (t - fom * 256) / 64))

/-- R361, R359, R364, rows LANE_LOS_DECLARE, LANE_LOS_CLEAR, LANE_SYNC_ACQUIRED, LANE_SYNC_LOSS: a lane in a near-end loop sees no LOS; LOS takes the link down, on an
SDH lane it is the line's defect; the link comes up with sync where no exchange runs, and in a loop. -/
def SignalRules : Prop :=
  ∀ (lane : Fin 64) (s : State) (e h : Nat), e = engLane lane → h = engLane (s.head lane) → s.laneWorks lane = true →
    (s.fromLine lane = false ∨ s.on e LN.LOS = true → exec (.laneLosDeclare lane) s = .next s) ∧
    (s.fromLine lane = true → s.on e LN.LOS = false →
      (s.laneMode lane ≠ 3 → ∃ u : State, exec (.laneLosDeclare lane) s = .next (u.linkLost lane 1) ∧ u.on e LN.LOS = true ∧ u.on e LN.LOS_SEEN = true ∧
        u.on e LN.SYNC = false ∧ u.on h LN.ALIGNED = false ∧ Counts s u e LN.LN_LOS_CNT 1 ∧
        (s.on e LN.SYNC = true → Counts s u e LN.LN_SYNC_LOSS 1) ∧ (s.on h LN.ALIGNED = true → Counts s u h LN.LN_ALIGN_LOSS 1) ∧
        Keeps s u [] [(e, LN.LOS), (e, LN.LOS_SEEN), (e, LN.LN_LOS_CNT), (e, LN.SYNC), (e, LN.LN_SYNC_LOSS), (h, LN.ALIGNED), (h, LN.ALIGN_LOST),
          (h, LN.LN_ALIGN_LOSS)]) ∧
      (s.laneMode lane = 3 → ∃ u : State, exec (.laneLosDeclare lane) s = .next (u.sdhLos lane true) ∧ u.on e LN.LOS = true ∧
        Counts s u e LN.LN_LOS_CNT 1 ∧ Keeps s u [] [(e, LN.LOS), (e, LN.LOS_SEEN), (e, LN.LN_LOS_CNT)])) ∧
    (∀ (eye : Eye) ctle dfe, s.on e LN.LOS = true →
      ∃ u : State, exec (.laneLosClear lane eye ctle dfe) s = .next (if s.laneMode lane = 3 then u.sdhLos lane false else u) ∧ u.on e LN.LOS = false ∧
        u.rf e LN.FOM = eye.fom ∧ u.rf e LN.CTLE = ctle.toNat ∧ u.rf e LN.DFE = dfe.toNat ∧
        Keeps s u [] [(e, LN.LOS), (e, LN.FOM), (e, LN.CTLE), (e, LN.DFE)]) ∧
    (∀ al, s.laneMode lane = 1 ∨ s.laneMode lane = 4 →
      ((s.lane lane).step ≠ .done → s.rf e LN.LOOP = 0 →
        ∃ t, exec (.laneSyncAcquired lane al) s = .next t ∧ t.on e LN.SYNC = true ∧ Keeps s t [] [(e, LN.SYNC)]) ∧
      ((s.lane lane).step = .done ∨ s.rf e LN.LOOP ≠ 0 →
        ∃ u : State, exec (.laneSyncAcquired lane al) s = .next (u.linkUp lane) ∧ u.on e LN.SYNC = true ∧ Keeps s u [] [(e, LN.SYNC)]) ∧
      (s.fromLine lane = true → s.on e LN.SYNC = true → s.on e LN.ALIGNED = false →
        ∃ u : State, exec (.laneSyncLoss lane false) s = .next (u.linkLost lane 2) ∧
          u.on e LN.SYNC = false ∧ Counts s u e LN.LN_SYNC_LOSS 1 ∧ Keeps s u [] [(e, LN.SYNC), (e, LN.LN_SYNC_LOSS)])) ∧
    (s.laneMode lane = 2 →
      (∃ t, exec (.laneSyncAcquired lane false) s = .next t ∧ t.on e LN.SYNC = true ∧ Keeps s t [] [(e, LN.SYNC)]) ∧
      ((s.lane (s.head lane)).step = .done ∨ (∃ n, (s.lane (s.head lane)).step = .stepping n) ∨ s.rf h LN.LOOP ≠ 0 →
        ∃ u : State, exec (.laneSyncAcquired lane true) s = .next (u.linkUp (s.head lane)) ∧ u.on h LN.ALIGNED = true ∧ Keeps s u [] [(h, LN.ALIGNED)]) ∧
      (s.fromLine lane = true → s.on h LN.ALIGNED = true →
        ∃ u : State, exec (.laneSyncLoss lane true) s = .next (u.linkLost lane 2) ∧ u.on h LN.ALIGNED = false ∧ u.on h LN.ALIGN_LOST = true ∧
          Counts s u h LN.LN_ALIGN_LOSS 1 ∧ Keeps s u [] [(h, LN.ALIGNED), (h, LN.ALIGN_LOST), (h, LN.LN_ALIGN_LOSS)]))

/-- The pages that a lane of its own has sent for the exchange (R362). -/
def pagesOut (s : State) (l : Nat) : Emit :=
  let e := engLane l
  .pages { lane := l, np := decide (s.rf e LN.RATE ≠ 1), rates := min (s.rf e LN.RATE - 1) (s.rf e LN.CAP), quad := false, step := s.rf e LN.RATE_NOW - 1 }

/-- R362, R363, R365, rows LANE_SPEED_EXCHANGE_DONE, RATE_STEP_SWITCH, RATE_STEP_COMPLETE, RATE_STEP_TIMEOUT, QUAD_RETRY_TIMER; a loop stops them. -/
def BringUpRules : Prop :=
  (∀ (lane : Fin 64) (s : State) (e : Nat), e = engLane lane → s.laneWorks lane = true → s.rf e LN.LOOP = 0 →
    (∀ page, s.on e LN.AN = true → (s.lane lane).step = .pages →
      (∀ n, s.laneMode lane = 1 ∨ s.laneMode lane = 4 → n = min (min (s.rf e LN.RATE - 1) (s.rf e LN.CAP)) (pageRates page) →
        (n = 0 → ∃ u : State, exec (.laneSpeedExchangeDone lane page) s = .next (u.linkUp lane) ∧ u.emitted = s.emitted ++ [pagesOut s lane] ∧
          Keeps s u [.emitted] [(e, LN.PARTNER), (e, LN.PVALID)]) ∧
        (n ≠ 0 → ∃ t, exec (.laneSpeedExchangeDone lane page) s = .next t ∧ (t.lane lane).step = .switchDue n ∧
          t.emitted = s.emitted ++ [pagesOut s lane] ∧ (∀ p, page = some p → t.rf e LN.PARTNER = p.toNat ∧ t.on e LN.PVALID = true) ∧
          Keeps s t [.client, .emitted] [(e, LN.PARTNER), (e, LN.PVALID)])) ∧
      (s.laneMode lane = 2 →
        (∀ p : BitVec 11, page = some p → p.getLsbD 2 = false → ∃ t, exec (.laneSpeedExchangeDone lane page) s = .next t ∧
          t.on e LN.QUAD_MISMATCH = true ∧ ∀ m ∈ s.members lane, (t.lane m).step = .retry ∧ t.rf (engLane m) LN.RATE_NOW = 1) ∧
        (∀ p : BitVec 11, page = some p → p.getLsbD 2 = true → s.rf e LN.RATE - 1 ≤ pageRates page →
          (∀ m ∈ s.members lane, m ≠ lane → (s.lane m).ready = true) →
          ∃ t, exec (.laneSpeedExchangeDone lane page) s = .next t ∧
            ∀ m ∈ s.members lane, s.rf (engLane m) LN.RATE < 256 → t.rf (engLane m) LN.RATE_NOW = s.rf (engLane m) LN.RATE))) ∧
    (∀ n, (s.lane lane).step = .switchDue n → s.rf e LN.RATE_NOW < 255 → ∃ t, exec (.rateStepSwitch lane) s = .next t ∧
      t.rf e LN.RATE_NOW = s.rf e LN.RATE_NOW + 1 ∧ (t.lane lane).step = .stepping n ∧ Keeps s t [.client] [(e, LN.RATE_NOW), (e, LN.SYNC)]) ∧
    (∀ n (eye : Eye) page, (s.lane lane).step = .stepping n → s.laneMode lane ≠ 2 →
      (eye.fom < s.rf e LN.STEP_FOM → exec (.rateStepComplete lane eye page) s = .next s) ∧
      (s.rf e LN.STEP_FOM ≤ eye.fom → s.rf e LN.RATE_NOW < n + 1 → ∃ t, exec (.rateStepComplete lane eye page) s = .next t ∧
        (t.lane lane).step = .switchDue n ∧ t.rf e LN.FOM = eye.fom ∧ t.emitted = s.emitted ++ [pagesOut s lane] ∧
        Keeps s t [.client, .emitted] [(e, LN.PARTNER), (e, LN.PVALID), (e, LN.FOM), (e, LN.SYNC)]) ∧
      (s.rf e LN.STEP_FOM ≤ eye.fom → n + 1 ≤ s.rf e LN.RATE_NOW → ∃ u : State, exec (.rateStepComplete lane eye page) s = .next (u.linkUp lane) ∧
        u.rf e LN.FOM = eye.fom ∧ u.on e LN.SYNC = true ∧ Keeps s u [.emitted] [(e, LN.PARTNER), (e, LN.PVALID), (e, LN.FOM), (e, LN.SYNC)]) ∧
      (s.rf e LN.RATE_NOW = 2 ∨ s.rf e LN.RATE_NOW = 3 → ∃ t, exec (.rateStepTimeout lane) s = .next t ∧ t.rf e LN.CAP = s.rf e LN.RATE_NOW - 2 ∧
        t.on e LN.STEP_FAIL = true ∧ Counts s t e LN.LN_STEP_FAIL 1 ∧ Begins s t lane))) ∧
  (∀ (lane : Fin 64) (s : State) (page : Option (BitVec 11)) (eye : Eye), s.rf (engLane lane) LN.LOOP ≠ 0 →
    exec (.laneSpeedExchangeDone lane page) s = .next s ∧ exec (.rateStepSwitch lane) s = .next s ∧
      exec (.rateStepComplete lane eye page) s = .next s ∧ exec (.rateStepTimeout lane) s = .next s) ∧
  (∀ (quad : Fin 16) (s : State) (l : Nat), l = quad.val * 4 →
    (s.laneMode l ≠ 2 ∨ (s.lane l).step ≠ .retry ∨ s.bringsUp l = false → exec (.quadRetryTimer quad) s = .next s) ∧
    (s.laneMode l = 2 → (s.lane l).step = .retry → s.bringsUp l = true →
      ∃ t, exec (.quadRetryTimer quad) s = .next t ∧ ∀ i < 4, s.laneMode (l + i) = 2 → Begins s t (l + i)))

/-- R366, R367, rows ADAPTATION_REPEAT, FOM_TREND_UPDATE: of the steps that a search tries each that does not lower FOM is kept; a lane whose trend falls below
RETIRE_FOM looks for a spare. -/
def AdaptationRules : Prop :=
  (∀ (lane : Fin 64) (s : State) (e : Nat), e = engLane lane → s.laneWorks lane = true → s.rf e LN.LOOP = 0 →
    (∀ h w steps eyes, s.laneTesting lane = true ∨ s.on e LN.LOS = true → exec (.adaptationRepeat lane h w steps eyes) s = .next s) ∧
    (∀ h w, s.laneTesting lane = false → s.on e LN.LOS = false →
      (∃ t, exec (.adaptationRepeat lane h w [] []) s = .next t ∧ t.rf e LN.FOM = (Eye.mk h w).fom ∧ Keeps s t [] [(e, LN.FOM)]) ∧
      (∀ steps eyes x eye, eyes.length = steps.length → ∃ u : State, exec (.adaptationRepeat lane h w steps eyes) s = .next u ∧
        exec (.adaptationRepeat lane h w (steps ++ [x]) (eyes ++ [eye])) s = .next (u.tryStep e ⟨x.1, x.2, eye⟩) ∧
        Keeps s u [] [(e, LN.FOM), (e, LN.CTLE), (e, LN.DFE)])) ∧
    (∀ (eye : Eye) n, s.laneMode lane = 1 → s.on e LN.LINK = true → s.rf e LN.RETIRE_FOM < 255 →
      n = (if (s.lane lane).sampled then nextTrend (s.lane lane).t256 eye.fom else eye.fom * 256) → n < 65536 →
      (s.rf e LN.RETIRE_FOM * 256 ≤ n → ∃ t, exec (.fomTrendUpdate lane eye) s = .next t ∧ (t.lane lane).t256 = n ∧ t.rf e LN.TREND = n / 256 ∧
        t.rf e HDR.WEAR = min 0xFFFF (65535 * (255 - n / 256) / (255 - s.rf e LN.RETIRE_FOM)) ∧
        Keeps s t [.client] [(e, LN.FOM), (e, LN.TREND), (e, HDR.WEAR)]) ∧
      (n < s.rf e LN.RETIRE_FOM * 256 → (s.lane lane).noTrend = false → (s.lane lane).subst = none →
        ∀ unit, ((s.laneSpares lane).find? fun v => !s.unitsInTest.contains v && s.spareSuits lane v) = some unit →
          ∃ t, exec (.fomTrendUpdate lane eye) s = .next t ∧ (t.lane lane).subst = some { cause := 0, trend := n / 256, step := .check unit }))) ∧
  (∀ (s : State) (e : Nat) (x : TryStep) (d : Int), d = (if x.up then 1 else -1) →
    (x.eye.fom < s.rf e LN.FOM → s.tryStep e x = s) ∧
    (s.rf e LN.FOM ≤ x.eye.fom → x.setting.val = 0 →
      (0 ≤ (s.rf e LN.CTLE : Int) + d → (s.rf e LN.CTLE : Int) + d ≤ 15 →
        ((s.tryStep e x).rf e LN.CTLE : Int) = s.rf e LN.CTLE + d ∧ (s.tryStep e x).rf e LN.FOM = x.eye.fom) ∧
      ((s.rf e LN.CTLE : Int) + d < 0 ∨ 15 < (s.rf e LN.CTLE : Int) + d → s.tryStep e x = s)) ∧
    (∀ n, n = x.setting.val → s.rf e LN.FOM ≤ x.eye.fom → 0 < n →
      (-31 ≤ dfeTap (s.rf e LN.DFE) n + d → dfeTap (s.rf e LN.DFE) n + d ≤ 31 →
        dfeTap ((s.tryStep e x).rf e LN.DFE) n = dfeTap (s.rf e LN.DFE) n + d ∧ (s.tryStep e x).rf e LN.FOM = x.eye.fom ∧
          ∀ i, 0 < i → i < 6 → i ≠ n → dfeTap ((s.tryStep e x).rf e LN.DFE) i = dfeTap (s.rf e LN.DFE) i) ∧
      (dfeTap (s.rf e LN.DFE) n + d < -31 ∨ 31 < dfeTap (s.rf e LN.DFE) n + d → s.tryStep e x = s))) ∧
  (∀ x : Eye, x.fom ≤ 255 ∧ (x.fom = 255 ↔ 250000 ≤ x.h ∧ 500000 ≤ x.w))

/-- R355 to R374, rows LANE_LOS_DECLARE, LANE_LOS_CLEAR, LANE_SYNC_ACQUIRED, LANE_SYNC_LOSS, LANE_SPEED_EXCHANGE_DONE, RATE_STEP_SWITCH, RATE_STEP_COMPLETE,
RATE_STEP_TIMEOUT, QUAD_RETRY_TIMER, ADAPTATION_REPEAT, FOM_TREND_UPDATE, LANE_SELF_CHECK, SPARE_SELF_CHECK_TIMER, LANE_MODE, LANE_LOOP, LANE_TEST. -/
def Obligations.LanesComeUpAndStepRates : Prop :=
  LinkRules ∧ SignalRules ∧ BringUpRules ∧ AdaptationRules ∧
  (∀ (unit : Fin 68) (errors : Word) (lock : Bool) (eye live : Eye) (hit : BitVec 16) (l : Nat) (x : Subst) (s : State),
    s.substOf unit = some (l, x) → x.step = .check unit → l < 64 → 64 ≤ unit.val → laneDomain unit = laneDomain l → x.cause = 0 → lock = true →
    errors = 0 → s.rf (engLane l) LN.RETIRE_FOM ≤ eye.fom →
    ∃ u : State, exec (.laneSelfCheck unit errors lock eye live hit) s = .next u.goOn ∧ u.punit (engLane l) = engNo (engLane unit) ∧
      u.rf (engLane unit) HDR.LUNIT = engNo (engLane l) ∧ u.engState (engLane unit) = 2 ∧ u.rf (engLane l) LN.LOOP = 0 ∧
      u.rf (engLane l) LN.FOM = live.fom ∧ (u.lane l).subst = some { x with step := .freed (unitOf l (s.punit (engLane l))) }) ∧
  (∀ s : State, s.unitsInTest = [] → ∃ t, exec .spareSelfCheckTimer s = .next t ∧ t.client = { s.client with checking := t.client.checking } ∧
    Keeps s t [.client] [] ∧ ∀ unit, unit ∈ t.client.checking ↔ unit ∈ s.client.checking ∨ unit ∈ s.client.pool ∨
      (unit = 64 ∨ unit = 65 ∨ unit = 66 ∨ unit = 67) ∧ s.engState (engLane unit) = 6) ∧
  (∀ (r : Req) (k : Taken) (s : State) (l e : Nat), l = fld r.payload 0 1 → e = engLane l → s.substRuns l = false →
    (Ready laneModeCmd r k s → s.modeChecks l (fld r.payload 1 1) = none →
      (s.laneMode l = fld r.payload 1 1 → s.rf e LN.RATE = fld r.payload 2 1 → s.rf e LN.AN = fld r.payload 3 1 →
        Answers (.laneMode r) s k St.noChange 0 (fun _ => []) Unchanged) ∧
      (s.laneMode l = 1 → fld r.payload 1 1 ≠ 2 → (fld r.payload 1 1 ≠ 1 ∨ s.rf e LN.RATE ≠ fld r.payload 2 1 ∨ s.rf e LN.AN ≠ fld r.payload 3 1) →
        Answers (.laneMode r) s k St.ok 0 (fun _ => []) fun s t => t.laneMode l = fld r.payload 1 1 ∧ t.rf e LN.RATE = fld r.payload 2 1 ∧
          t.rf e LN.AN = fld r.payload 3 1 ∧ t.rf e LN.CAP = 2 ∧ t.on e LN.EXT = false ∧ t.rf e LN.LOOP = 0 ∧ (t.lane l).noTrend = false ∧ Begins t t l ∧
          (s.rf e LN.LOOP = 0 →
            Keeps s t [.client] ([(e, LN.MODE), (e, LN.RATE), (e, LN.AN), (e, LN.MEMBER), (e, LN.CAP), (e, LN.EXT), (e, LN.LOOP)] ++ bringFlds l)) ∧
          Keeps s t [.client, .chan] ([(e, LN.MODE), (e, LN.RATE), (e, LN.AN), (e, LN.MEMBER), (e, LN.CAP), (e, LN.EXT), (e, LN.LOOP), (e, LN.LINK),
            (e, LN.LINK_CHG), cueFld] ++ bringFlds l))) ∧
    (Ready laneLoopCmd r k s → s.laneBusy l = false →
      (s.isOn e = false → Answers (.laneLoop r) s k St.notReady 0 (fun _ => []) Unchanged) ∧
      (s.isOn e = true → s.rf e LN.LOOP = fld r.payload 1 1 → Answers (.laneLoop r) s k St.noChange 0 (fun _ => []) Unchanged) ∧
      (s.isOn e = true → s.rf e LN.LOOP ≠ fld r.payload 1 1 → s.laneMode l ≠ 2 → Answers (.laneLoop r) s k St.ok 0 (fun _ => []) fun s t =>
        t.rf e LN.LOOP = fld r.payload 1 1 ∧ (t.mac l).looped = [] ∧
          (s.rf e LN.LOOP = 0 ∨ (s.lane l).step = .done → Keeps s t [.client] [(e, LN.LOOP)]) ∧
          (s.rf e LN.LOOP ≠ 0 → (s.lane l).step ≠ .done → t.on e LN.LINK = false ∧
            Keeps s t [.client, .chan] [(e, LN.LOOP), (e, LN.LINK), (e, LN.LINK_CHG), cueFld]))) ∧
    (∀ bits errors (lock : Bool) (eye : Eye) n, Ready (laneTestCmd { bits := bits, errors := errors, lock := lock, eye := eye }) r k s →
      s.laneBusy l = false → n = (if lock then errors.toNat else 0) →
      (s.isOn e = false → Answers (.laneTest r bits errors lock eye) s k St.notReady 0 (fun _ => []) Unchanged) ∧
      (s.isOn e = true →
        ((fld r.payload 1 1 ≠ 3 ∨ fld r.payload 2 1 ≠ 1 ∨ lock = true ∧ n = 0 ∧ s.rf e LN.RETIRE_FOM ≤ eye.fom) →
          Answers (.laneTest r bits errors lock eye) s k St.ok 0
            (fun _ => le 8 (if lock then bits.toNat else 0) ++ le 4 n ++ [byte (bit lock), byte eye.fom, 0, 0]) fun s t =>
              t.rf e LN.PRBS_ERR = n ∧ t.rf e LN.FOM = eye.fom ∧ ∃ u, u = s.linkAgain l 5 ∧ Keeps u t [] [(e, LN.PRBS_ERR), (e, LN.FOM)]) ∧
        (fld r.payload 1 1 = 3 → fld r.payload 2 1 = 1 → lock = false ∨ n ≠ 0 ∨ eye.fom < s.rf e LN.RETIRE_FOM →
          Answers (.laneTest r bits errors lock eye) s k St.ok 0
            (fun _ => le 8 (if lock then bits.toNat else 0) ++ le 4 n ++ [byte (bit lock), byte eye.fom, 0, 0]) fun _ t =>
              t.rf e LN.PRBS_ERR = n ∧ t.on e HDR.SELFTEST = true ∧ (t.engState e = 4 ∨ t.engState e = 5)))))

/-- R377 to R383, rows MAC_FRAME_RX, MAC_FRAME_TX, PFC_PAUSE_EXPIRY, PFC_REFRESH_TIMER, MAC_SNAPSHOT, LANE_SIGNAL_WAKE: the checks in order, each frame in one
counter; strict priority past the paused ones; a received PFC frame pauses the priorities of PFC_EN that it names. -/
def Obligations.MacsReceiveAndTransmit : Prop :=
  (∀ (lane : Fin 64) (frame : List Byte) (bad : Bool) (errs : List Nat) (ago : Nat) (s : State), s.laneMode lane = 1 →
    (s.rf (engLane lane) LN.LOOP = 1 ∨ s.rf (engLane lane) LN.LOOP = 2 →
      ((s.mac lane).looped = [] → exec (.macFrameRx lane frame ⟨bad, errs⟩ ago) s = .next s) ∧
      (∀ b bs, (s.mac lane).looped = b :: bs → ∃ t, exec (.macFrameRx lane frame ⟨bad, errs⟩ ago) s = .next t ∧ ∃ more, (t.mac lane).looped = bs ++ more)) ∧
    (s.rf (engLane lane) LN.LOOP = 3 → s.laneWorks lane = true → ∃ t, exec (.macFrameRx lane frame ⟨bad, errs⟩ ago) s = .next t ∧
      ∃ more, t.emitted = s.emitted ++ .echo lane frame :: more) ∧
    (s.rf (engLane lane) LN.LOOP = 0 → s.works (engMac lane) = false →
      (∃ t, exec (.macFrameRx lane frame ⟨bad, errs⟩ ago) s = .next t ∧ Keeps s t [] [(engLane lane, LN.LN_CODE_ERR)] ∧
        ∀ n ns, errs = n :: ns → s.laneWorks lane = true → Counts s t (engLane lane) LN.LN_CODE_ERR n))) ∧
  (∀ (lane : Fin 64) (frame : List Byte) (errs : List Nat) (ago : Nat) (s : State) (e : Nat) (b : List Byte), e = engMac lane →
    b = frame.take (frame.length - 4) → s.rf (engLane lane) LN.LOOP = 0 →
    s.laneMode lane = 1 → s.works e = true → s.on (engLane lane) LN.LINK = true → s.opt.inBand = false → s.ptpPort lane = false →
    (∀ bad i, (bad = true ∧ i = 5 ∨ bad = false ∧
        (frame.length < s.rf e MAC.MIN_FRAME ∧ i = 2 ∨ s.rf e MAC.MIN_FRAME ≤ frame.length ∧
          (s.rf e MAC.MAX_FRAME < frame.length ∧ i = 3 ∨ frame.length ≤ s.rf e MAC.MAX_FRAME ∧
            (le 4 (crc32 b).toNat ≠ frame.drop (frame.length - 4) ∧ i = 4 ∨ le 4 (crc32 b).toNat = frame.drop (frame.length - 4) ∧
              fbe b 12 2 = 0x8808 ∧ fbe b 14 2 ≠ 0x0101 ∧ i = 8)))) →
      ∃ t, exec (.macFrameRx lane frame ⟨bad, errs⟩ ago) s = .next t ∧ (t.mac lane).counts.get i 0 = min (2 ^ 64 - 1) ((s.mac lane).counts.get i 0 + 1) ∧
        (∀ j, j ≠ i → (t.mac lane).counts.get j 0 = (s.mac lane).counts.get j 0) ∧ Keeps s t [.client] [(engLane lane, LN.LN_CODE_ERR)]) ∧
    (s.rf e MAC.MIN_FRAME ≤ frame.length → frame.length ≤ s.rf e MAC.MAX_FRAME → le 4 (crc32 b).toNat = frame.drop (frame.length - 4) →
      fbe b 12 2 ≠ 0x8808 →
      (32768 < s.fifoFill lane (framePcp b) + b.length + 4 → ∃ t, exec (.macFrameRx lane frame ⟨false, errs⟩ ago) s = .next t ∧
        (t.mac lane).counts.get 6 0 = min (2 ^ 64 - 1) ((s.mac lane).counts.get 6 0 + 1) ∧ Keeps s t [.client] [(engLane lane, LN.LN_CODE_ERR)]) ∧
      (s.fifoFill lane (framePcp b) + b.length + 4 ≤ 32768 → ∃ t, exec (.macFrameRx lane frame ⟨false, errs⟩ ago) s = .next t ∧
        (t.mac lane).counts.get 0 0 = min (2 ^ 64 - 1) ((s.mac lane).counts.get 0 0 + 1) ∧
        (t.mac lane).counts.get 1 0 = min (2 ^ 64 - 1) ((s.mac lane).counts.get 1 0 + (b.length + 4)) ∧
        t.cls = { s.cls with inq := s.cls.inq ++ [{ down := false, lane := lane, bytes := b, arrival := (s.nowNs - ago) % 2 ^ 32, pages := [] }] } ∧
        Keeps s t [.client, .cls, .emitted] [(e, MAC.TX_XOFF), (engLane lane, LN.LN_CODE_ERR)])) ∧
    (∀ p q, p < 8 → frame = b ++ le 4 (crc32 b).toNat → s.rf e MAC.MIN_FRAME ≤ frame.length → frame.length ≤ s.rf e MAC.MAX_FRAME →
      fbe b 12 2 = 0x8808 → fbe b 14 2 = 0x0101 → fbe b 16 2 = 2 ^ p → q = fbe b (18 + 2 * p) 2 →
      ∃ t, exec (.macFrameRx lane frame ⟨false, errs⟩ ago) s = .next t ∧ (t.mac lane).counts.get 15 0 = min (2 ^ 64 - 1) ((s.mac lane).counts.get 15 0 + 1) ∧
        (t.mac lane).counts.get (16 + p) 0 = min (2 ^ 64 - 1) ((s.mac lane).counts.get (16 + p) 0 + 1) ∧
        (bitOf (s.rf e MAC.PFC_EN) p = false → Keeps s t [.client] [(engLane lane, LN.LN_CODE_ERR)]) ∧
        (bitOf (s.rf e MAC.PFC_EN) p = true → bitOf (t.rf e MAC.RX_PAUSED) p = decide (q ≠ 0) ∧
          (∀ i < 8, i ≠ p → bitOf (t.rf e MAC.RX_PAUSED) i = bitOf (s.rf e MAC.RX_PAUSED) i) ∧ Keeps s t [.client] [(e, MAC.RX_PAUSED), (engLane lane, LN.LN_CODE_ERR)]))) ∧
  (∀ (lane : Fin 64) (s : State) (e : Nat), e = engMac lane →
    (s.works e = true → s.opt.inBand = false → (s.mac lane).ptp = [] →
      ((∀ p < 8, bitOf (s.rf e MAC.RX_PAUSED) p = false → (s.mac lane).txq.get p [] = []) → ∀ ab, exec (.macFrameTx lane ab) s = .next s) ∧
      (∀ p f fs, p < 8 → bitOf (s.rf e MAC.RX_PAUSED) p = false → (s.mac lane).txq.get p [] = f :: fs →
        (∀ i < 8, p < i → bitOf (s.rf e MAC.RX_PAUSED) i = false → (s.mac lane).txq.get i [] = []) →
        s.on (engLane lane) LN.LINK = true → s.squelched lane = false →
        (∀ b, b = s.readPages f.pages f.len → s.rf (engLane lane) LN.LOOP ≠ 3 →
          ∃ t, exec (.macFrameTx lane false) s = .next t ∧
            t.emitted = s.emitted ++ (if s.rf (engLane lane) LN.LOOP = 1 then [] else [.laneFrame lane b]) ∧
            (t.mac lane).looped = (s.mac lane).looped ++ (if s.rf (engLane lane) LN.LOOP = 1 ∨ s.rf (engLane lane) LN.LOOP = 2 then [b] else []) ∧
            (t.mac lane).txq.get p [] = fs ∧ (t.mac lane).counts.get 10 0 = min (2 ^ 64 - 1) ((s.mac lane).counts.get 10 0 + 1) ∧
            (t.mac lane).counts.get 11 0 = min (2 ^ 64 - 1) ((s.mac lane).counts.get 11 0 + (f.len + 4)) ∧
            t.pages = (s.freePages f.pages).pages ∧ Keeps s t [.client, .emitted, .pages] []) ∧
        (s.rf (engLane lane) LN.LOOP = 3 → ∃ t, exec (.macFrameTx lane false) s = .next t ∧ (t.mac lane).txq.get p [] = fs ∧
          (t.mac lane).counts.get 12 0 = min (2 ^ 64 - 1) ((s.mac lane).counts.get 12 0 + 1) ∧ Keeps s t [.client, .pages] []) ∧
        (s.rf (engLane lane) LN.LOOP ≠ 3 → ∃ t, exec (.macFrameTx lane true) s = .next t ∧ (t.mac lane).txq.get p [] = fs ∧
          (t.mac lane).counts.get 13 0 = min (2 ^ 64 - 1) ((s.mac lane).counts.get 13 0 + 1) ∧ Keeps s t [.client, .pages] []))) ∧
    (∀ prio : Fin 8, ∃ t, exec (.pfcPauseExpiry lane prio) s = .next t ∧ bitOf (t.rf e MAC.RX_PAUSED) prio = false ∧ Keeps s t [] [(e, MAC.RX_PAUSED)]) ∧
    (∀ prio : Fin 8, bitOf (s.rf e MAC.TX_XOFF) prio = false → exec (.pfcRefreshTimer lane prio) s = .next s) ∧
    (∀ prio : Fin 8, s.canSend lane = true → s.carries lane = true → bitOf (s.rf e MAC.PFC_EN) prio = true → bitOf (s.rf e MAC.TX_XOFF) prio = true →
      s.rf e MAC.XON * 256 ≤ s.fifoFill lane prio → s.rf (engLane lane) LN.LOOP = 0 →
      ∃ t, exec (.pfcRefreshTimer lane prio) s = .next t ∧ t.emitted = s.emitted ++ [.pfc lane (s.macAddr lane) [(prio, s.rf e MAC.PFC_QUANTA)]] ∧
        (t.mac lane).counts.get 14 0 = min (2 ^ 64 - 1) ((s.mac lane).counts.get 14 0 + 1) ∧ Keeps s t [.client, .emitted] []) ∧
    (s.asleep (laneDomain lane) = false ∨ s.laneMode lane = 3 → exec (.laneSignalWake lane) s = .next s) ∧
    (s.asleep (laneDomain lane) = true → s.laneMode lane = 1 ∨ s.laneMode lane = 2 ∨ s.laneMode lane = 4 →
      exec (.laneSignalWake lane) s = .next (s.wake (laneDomain lane)))) ∧
  (∀ (r : Req) (k : Taken) (s : State), Ready macSnapshotCmd r k s →
    Answers (.macSnapshot r) s k St.ok 0 (fun _ => (List.range 32).flatMap fun i => le 8 ((s.mac (fld r.payload 0 1)).counts.get i 0)) fun s t =>
      (∀ i, (t.mac (fld r.payload 0 1)).counts.get i 0 = 0) ∧ (t.mac (fld r.payload 0 1)).txq = (s.mac (fld r.payload 0 1)).txq ∧ Keeps s t [.client] [])

/-! ### Part time (R387 to R405) -/

/-- A sample is accepted (R393): no slew runs, and it was measured after the last step. -/
def Accepts (s : State) (x : Sample) : Prop := s.fwStops = false ∧ s.clk.slewLeft = 0 ∧ s.clk.barredNs < x.at_

/-- The servo of R393 after a sample `x`, `tau` after the one before: f and the rate in units of 2^-40, each within one unit of the real number; part time
has no discontinuity (R390). -/
def Servoed (s t : State) (x : Sample) (tau : Nat) : Prop :=
  let S : Int := s.rf engClk CLK.SETTLE
  let m : Int := (s.rf engClk CLK.MAX_RATE : Int) * 2 ^ 40 / 1000000
  (((s.clk.freq - t.clk.freq) * (8 * 1000000000 * S * S * (1000000000 * 2 ^ 32)) - x.o * 2 ^ 24 * tau).natAbs : Int) <
      8 * 1000000000 * S * S * (1000000000 * 2 ^ 32) ∧
    (∃ r : Int, (((t.clk.freq - r) * (1000000000 * S) - x.o * 2 ^ 24).natAbs : Int) < 1000000000 * S ∧
      ((-m ≤ r ∧ r ≤ m) → t.clk.rate = r ∧ t.clk.clamp = false) ∧ (m < r → t.clk.rate = m ∧ t.clk.clamp = true) ∧
      (r < -m → t.clk.rate = -m ∧ t.clk.clamp = true)) ∧
    (s.rf engClk CLK.MODEL ≠ 1 → t.clk.base = s.clk.count) ∧ t.clk.count = s.clk.count ∧ t.partTime = s.partTime

/-- A correction by -o (R389, R390, R394): at once when o < 0, by OFFSET in Model C and the counter in Model I; else as a slew of o. -/
def Corrected (s t : State) (x : Sample) (kind : Nat) : Prop :=
  (x.o < 0 → kind = 1 ∧ t.clk.slewLeft = 0 ∧ t.rf engClk CLK.TM_STEPS = min (2 ^ 32 - 1) (s.rf engClk CLK.TM_STEPS + 1) ∧
    (s.clk.carried = none → s.rf engClk CLK.MODEL ≠ 1 → t.clk.offset = s.clk.offset + (-x.o) * 2 ^ 16 ∧ t.clk.part = s.clk.part) ∧
    (s.clk.carried = none → s.rf engClk CLK.MODEL = 1 → (t.clk.part : Int) = s.clk.part + (-x.o) * 2 ^ 16 ∧ t.clk.offset = s.clk.offset) ∧
    (∀ p, s.clk.carried = some p → t.clk.carried = some (p + (-x.o).toNat * 2 ^ 16))) ∧
  (0 < x.o → kind = 2 ∧ (t.clk.slewLeft : Int) = x.o * 2 ^ 16 ∧ t.partTime = s.partTime ∧
    t.rf engClk CLK.TM_STEPS = min (2 ^ 32 - 1) (s.rf engClk CLK.TM_STEPS + 1)) ∧
  (x.o = 0 → kind = 0 ∧ t.clk.slewLeft = 0 ∧ t.partTime = s.partTime)

/-- R393, R394: what the firmware makes of a sample. -/
def SampleRules : Prop :=
  ∀ (s : State) (x : Sample) (tau : Nat) (jump : Prop), 0 < s.rf engClk CLK.SETTLE →
    (jump ↔ s.rf engClk CLK.STEP_THRESH * 65536 < x.o.natAbs) → tau = (if s.clk.firstSample then 1000000000 * 2 ^ 32 else s.elapsed - s.clk.lastSample) →
    (s.fwStops = false → (0 < s.clk.slewLeft ∨ x.at_ ≤ s.clk.barredNs) →
      Counts s (s.takeSample x) engClk CLK.TM_IGNORED 1 ∧ Keeps s (s.takeSample x) [] [(engClk, CLK.TM_IGNORED)]) ∧
    (Accepts s x →
      Counts s (s.takeSample x) engClk CLK.TM_SAMPLES 1 ∧ (s.takeSample x).clk.lastOffset = x.ns ∧
      (s.clk.state = 0 ∨ s.clk.state = 3 ∧ s.clk.armed = true → (s.takeSample x).clk.state = 1 ∧ (s.takeSample x).clk.armed = false ∧
        ∃ kind, Corrected s (s.takeSample x) x kind ∧ Cued s (s.takeSample x) 0x8004 ([byte s.clk.state, byte kind, 0, 0] ++ le 8 (unsigned 64 (-x.ns))) ∧
        Keeps s (s.takeSample x) [.clk, .chan, .tdm] [(engClk, CLK.TM_SAMPLES), (engClk, CLK.TM_STEPS), cueFld]) ∧
      (s.clk.state = 1 → ¬ jump → (s.takeSample x).clk.state = 1 ∧ Servoed s (s.takeSample x) x tau ∧
        Keeps s (s.takeSample x) [.clk] [(engClk, CLK.TM_SAMPLES)]) ∧
      (s.clk.state = 2 ∨ s.clk.state = 3 ∧ s.clk.armed = false → ¬ jump → (s.takeSample x).clk.state = 1 ∧ Servoed s (s.takeSample x) x tau ∧
        Cued s (s.takeSample x) 0x8004 ([byte s.clk.state, 0, 0, 0] ++ le 8 0) ∧
        Keeps s (s.takeSample x) [.clk, .chan] [(engClk, CLK.TM_SAMPLES), cueFld]) ∧
      (s.clk.state = 1 ∨ s.clk.state = 2 → jump → (s.takeSample x).clk.state = 3 ∧ (s.takeSample x).clk.rate = s.clk.rate ∧
        Counts s (s.takeSample x) engClk CLK.TM_JUMPS 1 ∧ Cued s (s.takeSample x) 0x8003 (le 8 (unsigned 64 x.ns) ++ [byte s.clk.source, 0, 0, 0]) ∧
        Keeps s (s.takeSample x) [.clk, .chan] [(engClk, CLK.TM_SAMPLES), (engClk, CLK.TM_JUMPS), cueFld]) ∧
      (s.clk.state = 3 → s.clk.armed = false → jump → (s.takeSample x).clk.state = 3 ∧ (s.takeSample x).clk.rate = s.clk.rate ∧
        Keeps s (s.takeSample x) [.clk] [(engClk, CLK.TM_SAMPLES)]))

/-- Into HOLDOVER at the rate in force, with ARMED = 0 and TIME_HOLDOVER (R394). -/
def HeldOver (s t : State) (cause : Nat) : Prop :=
  t.clk.state = 2 ∧ t.clk.armed = false ∧ t.clk.rate = s.clk.rate ∧ Counts s t engClk CLK.TM_HOLDOVERS 1 ∧
    Cued s t 0x8002 ([byte cause, byte t.clk.source, 0, 0] ++ le 4 (unsigned 32 s.clk.rate)) ∧
    Keeps s t [.clk, .chan] [(engClk, CLK.TM_HOLDOVERS), cueFld]

/-- R388, R390 to R394, R398 to R403, R405, rows PON_TIME_SAMPLE, PPS_IN_EDGE, SOURCE_VANISH_TIMEOUT, SLEW_COMPLETE, SECOND_BOUNDARY, PPS_OUT_FALL, TIME_NOW,
TIME_SOURCE, TIME_SAMPLE, TIME_ACQUIRE, PTP_SEND, STAMP_READ. -/
def Obligations.ClockFollowsItsSource : Prop :=
  SampleRules ∧
  (∀ (delay : Int) (s : State), s.clk.source = 1 → s.clk.refStale = false → s.rf (engFramer s.clk.ref.channel) FR.SYNC = 2 →
    (s.talker s.clk.ref.channel).isSome = true → s.fenced s.clk.ref.channel = false →
    (¬ ((s.chn s.clk.ref.channel).sfc - (s.clk.ref.sfc : Int)) % 8000 = 0 → exec (.ponTimeSample delay) s = .next s) ∧
    (∀ n o : Int, (s.chn s.clk.ref.channel).sfc - (s.clk.ref.sfc : Int) = n → n % 8000 = 0 →
      o = (s.chn s.clk.ref.channel).stamp - ((s.clk.ref.seconds : Int) * 1000000000 + s.clk.ref.nanos + n * 125000 + delay) →
      exec (.ponTimeSample delay) s = .next (s.takeSample { o := o * 65536, at_ := (s.chn s.clk.ref.channel).stamp }))) ∧
  (∀ (rise : Bool) (s : State) (stamp : Int), stamp = (s.nowNs : Int) - s.rf engPps PPS.IN_DELAY →
    (s.on engPps PPS.IN_EN = false ∨ rise = s.on engPps PPS.IN_POL → exec (.ppsInEdge rise) s = .next s) ∧
    (s.works engPps = true → s.on engPps PPS.IN_EN = true → rise ≠ s.on engPps PPS.IN_POL →
      (∀ t0, s.clk.ppsLast = some t0 → s.elapsed < t0 + 500000000 * 2 ^ 32 → ∃ t, exec (.ppsInEdge rise) s = .next t ∧
        Counts s t engPps PPS.IN_IGNORED 1 ∧ Keeps s t [] [(engPps, PPS.IN_IGNORED)]) ∧
      ((∀ t0, s.clk.ppsLast = some t0 → t0 + 500000000 * 2 ^ 32 ≤ s.elapsed) →
        ∃ u : State, Counts s u engPps PPS.IN_PULSES 1 ∧ u.rf engPps PPS.IN_LAST = unsigned 32 stamp ∧ u.clk.ppsLast = some s.elapsed ∧
          Keeps s u [.clk] [(engPps, PPS.IN_PULSES), (engPps, PPS.IN_LAST)] ∧
          (s.clk.source ≠ 3 → exec (.ppsInEdge rise) s = .next u ∧ u.clk = { s.clk with ppsLast := some s.elapsed }) ∧
          (s.clk.source = 3 → u.clk = { s.clk with ppsLast := some s.elapsed, ppsNext := s.clk.ppsNext + 1 } ∧
            exec (.ppsInEdge rise) s = .next (u.takeSample { o := (stamp - (s.clk.ppsNext : Int) * 1000000000) * 65536, at_ := stamp }))))) ∧
  (∀ s : State,
    (s.clk.state ≠ 1 ∨ s.clk.source = 0 → exec .sourceVanishTimeout s = .next s) ∧
    (s.clk.source = 1 → (s.talker s.clk.ref.channel).isSome = true → s.fenced s.clk.ref.channel = false → s.rf (engFramer s.clk.ref.channel) FR.SYNC = 2 →
      (s.chn s.clk.ref.channel).misses < 3 → exec .sourceVanishTimeout s = .next s) ∧
    (s.clk.state = 1 → s.clk.source = 2 ∨ s.clk.source = 3 ∨ s.clk.source = 1 ∧ (s.talker s.clk.ref.channel = none ∨ s.fenced s.clk.ref.channel = true ∨
        s.rf (engFramer s.clk.ref.channel) FR.SYNC ≠ 2 ∨ 3 ≤ (s.chn s.clk.ref.channel).misses) → ∃ t, exec .sourceVanishTimeout s = .next t ∧ HeldOver s t 0 ∧ t.clk.source = s.clk.source) ∧
    (s.clk.slewLeft = 0 → exec .slewComplete s = .next s) ∧
    (0 < s.clk.slewLeft → 0 < s.periodRated → ∃ n t, exec .slewComplete s = .next t ∧ t.clk.slewLeft = 0 ∧
      t.elapsed = s.elapsed + n * s.clk.period ∧ 2 * s.clk.slewLeft ≤ n * s.periodRated ∧ n * s.periodRated < 2 * s.clk.slewLeft + s.periodRated) ∧
    (s.nowSec ≤ s.clk.secLast → ∃ n t, exec .secondBoundary s = .next t ∧ t.elapsed = s.elapsed + n * s.clk.period ∧ t.clk.secLast = t.nowSec) ∧
    (s.clk.secLast < s.nowSec → ∃ t, exec .secondBoundary s = .next t ∧ t.clk.secLast = s.nowSec ∧ t.partTime = s.partTime ∧
      (s.works engClk = true → s.on engClk CLK.SEC_CUE = true →
        Cued s t 0x8001 (le 6 s.nowSec ++ [0, 0] ++ le 4 (s.nowSec * 1000000000 % 2 ^ 32))) ∧
      (s.on engClk CLK.SEC_CUE = false → t.chan = s.chan) ∧
      (s.works engPps = true → s.on engPps PPS.OUT_EN = true → t.clk.ppsHigh = true ∧
        t.emitted = s.emitted ++ (if s.clk.ppsHigh ∨ s.boot.ioLow then [] else [.pin .ppsOut .high])) ∧
      (s.on engPps PPS.OUT_EN = false → t.emitted = s.emitted) ∧ Keeps s t [.clk, .chan, .emitted] [cueFld]) ∧
    (s.clk.ppsHigh = false → exec .ppsOutFall s = .next s) ∧
    (s.clk.ppsHigh = true → ∃ t, exec .ppsOutFall s = .next t ∧ t.clk = { s.clk with ppsHigh := false } ∧
      t.emitted = s.emitted ++ (if s.boot.ioLow then [] else [.pin .ppsOut .low]) ∧ Keeps s t [.clk, .emitted] [])) ∧
  (∀ (r : Req) (k : Taken) (s : State) (l : Nat), l = fld r.payload 0 1 →
    (Ready timeNowCmd r k s → Answers (.timeNow r) s k St.ok 0 (fun _ => le 6 s.nowSec ++ [0, 0] ++ le 4 (s.nowNs % 1000000000) ++ le 4 (s.nowNs % 2 ^ 32) ++
      [byte s.clk.state, byte (bit (decide (0 < s.clk.slewLeft)) + 2 * bit s.clk.armed + 4 * bit s.clk.clamp), byte s.clk.source, 0] ++
      le 4 (unsigned 32 s.clk.rate)) Unchanged) ∧
    (s.on engPps PPS.IN_EN = false → l = 3 → timeSourceCmd.params .user r s = some (St.badParam, 0)) ∧
    (Ready timeSourceCmd r k s →
      (l = 1 → s.fenced (fld r.payload 1 1) = true ∨ s.talker (fld r.payload 1 1) = none → Answers (.timeSource r) s k St.notReady 0 (fun _ => []) Unchanged) ∧
      ((l = 1 → s.fenced (fld r.payload 1 1) = false ∧ (s.talker (fld r.payload 1 1)).isSome = true) →
        (s.clk.source = l → s.clk.ref = timeRef r.payload → s.clk.refStale = false → Answers (.timeSource r) s k St.noChange 0 (fun _ => []) Unchanged) ∧
        (s.clk.source = l → s.clk.ref = timeRef r.payload → s.clk.refStale = true → Answers (.timeSource r) s k St.ok 0 (fun _ => []) fun s t =>
          t.clk.source = l ∧ t.clk.ref = timeRef r.payload ∧ t.clk.refStale = false ∧ t.clk.state = s.clk.state ∧ Keeps s t [.clk] []) ∧
        (s.clk.source ≠ l ∨ s.clk.ref ≠ timeRef r.payload →
          Answers (.timeSource r) s k St.ok 0 (fun _ => []) fun s t => t.clk.source = l ∧ t.clk.ref = timeRef r.payload ∧
            (s.clk.state = 0 ∨ s.clk.state = 2 → t.clk.state = s.clk.state ∧ Keeps s t [.clk] []) ∧
            (s.clk.state = 1 ∨ s.clk.state = 3 → HeldOver s t 1)))) ∧
    (Ready timeSampleCmd r k s →
      (s.clk.source ≠ 2 → Answers (.timeSample r) s k St.notReady 0 (fun _ => []) Unchanged) ∧
      (s.clk.source = 2 → Answers (.timeSample r) s k St.ok 0 (fun _ => []) fun s t => t = s.takeSample
        { o := signed 64 (fld r.payload 0 8), at_ := (s.nowNs : Int) - ((s.nowNs % 2 ^ 32 + 2 ^ 32 - fld r.payload 8 4) % 2 ^ 32 : Nat) })) ∧
    (Ready timeAcquireCmd r k s →
      (s.clk.state ≠ 3 → Answers (.timeAcquire r) s k St.notReady 0 (fun _ => []) Unchanged) ∧
      (s.clk.state = 3 → s.clk.armed = true → Answers (.timeAcquire r) s k St.noChange 0 (fun _ => []) Unchanged) ∧
      (s.clk.state = 3 → s.clk.armed = false → Answers (.timeAcquire r) s k St.ok 0 (fun _ => []) fun s t =>
        t.clk = { s.clk with armed := true } ∧ Keeps s t [.clk] [])) ∧
    (Ready ptpSendCmd r k s →
      (s.on (engLane l) LN.LINK = false → Answers (.ptpSend r) s k St.notReady 0 (fun _ => []) Unchanged) ∧
      (s.on (engLane l) LN.LINK = true → s.txShut l = true → Answers (.ptpSend r) s k St.ok 0 (fun _ => []) fun s t =>
        t = s.dropPtp l {
          id := fld r.payload 2 2, stamp := bitOf (fld r.payload 1 1) 0, insOff := fld r.payload 6 2, csumOff := fld r.payload 8 2, bytes := r.payload.drop 12 }) ∧
      (s.on (engLane l) LN.LINK = true → s.txShut l = false →
        (8 ≤ (s.mac l).ptp.length → Answers (.ptpSend r) s k St.busy 8 (fun _ => []) Unchanged) ∧
        ((s.mac l).ptp.length < 8 → Answers (.ptpSend r) s k St.ok 0 (fun _ => []) fun s t =>
          (t.mac l).ptp = (s.mac l).ptp ++ [{
            id := fld r.payload 2 2, stamp := bitOf (fld r.payload 1 1) 0, insOff := fld r.payload 6 2, csumOff := fld r.payload 8 2, bytes := r.payload.drop 12 }] ∧ Keeps s t [.client] []))) ∧
    (Ready stampReadCmd r k s → Answers (.stampRead r) s k St.ok 0 (fun _ => (s.clk.stamps.take (fld r.payload 0 2)).flatMap fun x =>
        le 2 x.id ++ [byte x.lane, byte (bit x.discarded)] ++ le 6 x.sec ++ [0, 0] ++ le 4 x.ns) fun s t =>
      t.clk = { s.clk with stamps := s.clk.stamps.drop (fld r.payload 0 2) } ∧ Keeps s t [.clk] []))

/-! ### Power states, resets and boot (R406 to R430) -/

/-- A reset of scope `arr` (0 power-on, 1 cold, 2 standby exit, 3 warm) and a cause has been asserted (R420 to R423): the wider of the scopes holds, what it
clears is cleared and what it keeps is kept. -/
def ResetTo (s t : State) (arr cause : Nat) : Prop :=
  ∃ eff, eff = (if s.boot.phase.inReset then min s.boot.scope arr else arr) ∧
    t.boot.phase = .held ∧ t.boot.scope = eff ∧ t.rf engRst RST.LAST_CAUSE = cause ∧ t.rf engRst RST.LAST_SCOPE = eff ∧
    t.pending = s.pending ∧ t.elapsed = s.elapsed ∧ t.boot.due = none ∧ t.boot.update = none ∧
    t.chan.sessions = [] ∧ t.chan.txns = [] ∧ t.chan.tags = [] ∧ t.chan.taken = [] ∧ t.chan.waits = [] ∧
    (∀ p x, t.pages.look p = some x → x.used = false) ∧ (∀ q x, t.sched.queues.look q = some x → x.frames = []) ∧
    (arr ≤ 1 → t.partTime = 0) ∧ (1 < arr → eff ≠ 3 → t.partTime = s.partTime) ∧
    (arr ≠ 0 → ∀ f ∈ [AL.AL_CAUSE, AL.AL_RAIL, AL.ZERO_COUNT], t.rf engAlarm f = s.rf engAlarm f) ∧
    (arr = 0 → ∀ f ∈ [AL.AL_CAUSE, AL.AL_RAIL, AL.ZERO_COUNT], t.rf engAlarm f = 0) ∧
    (arr = 1 ∨ arr = 2 → t.rf engRst RST.RST_COLD = min (2 ^ 32 - 1) (s.rf engRst RST.RST_COLD + 1)) ∧
    (arr = 3 → t.rf engRst RST.RST_WARM = min (2 ^ 32 - 1) (s.rf engRst RST.RST_WARM + 1)) ∧
    (eff ≠ 3 → t.rf engWake WK.AWAKE = 1 ∧ t.rf engRst RST.RELEASED = 1 ∧ t.cry.slots = [] ∧ t.cry.sas = [] ∧ t.pon = {} ∧ t.tdm = {} ∧ t.cls = {} ∧
      ∀ e f, 256 ≤ e → f.off < 2 ^ 20 → f.lo < 32 → f.off ≠ 0x14 → ¬ (e = engKeys ∧ f.off = 0x104) → ¬ (f.off = 4 ∧ f.lo = 0) →
        t.rf e f = f.resetAt e) ∧
    t.rf engWake WK.SLEEP_SET = 0 ∧ t.rf engWake WK.PSTATE = 0 ∧
    (eff = 3 → (∀ d < 15, d ≠ 0 → d ≠ 3 → bitOf (t.rf engWake WK.AWAKE) d = false) ∧
      t.opt = s.opt ∧ t.boot.nor = s.boot.nor ∧ (∀ e, t.rf e HDR.ENABLE = s.rf e HDR.ENABLE) ∧
      (s.cry.olds = [] → s.cry.msgs = [] → s.disp.jobs = [] → t.cry.slots = s.cry.slots ∧ t.cry.sas = s.cry.sas) ∧
      (∀ v x, s.pon.vts.look v = some x → x.channel < 4 → x.state = 5 → (t.vt v).state = 6 ∧ (t.vt v).to2.isSome = true ∧ (t.vt v).onuId = x.onuId))

/-- A row whose reset is asserted, or absorbed by a wider one that is held (R423). -/
def ResetRow (i : Instr) (arr cause : Nat) : Prop :=
  ∀ s : State,
    (s.boot.phase = .held → s.boot.scope < arr → ∃ t, exec i s = .next t ∧ Counts s t engRst RST.RST_ABSORBED 1 ∧ Keeps s t [] [(engRst, RST.RST_ABSORBED)]) ∧
    (s.boot.phase ≠ .held ∨ arr ≤ s.boot.scope → ∃ t, exec i s = .next t ∧ ResetTo s t arr cause)

/-- A row whose warm reset waits until every PON PMD is between bursts (R421), or behind a reset that is due (R423). -/
def WarmRow (i : Instr) (cause : Nat) : Prop :=
  (∀ s : State, s.boot.phase = .standby → exec i s = .next s) ∧
  (∀ s : State, s.boot.phase = .up → s.boot.due.isSome = true → ∃ t, exec i s = .next t ∧ t.boot = { s.boot with later := s.boot.later ++ [cause] } ∧
    Keeps s t [.boot] []) ∧
  (∀ s : State, s.boot.phase = .up → s.boot.due = none → ∃ t, exec i s = .next t ∧ t.boot = { s.boot with due := some (.warm cause), waitsFor := none } ∧
    Keeps s t [.boot] []) ∧
  ∀ s : State, s.boot.phase.inReset = true → (s.boot.phase ≠ .held ∨ 3 ≤ s.boot.scope) → ∃ t, exec i s = .next t ∧ ResetTo s t 3 cause

/-- Domains 3 to 14 that a boot out of recovery releases (R422) are awake. -/
def Released (s t : State) : Prop :=
  ∀ d, 3 ≤ d → d ≤ 14 → (d = 3 ∨ ∃ e ∈ domainEngines d, s.on e HDR.ENABLE = true) → bitOf (t.rf engWake WK.AWAKE) d = true

/-- R427, read as log entry 98 says: of two copies whose MAGIC reads correctly the newer is tried first, copy A where neither is newer or neither reads
correctly, and the one that does where only one does. -/
def CopyOrder : Prop :=
  ∀ (n : Nor) (d : Nat), d = (fld n.optB 4 4 + 2 ^ 32 - fld n.optA 4 4) % 2 ^ 32 →
    (optMagic n.optA = true → optMagic n.optB = true → n.firstCopy = if 1 ≤ d ∧ d ≤ 2 ^ 31 - 1 then 2 else 1) ∧
    (optMagic n.optA = true → optMagic n.optB = false → n.firstCopy = 1) ∧
    (optMagic n.optA = false → optMagic n.optB = true → n.firstCopy = 2) ∧
    (optMagic n.optA = false → optMagic n.optB = false → n.firstCopy = 1)

/-- R424 to R430, R448 to R452: what a boot does that neither a self-test nor a further reset cuts, and where one stands that is cut. -/
def BootRules : Prop :=
  ∀ (b : BootIn) (s : State),
    (s.boot.phase ≠ .booting → exec (.boot b) s = .next s) ∧
    (s.boot.phase = .booting → s.boot.scope = 3 →
      (b.digestOk = true → s.rf engTake TK.REEL_LOADED ≠ 0 → b.failed = 0 → ∃ t, exec (.boot b) s = .next t ∧ t.boot.phase = .up ∧
        t.on engCmd VS.READY = true ∧ t.rf engProc FW.FW_STATE = 2 ∧ t.boot.readyMs = b.ms.toNat ∧ t.opt = s.opt ∧
        (s.rf engTake TK.RECOVERY = 0 → Released s t)) ∧
      (b.digestOk = false ∨ s.rf engTake TK.REEL_LOADED = 0 → ∃ t, exec (.boot b) s = .next t ∧ ResetTo s t 1 4)) ∧
    (∀ n c r, s.boot.phase = .booting → s.boot.scope ≠ 3 → s.boot.newBoot = true → b.failed = 0 →
      n = (if s.boot.scope = 0 then b.nor.getD s.boot.nor else s.boot.nor) → c = n.firstCopy → (r = 1 ∨ r = 2) →
      (b.stop = .option → ∃ t, exec (.boot b) s = .next t ∧ t.boot.phase = .inOption ∧ t.rf engTake (optTakes c) = 1 ∧ t.opt = s.opt) ∧
      (b.stop = .reel → n.candidate r = true → n.candidate (3 - r) = false → ∃ t, exec (.boot b) s = .next t ∧ t.boot.phase = .inReel r ∧
        ((n.reel r).confirmed = false → (t.boot.nor.reel r).tries = (n.reel r).tries &&& ((n.reel r).tries - 1))) ∧
      (b.stop = .ready →
        (optValid (n.copy c) = true → ∃ t, exec (.boot b) s = .next t ∧ t.opt = optBlock (n.copy c) ∧ t.rf engTake TK.OPT_USED = c ∧
          t.rf engTake TK.OPT_SEQ = fld (n.copy c) 4 4 ∧ t.rf engTake TK.TAKES_A = 0 ∧ t.rf engTake TK.TAKES_B = 0) ∧
        (optValid (n.copy c) = false → optValid (n.copy (3 - c)) = true → ∃ t, exec (.boot b) s = .next t ∧ t.opt = optBlock (n.copy (3 - c)) ∧
          t.rf engTake TK.OPT_USED = 3 - c) ∧
        (optValid n.optA = false → optValid n.optB = false → ∃ t, exec (.boot b) s = .next t ∧ t.opt = fusedBlock ∧ t.on engTake TK.RECOVERY = true ∧
          t.rf engTake TK.OPT_USED = 0 ∧ t.rf engTake TK.TAKES_A = 3 ∧ t.rf engTake TK.TAKES_B = 3 ∧ t.chan.routeUart = true) ∧
        (n.candidate r = true → n.candidate (3 - r) = false → (n.reel r).fault (s.rf engTake TK.FUSED) = 0 → (if r = 1 then b.badReadA else b.badReadB) = 0 →
          ∃ t, exec (.boot b) s = .next t ∧ t.boot.phase = .up ∧ t.on engCmd VS.READY = true ∧ t.rf engTake TK.REEL_LOADED = r ∧
            t.rf engProc FW.FW_STATE = 2 ∧ (t.boot.nor.reel r).confirmed = true ∧
            (optValid (n.copy c) = true → t.rf engTake TK.RECOVERY = 0 ∧ Released s t)) ∧
        (n.candidate 1 = false → n.candidate 2 = false → ∃ t, exec (.boot b) s = .next t ∧ t.boot.phase = .up ∧ t.on engCmd VS.READY = true ∧
          t.on engTake TK.RECOVERY = true ∧ t.rf engTake TK.REEL_LOADED = 0 ∧ t.rf engProc FW.FW_STATE = 3)))

/-- After R406 to R430, rows PORST_N_LOW, RESET_N_PULSE, PERST_N_LOW, MGMT_WATCHDOG_EXPIRY, PLL_LOCK_LOSS, WARM_RESET_ASSERT, STANDBY_WAKE, RESET_RELEASE, BOOT,
DOMAIN_SLEEP, DOMAIN_WAKE, DOMAIN_WAKE_TIMEOUT, POWER_STATE, RESET, BOOT_STATUS, OPTION_WRITE. -/
def Obligations.ResetsBootAndPowerStates : Prop :=
  CopyOrder ∧ ResetRow .porstNLow 0 1 ∧ ResetRow .resetNPulse 1 2 ∧ WarmRow .mgmtWatchdogExpiry 4 ∧ WarmRow .pllLockLoss 5 ∧ BootRules ∧
  (∀ s : State,
    (s.boot.phase.inReset = true → ∃ t, exec .perstNLow s = .next t ∧ Counts s t engRst RST.RST_ABSORBED 1 ∧ Keeps s t [] [(engRst, RST.RST_ABSORBED)]) ∧
    (s.boot.phase = .up → ∃ t, exec .perstNLow s = .next t ∧ t.boot.hostHeld = true ∧ t.boot.phase = .up ∧ t.rf engRst RST.LAST_CAUSE = 3 ∧
      t.rf engRst RST.LAST_SCOPE = 4 ∧ t.rf engRst RST.RST_HOST = min (2 ^ 32 - 1) (s.rf engRst RST.RST_HOST + 1) ∧ t.chan.sessions = [] ∧
      t.chan.tags = [] ∧ t.chan.txns = [] ∧ bitOf (t.rf engRst RST.RELEASED) 2 = false ∧ bitOf (t.rf engWake WK.AWAKE) 2 = false) ∧
    (s.boot.phase ≠ .up → exec .warmResetAssert s = .next s) ∧
    (s.boot.due = none → exec .warmResetAssert s = .next s) ∧
    (s.boot.phase = .up → s.relinquishing = true → s.pon.pair.leaving.isSome = true → exec .warmResetAssert s = .next s) ∧
    (∀ c, c ≠ 9 → c < 256 → s.boot.phase = .up → s.boot.due = some (.warm c) → s.boot.waitsFor = none → s.relinquishing = false →
      (s.betweenBursts = false → exec .warmResetAssert s = .next s) ∧
      (s.betweenBursts = true → ∃ u : State, exec .warmResetAssert s = .next (u.thenLater s.boot.later) ∧ ResetTo s u 3 c)) ∧
    (s.boot.phase = .held → s.boot.scope = 3 → ∀ c < 256, ResetTo s (s.thenLater [c]) 3 c) ∧
    (s.boot.phase = .up → s.boot.due = some .cold → s.boot.waitsFor = none → s.relinquishing = false → s.role ≠ 1 →
      ∃ t : State, exec .warmResetAssert s = .next (t.thenLater s.boot.later) ∧ t.boot.phase = .held ∧ t.boot.scope = 1 ∧ t.rf engRst RST.LAST_CAUSE = 8) ∧
    (∀ v, s.boot.phase = .up → s.boot.due = some (.standby v) → s.boot.waitsFor = none → s.relinquishing = false → s.role ≠ 1 → ∃ t, exec .warmResetAssert s = .next t ∧ t.boot.phase = .standby ∧
      t.rf engWake WK.PSTATE = 2 ∧ t.rf engWake WK.AWAKE = 1 ∧ t.cry.slots = [] ∧ t.chan.sessions = [] ∧ t.pages = [] ∧ t.rf engCmd VS.READY = 0 ∧
      t.rf engWake WK.WAKE_SRC = s.rf engWake WK.WAKE_SRC) ∧
    (∀ source : Fin 5,
      (s.boot.phase ≠ .standby ∨ bitOf (s.rf engWake WK.WAKE_SRC) source = false ∨ source = 2 ∧ s.rf engWake WK.GPIO_MASK = 0 →
        exec (.standbyWake source) s = .next s) ∧
      (s.boot.phase = .standby → bitOf (s.rf engWake WK.WAKE_SRC) source = true → (source = 2 → s.rf engWake WK.GPIO_MASK ≠ 0) →
        ∃ t, exec (.standbyWake source) s = .next t ∧ t.rf engWake WK.LAST_WAKE = 2 ^ source.val ∧
          ResetTo (if source = 3 then s.pass (s.periodsTo s.wakeAt) else s) t 2 10)) ∧
    (s.boot.phase = .held → s.boot.hold = false → s.boot.trip = false → ∃ t, exec .resetRelease s = .next t ∧ t.boot.phase = .booting ∧
      (∀ d < 3, bitOf (t.rf engRst RST.RELEASED) d = true ∧ bitOf (t.rf engWake WK.AWAKE) d = true)) ∧
    (s.boot.phase = .held → (s.boot.hold = true ∨ s.boot.trip = true) → s.boot.hostHeld = false → exec .resetRelease s = .next s) ∧
    (s.boot.phase = .up → s.boot.hostHeld = true → ∃ t, exec .resetRelease s = .next t ∧ t.boot.hostHeld = false ∧ t.boot.phase = .up ∧
      bitOf (t.rf engRst RST.RELEASED) 2 = true ∧ t.on engCmd VS.READY = true)) ∧
  (∀ (d : Fin 16) (s : State),
    (s.busyDomain d = true ∨ bitOf (s.rf engWake WK.AWAKE) d = false → exec (.domainSleep d) s = .next s) ∧
    (1 ≤ d.val → d.val ≤ 14 → bitOf (s.rf engWake WK.SLEEP_SET) d = true → s.asleep d = false → bitOf (s.rf engWake WK.AWAKE) d = true →
      s.busyDomain d = false → ∃ t, exec (.domainSleep d) s = .next t ∧ bitOf (t.rf engWake WK.AWAKE) d = false ∧ Counts s t engWake WK.WK_SLEEPS 1 ∧
        (∀ e ∈ domainEngines d, isSpareWin e = false → e ≠ engEndpoint → (s.engState e = 1 ∨ s.engState e = 2 ∨ s.engState e = 3) → t.engState e = 0) ∧
        (s.cry.olds = [] → t.cry.slots = s.cry.slots)) ∧
    (s.asleep d = false → exec (.domainWake d) s = .next s) ∧
    (1 ≤ d.val → s.asleep d = true → ∃ u : State, exec (.domainWake d) s = .next u.resume ∧ bitOf (u.rf engWake WK.AWAKE) d = true ∧
      bitOf (u.rf engRst RST.RELEASED) d = true ∧ Counts s u engWake WK.WK_WAKES 1 ∧
      (∀ e ∈ domainEngines d, isSpareWin e = false → isCipher e = false → isLane e = false → s.on e HDR.ENABLE = true → s.engState e = 0 →
        u.engState e = 2)) ∧
    (exec (.domainWakeTimeout d []) s = .next s) ∧
    (∀ (n : Byte) (e : Nat), e = eng d n.toNat → present e = true → s.on e HDR.ENABLE = true → isSpareWin e = false → s.engState e = 0 →
      isCipher e = false → isLane e = false → 1 ≤ d.val → s.asleep d = true →
      ∃ u : State, exec (.domainWakeTimeout d [n]) s = .next ((u.failHeld [e]).resume) ∧ u.engState e = 4 ∧ u.on e HDR.WAKE_FAIL = true ∧
        Counts s u engWake WK.WK_FAIL 1 ∧ bitOf (u.rf engWake WK.AWAKE) d = true)) ∧
  (∀ (r : Req) (k : Taken) (s : State) (v : Bool) (st : Nat) (after : State → State), s.boot.due = none → st = fld r.payload 0 1 →
    after = (fun u => u.resume.flushDue r.carrier) →
    (Ready (powerStateCmd v) r k s →
      (st ≠ 2 → s.rf engWake WK.PSTATE = st → s.rf engWake WK.SLEEP_SET = s.askedSet r.payload →
        Answers (.powerState ⟨r, v⟩) s k St.noChange 0 (fun u => le 2 u.heldMask ++ [byte st, 0]) Unchanged 0 after) ∧
      (st ≠ 2 → (s.rf engWake WK.PSTATE ≠ st ∨ s.rf engWake WK.SLEEP_SET ≠ s.askedSet r.payload) →
        Answers (.powerState ⟨r, v⟩) s k St.ok 0 (fun u => le 2 u.heldMask ++ [byte st, 0]) (fun s u =>
          u.rf engWake WK.PSTATE = st ∧ u.rf engWake WK.SLEEP_SET = s.askedSet r.payload ∧
          (∀ d, 1 ≤ d → d ≤ 14 → bitOf (s.askedSet r.payload) d = false → s.parkedDomain d = false → u.asleep d = false)) 0 after) ∧
      (st = 2 → s.rf engWake WK.WAKE_SRC = 0 → Answers (.powerState ⟨r, v⟩) s k St.badParam 0 (fun _ => []) Unchanged 0 after) ∧
      (st = 2 → s.rf engWake WK.WAKE_SRC ≠ 0 → Answers (.powerState ⟨r, v⟩) s k St.ok 0 (fun u => le 2 u.heldMask ++ [2, 0]) (fun w u =>
          u = { w with boot := { w.boot with due := some (.standby v), waitsFor := some s.chan.order } }) 0 after)) ∧
    (Ready resetCmd r k s →
      (st = 0 → s.engState r.eng = 5 → Answers (.reset r) s k St.unitFailed 0 (fun _ => []) Unchanged 0 (·.flushDue r.carrier)) ∧
      (st = 0 → s.engState r.eng ≠ 5 → Waits (.reset r) s k (.softReset r.eng) (fun s t => t = s.softReset r.eng) (·.flushDue r.carrier)) ∧
      (st ≠ 0 → Answers (.reset r) s k St.ok 0 (fun _ => []) (fun w u =>
        u = { w with boot := { w.boot with due := some (if st = 1 then .warm 9 else .cold), waitsFor := some s.chan.order } }) 0 (·.flushDue r.carrier))) ∧
    (Ready bootStatusCmd r k s → Answers (.bootStatus r) s k St.ok 0 (fun _ =>
      [byte (s.rf engRst RST.LAST_CAUSE), byte (s.rf engRst RST.LAST_SCOPE), byte (s.rf engTake TK.OPT_USED),
        byte (s.rf engTake TK.TAKES_A + 4 * s.rf engTake TK.TAKES_B + 16 * s.rf engTake TK.RECOVERY)] ++ le 4 (s.rf engTake TK.OPT_SEQ) ++
        [byte (s.rf engTake TK.TRIM_SPARE), byte (s.rf engTake TK.TRIM_DEFAULT)] ++ le 2 s.boot.readyMs ++ zeros 4) Unchanged) ∧
    (∀ c q, c = (if s.rf engTake TK.OPT_USED = 1 then 2 else 1) → q = s.boot.nor.nextSeq →
      (Ready (optionWriteCmd true) r k s →
        (s.boot.update.isSome = true → Answers (.optionWrite r true) s k St.busy 9 (fun _ => []) Unchanged) ∧
        (s.boot.update = none → Answers (.optionWrite r true) s k St.ok 0 (fun _ => [byte c, 0, 0, 0] ++ le 4 q) fun s t =>
          t.boot.nor.copy c = optSeal r.payload q ∧ t.boot.nor.copy (3 - c) = s.boot.nor.copy (3 - c) ∧ Keeps s t [.boot] [])) ∧
      (Ready (optionWriteCmd false) r k s → s.boot.update = none → Answers (.optionWrite r false) s k St.integrity 0 (fun _ => []) fun s t =>
        optValid (t.boot.nor.copy c) = false ∧ t.boot.nor.copy (3 - c) = s.boot.nor.copy (3 - c) ∧ Keeps s t [.boot] [])))

/-! ### Sensors, buses, the continuity log, updates and spares (R432 to R459) -/

/-- R442, R443: a repeat raises REPEAT of the newest record; any other event starts a record, the 4,097th over the oldest. -/
def LogRules : Prop :=
  ∀ (s : State) (event domain locator : Nat) (data : List Byte) (n : List Byte), n = data ++ zeros (28 - data.length) →
    Keeps s (s.logAt event domain locator data) [.log] [] ∧
    (∀ l r, s.log.records = l ++ [r] → r.event = event → r.domain = domain → r.locator = locator → r.data = n → s.elapsed ≤ r.lastAt + 10000000000 * 2 ^ 32 →
      r.reps < 65535 → (s.logAt event domain locator data).log = { s.log with records := l ++ [{ r with reps := r.reps + 1, lastAt := s.elapsed }] }) ∧
    ((∀ r, s.log.records.getLast? = some r → r.event ≠ event ∨ r.domain ≠ domain ∨ r.locator ≠ locator ∨ r.data ≠ n ∨
        r.lastAt + 10000000000 * 2 ^ 32 < s.elapsed ∨ 65535 ≤ r.reps) →
      ∃ r : LogRec, r.event = event ∧ r.domain = domain ∧ r.locator = locator ∧ r.data = n ∧ r.reps = 0 ∧ r.seq = s.log.nextSeq ∧ r.sec = s.nowSec ∧
        r.hours = s.log.hours ∧ r.cycles = s.log.cycles ∧ r.severity = severityOf event ∧
        (s.logAt event domain locator data).log.nextSeq = (s.log.nextSeq + 1) % 2 ^ 32 ∧
        (s.log.records.length < 4096 → (s.logAt event domain locator data).log.records = s.log.records ++ [r] ∧
          (s.logAt event domain locator data).log.overrun = s.log.overrun) ∧
        (4096 ≤ s.log.records.length → (s.logAt event domain locator data).log.records = s.log.records.drop 1 ++ [r] ∧
          (s.logAt event domain locator data).log.overrun = min 0xFFFFFFFF (s.log.overrun + 1)))

/-- R435: the second sample above HI_WARN declares, the second 2.0 °C below it clears, and the third sample of a rail group outside its window declares. -/
def WarnRules : Prop :=
  (∀ (s : State) (i raw : Nat), i < 8 → raw < 65536 → signed 16 (s.rf engSens SEN.LO_WARN) + 32 ≤ signed 16 raw →
    (bitOf s.boot.hiWarn i = false → bitOf s.boot.loWarn i = false → 1 ≤ s.boot.counts.get (48 + i) 0 → signed 16 (s.rf engSens SEN.HI_WARN) < signed 16 raw →
      bitOf (s.siteWarn i raw).boot.hiWarn i = true ∧ Cued s (s.siteWarn i raw) 0x9002 ([byte i, 1] ++ le 2 raw) ∧
      (s.siteWarn i raw).log = (s.logEng 0x0011 engSens ([0, byte i] ++ le 2 raw)).log) ∧
    (bitOf s.boot.hiWarn i = true → bitOf s.boot.loWarn i = false → 1 ≤ s.boot.counts.get (64 + i) 0 →
      signed 16 raw ≤ signed 16 (s.rf engSens SEN.HI_WARN) - 32 → bitOf (s.siteWarn i raw).boot.hiWarn i = false ∧
      Cued s (s.siteWarn i raw) 0x9002 ([byte i, 0] ++ le 2 raw) ∧ (s.siteWarn i raw).log = s.log)) ∧
  (∀ (s : State) (g rail nominal range mv w : Nat), w = (if s.rf engSens SEN.WARN_PCT = 0 then range else s.rf engSens SEN.WARN_PCT) → g < 16 →
    bitOf s.boot.groupWarn g = false → 2 ≤ s.boot.counts.get (112 + g) 0 → nominal * w < railOff nominal mv * 1000 →
    bitOf (s.groupWarn g rail nominal range mv).boot.groupWarn g = true ∧ Cued s (s.groupWarn g rail nominal range mv) 0x9003 ([byte rail, 1] ++ le 2 mv) ∧
    (s.groupWarn g rail nominal range mv).log = (s.logEng 0x0011 engSens ([1, byte rail] ++ le 2 mv)).log)

/-- R419, R434 to R438, rows TEMPERATURE_SAMPLE, RAIL_SAMPLE, SRAM_ECC_ERROR, I2C_STRETCH_TIMEOUT, I2C_RECOVERY_RETRY, OPTICS_MONITOR_READ, I2C_XFER. -/
def SensorAndBusRules : Prop :=
  (∀ (ts : List (BitVec 16)) (ref slow : BitVec 16) (v : Bool) (s : State), ts.length = 8 →
    (s.works engSens = true → s.boot.trip = false → s.boot.hiWarn = 0 → s.boot.loWarn = 0 →
      (∀ x ∈ ts, signed 16 (s.rf engSens SEN.LO_WARN) ≤ signed 16 x.toNat ∧ signed 16 x.toNat ≤ signed 16 (s.rf engSens SEN.HI_WARN) ∧
        -720 ≤ signed 16 x.toNat ∧ signed 16 x.toNat ≤ 1840) →
      ∃ t, exec (.temperatureSample ts ref slow v) s = .next t ∧ (∀ i < 8, t.rf engSens (SEN.TEMP.idx i) = (ts.getD i 0).toNat) ∧
        t.rf engSens SEN.REF_PPM = ref.toNat ∧ t.rf engSens SEN.SLOW_PPM = slow.toNat ∧ t.boot = { s.boot with counts := t.boot.counts } ∧
        t.rf engAlarm AL.AL_NOW = (s.rf engAlarm AL.AL_NOW) &&& 0x3CF ∧
        Keeps s t [.boot] ([(engSens, SEN.REF_PPM), (engSens, SEN.SLOW_PPM), (engSens, SEN.TEMP_WARN), (engAlarm, AL.AL_NOW)] ++
          (List.range 8).map fun i => (engSens, SEN.TEMP.idx i))) ∧
    (s.boot.phase = .up → s.boot.trip = false → (∀ x ∈ ts, -720 ≤ signed 16 x.toNat ∧ signed 16 x.toNat ≤ 2000) →
      (∃ i < 8, 1840 < signed 16 (ts.getD i 0).toNat ∧ 1 ≤ s.boot.counts.get (32 + i) 0) →
      ∃ t, exec (.temperatureSample ts ref slow v) s = .next t ∧ ResetTo s t 1 7 ∧ t.boot.trip = true) ∧
    (s.boot.trip = true → (∀ x ∈ ts, -720 ≤ signed 16 x.toNat ∧ signed 16 x.toNat ≤ 1680) →
      ∃ t, exec (.temperatureSample ts ref slow v) s = .next t ∧ t.boot.trip = false ∧ t.boot.phase = s.boot.phase)) ∧
  (∀ (mv : List (BitVec 16)) (s : State), s.works engSens = true → mv.length = 14 → s.boot.groupWarn = 0 →
    (∀ x ∈ railGroups.zip mv, railOff x.1.2.1 x.2.toNat * 1000 ≤
      x.1.2.1 * (if s.rf engSens SEN.WARN_PCT = 0 then x.1.2.2 else s.rf engSens SEN.WARN_PCT)) →
    ∃ t, exec (.railSample mv) s = .next t ∧ (railOff 800 (mv.getD 12 0).toNat ≤ 40 → t.boot.ioLow = decide ((mv.getD 13 0).toNat < 1710)) ∧
      t.rf engSens (SEN.RAIL.idx 4) = (mv.getD 9 0).toNat ∧ t.rf engSens (SEN.RAIL.idx 5) = (mv.getD 10 0).toNat ∧
      t.rf engSens (SEN.RAIL.idx 6) = (mv.getD 11 0).toNat ∧ t.rf engSens SEN.RAIL_WARN = 0 ∧
      t.boot = { s.boot with counts := t.boot.counts, ioLow := t.boot.ioLow } ∧
      Keeps s t [.boot, .emitted] ((engSens, SEN.RAIL_WARN) :: (List.range 8).map fun i => (engSens, SEN.RAIL.idx i))) ∧
  (∀ (mv : List (BitVec 16)) (s : State), mv.length = 14 → railOff 800 (mv.getD 12 0).toNat ≤ 40 → (mv.getD 13 0).toNat < 1710 →
    ∃ t, exec (.railSample mv) s = .next t ∧ ∀ p ∈ [Pin.ppsOut, .spiSck, .spiCsN, .uartTxd, .scl 0, .sda 0, .scl 1, .sda 1, .pben 0, .pben 1, .pben 2, .pben 3],
      t.drive p = .hiZ) ∧
  (∀ s : State, s.works engProc = true →
    (∃ t, exec (.sramEccError true) s = .next t ∧ Counts s t engProc FW.SRAM_CE 1 ∧ Keeps s t [] [(engProc, FW.SRAM_CE)]) ∧
    (∃ t, exec (.sramEccError false) s = .next t ∧ Counts s t engProc FW.SRAM_UE 1 ∧ t.boot.fwDead = true ∧ Keeps s t [.boot] [(engProc, FW.SRAM_UE)])) ∧
  (∀ (bus : Fin 2) (s : State) (e : Nat), e = engI2c bus →
    (s.rf e I2C.STATE ≠ 1 → exec (.i2cStretchTimeout bus) s = .next s) ∧
    (s.rf e I2C.STATE = 1 → s.boot.i2cFor.look bus = none → ∀ w : Wait, w.cmd.op ≠ 0x0111 → s.chan.waits.filter (fun w => w.why = .i2c bus) = [w] →
      Ends (.i2cStretchTimeout bus) s w St.timeout 0 (fun _ => []) fun s t => Counts s t e I2C.I2C_STRETCH 1 ∧ t.rf e I2C.STATE = 0 ∧
        Keeps s t [] [(e, I2C.STATE), (e, I2C.I2C_STRETCH)]) ∧
    (∀ freed pulses x, s.rf e I2C.STATE ≠ 2 → exec (.i2cRecoveryRetry bus freed pulses x) s = .next s) ∧
    (∀ (pulses : Fin 10) x, s.rf e I2C.STATE = 2 → (∀ w ∈ s.chan.waits, w.why ≠ .i2c bus) →
      (∃ t, exec (.i2cRecoveryRetry bus true pulses x) s = .next t ∧ t.rf e I2C.STATE = 0 ∧ t.rf e I2C.UNMANAGED = 0 ∧ Counts s t e I2C.I2C_RECOVERIES 1 ∧
        (∀ ch < 4, s.rf (engOpt ch) OPT.BUS = bus → t.rf (engOpt ch) OPT.UNMANAGED = 0)) ∧
      (s.rf e I2C.RETRIES < 3 → ∃ t, exec (.i2cRecoveryRetry bus false pulses x) s = .next t ∧ t.rf e I2C.STATE = 2 ∧
        t.rf e I2C.RETRIES = s.rf e I2C.RETRIES + 1 ∧ Keeps s t [.boot] [(e, I2C.STATE), (e, I2C.RETRIES)]) ∧
      (s.rf e I2C.RETRIES = 3 → ∃ t, exec (.i2cRecoveryRetry bus false pulses x) s = .next t ∧ t.rf e I2C.STATE = 3 ∧ t.rf e I2C.UNMANAGED = 1 ∧
        Counts s t e I2C.I2C_STUCK_CNT 1 ∧ (∀ ch < 4, s.rf (engOpt ch) OPT.BUS = bus → t.rf (engOpt ch) OPT.UNMANAGED = 1) ∧
        Cued s t 0x9001 [byte bus, 4, byte pulses, byte (((s.opticsOn bus).map fun c => 2 ^ c).sum)] ∧ t.log = (s.logEng 0x0010 e [byte bus]).log))) ∧
  (∀ (ch : Fin 4) (x : OpticsIn) (s : State) (o b : Nat), o = engOpt ch → b = s.rf o OPT.BUS → b < 2 → s.works o = true → s.works (engI2c b) = true →
    s.rf (engI2c b) I2C.STATE = 0 → x.bus.sdaLow = none →
    ∀ asked, asked = s.emitted ++ (if s.rf o OPT.MUX_ADDR = 0 then [] else [Emit.i2c b (s.rf o OPT.MUX_ADDR / 2) [byte (2 ^ s.rf o OPT.MUX_PORT)]]) ++
      [.i2c b (s.rf o OPT.DEV_ADDR / 2) [96]] →
    (∀ data, x.bus.ends = .done data → x.fault = false → ∃ t, exec (.opticsMonitorRead ch x) s = .next t ∧ t.rf o OPT.RX_PWR = x.rx.toNat ∧
      t.rf o OPT.TX_PWR = x.tx.toNat ∧ t.rf o OPT.BIAS = x.bias.toNat ∧ t.rf o OPT.TEMP = x.temp.toNat ∧ t.rf o OPT.VCC = x.vcc.toNat ∧
      t.on o OPT.VALID = true ∧ t.on o OPT.STALE = false ∧ t.emitted = asked ∧
      Keeps s t [.emitted] [(o, OPT.RX_PWR), (o, OPT.TX_PWR), (o, OPT.BIAS), (o, OPT.TEMP), (o, OPT.VCC), (o, OPT.VALID), (o, OPT.STALE)]) ∧
    (x.bus.ends = .nack → ∃ t, exec (.opticsMonitorRead ch x) s = .next t ∧ t.on o OPT.STALE = true ∧ Counts s t (engI2c b) I2C.I2C_NACK 1 ∧
      t.emitted = asked ∧ Keeps s t [.emitted] [(o, OPT.STALE), (engI2c b, I2C.I2C_NACK)])) ∧
  (∀ (r : Req) (k : Taken) (s : State) (x : I2cIn) (bus e : Nat), bus = fld r.payload 0 1 → e = engI2c bus → Ready (i2cXferCmd x) r k s →
    (s.rf e I2C.STATE = 1 ∨ s.rf e I2C.STATE = 2 → exec (.i2cXfer r x) s = .next s) ∧
    (s.rf e I2C.STATE = 3 → Answers (.i2cXfer r x) s k St.unitFailed 0 (fun _ => []) Unchanged) ∧
    (s.rf e I2C.STATE = 0 → s.isOn e = true → x.sdaLow = none →
      (x.ends = .nack → Answers (.i2cXfer r x) s k St.notReady 0 (fun _ => []) fun s t => Counts s t e I2C.I2C_NACK 1 ∧ Keeps s t [] [(e, I2C.I2C_NACK)]) ∧
      (x.ends = .stretch → Waits (.i2cXfer r x) s k (.i2c bus) fun s t => t.rf e I2C.STATE = 1 ∧ Keeps s t [] [(e, I2C.STATE)]) ∧
      (∀ data, x.ends = .done data → data.length = fld r.payload 3 1 → Answers (.i2cXfer r x) s k St.ok 0 (fun _ => data) fun s t =>
        t.emitted = s.emitted ++ (if fld r.payload 2 1 = 0 then [] else [.i2c bus (fld r.payload 1 1) (r.payload.drop 4)]) ∧ Keeps s t [.emitted] [])) ∧
    (∀ p, s.rf e I2C.STATE = 0 → s.isOn e = true → x.sdaLow = some (false, p) → Waits (.i2cXfer r x) s k (.i2c bus) fun s t =>
      t.rf e I2C.STATE = 2 ∧ t.rf e I2C.RETRIES = 1 ∧ Keeps s t [.boot] [(e, I2C.STATE), (e, I2C.RETRIES)]))

/-- R440 to R446, rows LOG_MIRROR_WRITE, HOURLY_SLATE, CURSOR_WRITE, WINDOW_AUTO_READ, LOG_CLEAR. -/
def LogRowRules : Prop :=
  (∀ (fails : Fin 65) (s : State), (s.closedRecs.length < 64 → exec (.logMirrorWrite fails) s = .next s) ∧
    (s.closedRecs.length = 64 → s.fwStops = false → s.log.norBad + fails ≤ 60 → ∃ t, exec (.logMirrorWrite fails) s = .next t ∧
      (∀ r ∈ s.closedRecs, ∃ x ∈ t.log.mirror, r ∈ x) ∧ (∀ r, s.closedRecs.getLast? = some r → t.log.mirrorNext = (r.seq + 1) % 2 ^ 32) ∧
      t.log.records = s.log.records ∧ t.rf engLog LOG.MIRROR_FAIL = min (2 ^ 32 - 1) (s.rf engLog LOG.MIRROR_FAIL + fails) ∧
      Keeps s t [.log] [(engLog, LOG.MIRROR_FAIL), (engLog, LOG.MIRRORED_SEQ)])) ∧
  (∀ s : State, ∃ t, exec .hourlySlate s = .next t ∧ t.log.hours = min 0xFFFFFFFF (s.log.hours + 1) ∧
    (∃ x, t.log.slates.getLast? = some x ∧ x.hours = t.log.hours ∧ x.cycles = s.log.cycles) ∧ t.log.slates.length ≤ max 512 (s.log.slates.length + 1) ∧
    t.log.records = s.log.records ∧ s.elapsed ≤ t.elapsed) ∧
  (∀ (v : Word) (s : State), ∃ t, exec (.cursorWrite v) s = .next t ∧ t.rf engLog LOG.CURSOR = v.toNat ∧
    (∀ r, s.log.records.find? (fun r => r.seq = v.toNat) = some r → t.log.window = r.bytes ∧ t.on engLog LOG.VALID = true) ∧
    ((∀ r ∈ s.log.records, r.seq ≠ v.toNat) → t.log.window = zeros 64 ∧ t.on engLog LOG.VALID = false) ∧
    t.log = { s.log with window := t.log.window } ∧ Keeps s t [.log] [(engLog, LOG.CURSOR), (engLog, LOG.VALID)]) ∧
  (∀ s : State, (s.on engLog LOG.AUTO = false → exec .windowAutoRead s = .next s) ∧
    (s.on engLog LOG.AUTO = true → ∃ t, exec .windowAutoRead s = .next t ∧ t.rf engLog LOG.CURSOR = (s.rf engLog LOG.CURSOR + 1) % 2 ^ 32 ∧
      (∀ r, s.log.records.find? (fun r => r.seq = (s.rf engLog LOG.CURSOR + 1) % 2 ^ 32) = some r → t.log.window = r.bytes) ∧
      Keeps s t [.log] [(engLog, LOG.CURSOR), (engLog, LOG.VALID)])) ∧
  logClearCmd.role = .officer ∧
  (∀ (r : Req) (k : Taken) (s : State), Ready logClearCmd r k s →
    (s.boot.update.isSome = true → Answers (.logClear r) s k St.busy 9 (fun _ => []) Unchanged) ∧
    (s.boot.update = none → Answers (.logClear r) s k St.ok 0 (fun _ => []) fun s t => t.log.overrun = 0 ∧ t.log.mirror = [] ∧
      (∃ x : LogRec, t.log.records = [x] ∧ x.event = 0x0012 ∧ x.seq = s.log.nextSeq ∧ x.data = le 2 r.session.toNat ++ zeros 26 ∧ t.log.nextSeq = (s.log.nextSeq + 1) % 2 ^ 32) ∧
      Keeps s t [.log] []))

/-- R448 to R457, rows ROW_ECC_ERROR, UPDATE_TIMEOUT, UPDATE_BEGIN, UPDATE_DATA, UPDATE_END, REEL_STATUS, SPARE_INVENTORY, UNIT_RESTORE. -/
def UpdateAndSpareRules : Prop :=
  (∀ s : State, ∃ t, exec .updateTimeout s = .next t ∧ t.boot = { s.boot with update := none } ∧ Keeps s t [.boot] []) ∧
  (∀ (row : BitVec 16) (s : State) (old : List Nat), old = (s.boot.rowErrs.get (4 * 2 ^ 32 + row.toNat) []).filter (fun t => s.elapsed ≤ t + 86400000000000 * 2 ^ 32) →
    (old.length < 3 → ∀ slots, ∃ t, exec (.rowEccError (.stash row slots) true) s = .next t ∧
      t.boot = { s.boot with rowErrs := s.boot.rowErrs.put (4 * 2 ^ 32 + row.toNat) (old ++ [s.elapsed]) } ∧ Keeps s t [.boot] []) ∧
    (3 ≤ old.length → s.boot.rowsUsed.get 4 0 < 32 → ∀ slots, ∃ t, exec (.rowEccError (.stash row slots) true) s = .next t ∧
      t.boot.rowsUsed.get 4 0 = s.boot.rowsUsed.get 4 0 + 1 ∧
      Cued s t 0x9004 ([4, 0, 0, 0] ++ le 4 row.toNat ++ le 2 (31 - s.boot.rowsUsed.get 4 0) ++ [0, 0]) ∧ t.cls = s.cls ∧
      Keeps s t [.boot, .log, .chan] [cueFld]) ∧
    (∀ slot : BitVec 16, s.boot.rowsUsed.get 4 0 < 32 → s.cls.stash.has slot.toNat = true → ∃ t, exec (.rowEccError (.stash row [slot]) false) s = .next t ∧
      t.cls.stash.has slot.toNat = false ∧ Counts s t (engTable 1) FT.FT_MOVES 1 ∧ t.boot.rowsUsed.get 4 0 = s.boot.rowsUsed.get 4 0 + 1 ∧
      Keeps s t [.boot, .log, .chan, .cls] [cueFld, (engTable 1, FT.FT_MOVES)])) ∧
  (∀ (slot : BitVec 16) (s : State), slot.toNat ∉ s.cry.retired → ∃ t, exec (.rowEccError (.keystore slot) false) s = .next t ∧
    t.cry.retired = s.cry.retired ++ [slot.toNat] ∧ t.cry.slots.has slot.toNat = false ∧ t.rf engKeys KS.SLOTS_RETIRED = (s.cry.retired.length + 1) % 2 ^ KS.SLOTS_RETIRED.width) ∧
  (∀ (r : Req) (k : Taken) (s : State) (g : Nat), g = s.targetReel →
    (Ready (updateBeginCmd true) r k s →
      (headerSigned r.payload = false → Answers (.updateBegin r true) s k St.integrity 0 (fun _ => []) Unchanged) ∧
      (∀ u, headerSigned r.payload = true → s.boot.update = some u → u.session ≠ r.session.toNat →
        Answers (.updateBegin r true) s k St.collision 0 (fun _ => []) Unchanged) ∧
      (headerSigned r.payload = true → (∀ u, s.boot.update = some u → u.session = r.session.toNat) → (s.boot.nor.reel g).bad0 = false →
        Answers (.updateBegin r true) s k St.ok 0 (fun _ => [byte g, 0, 0, 0]) fun s t => (t.boot.nor.reel g).valid = false ∧
          t.boot.nor.reel (3 - g) = s.boot.nor.reel (3 - g) ∧ t.boot.update = some { session := r.session.toNat, reel := g, header := r.payload } ∧
          Keeps s t [.boot] [])) ∧
    (Ready (updateBeginCmd false) r k s → headerSigned r.payload = true → s.boot.update = none → (s.boot.nor.reel g).bad0 = false →
      Answers (.updateBegin r false) s k St.unitFailed 0 (fun _ => []) fun s t => (t.boot.nor.reel g).bad0 = true ∧ t.boot.update = none ∧
        Counts s t engSpi SPI.SPI_ERASE_FAIL 1 ∧ Keeps s t [.boot] [(engSpi, SPI.SPI_ERASE_FAIL)])) ∧
  (∀ (r : Req) (k : Taken) (s : State), Ready (updateDataCmd []) r k s →
    ((∀ u, s.boot.update = some u → u.session ≠ r.session.toNat) → Answers (.updateData r []) s k St.notReady 0 (fun _ => []) Unchanged) ∧
    (∀ u n, s.boot.update = some u → u.session = r.session.toNat → n = r.payload.length - 4 →
      (fld u.header 12 4 < u.data.length + n → Answers (.updateData r []) s k St.badLength 0 (fun _ => []) Unchanged) ∧
      (u.data.length + n ≤ fld u.header 12 4 → fld r.payload 0 4 ≠ u.data.length → Answers (.updateData r []) s k St.badParam 0 (fun _ => []) Unchanged) ∧
      (u.data.length + n ≤ fld u.header 12 4 → fld r.payload 0 4 = u.data.length → Answers (.updateData r []) s k St.ok 0 (fun _ => []) fun s t =>
        t.boot = { s.boot with update := some { u with data := u.data ++ r.payload.drop 4 } } ∧ Keeps s t [.boot] []))) ∧
  (∀ (r : Req) (k : Taken) (s : State) (b : Byte) (prog : Bool) (u : Update) (i n : Nat) (f : Fld), Ready (updateDataCmd [(b, prog)]) r k s →
    s.boot.update = some u → u.session = r.session.toNat → n = r.payload.length - 4 → u.data.length + n ≤ fld u.header 12 4 →
    fld r.payload 0 4 = u.data.length → (blocksOf u.data.length n).find? (fun i => u.block i = b.toNat) = some i →
    f = (if prog then SPI.SPI_PROG_FAIL else SPI.SPI_ERASE_FAIL) →
    (64 ≤ u.used → Answers (.updateData r [(b, prog)]) s k St.exhausted 0 (fun _ => []) fun s t => t.boot = { s.boot with update := none } ∧
      Counts s t engSpi f 1 ∧ Keeps s t [.boot] [(engSpi, f)]) ∧
    (u.used < 64 → Answers (.updateData r [(b, prog)]) s k St.ok 0 (fun _ => []) fun s t =>
      t.boot = { s.boot with update := some { u with remap := u.remap.put i (64 + u.used), used := u.used + 1, data := u.data ++ r.payload.drop 4 } } ∧
      Counts s t engSpi f 1 ∧ Cued s t 0x9004 ([7, 1, 0, 0] ++ le 4 b.toNat ++ le 2 (63 - u.used) ++ [0, 0]) ∧
      Keeps s t [.boot, .log, .chan] [(engSpi, f), cueFld])) ∧
  (∀ (r : Req) (k : Taken) (s : State) (u : Update), Ready (updateEndCmd false) r k s → s.boot.update = some u → u.session = r.session.toNat →
    fld u.header 12 4 ≤ u.data.length → Answers (.updateEnd r false) s k St.integrity 0 (fun _ => []) fun s t =>
      t.boot = { s.boot with update := none } ∧ Keeps s t [.boot] []) ∧
  (∀ (r : Req) (k : Taken) (s : State), Ready (updateEndCmd true) r k s →
    ((∀ u, s.boot.update = some u → u.session ≠ r.session.toNat) → Answers (.updateEnd r true) s k St.notReady 0 (fun _ => []) Unchanged) ∧
    (∀ u q, s.boot.update = some u → u.session = r.session.toNat → u.reel = 1 ∨ u.reel = 2 →
      q = (if (s.boot.nor.reel (3 - u.reel)).valid then ((s.boot.nor.reel (3 - u.reel)).seq + 1) % 2 ^ 32 else 1) →
      (u.data.length < fld u.header 12 4 → Answers (.updateEnd r true) s k St.notReady 0 (fun _ => []) Unchanged) ∧
      (fld u.header 12 4 ≤ u.data.length → (digestOk u.header u.data = false ∨ headerSigned u.header = false) →
        Answers (.updateEnd r true) s k St.integrity 0 (fun _ => []) fun s t => t.boot = { s.boot with update := none } ∧ Keeps s t [.boot] []) ∧
      (digestOk u.header u.data = true → headerSigned u.header = true → fld u.header 6 1 < s.rf engTake TK.FUSED →
        Answers (.updateEnd r true) s k St.badParam 0 (fun _ => []) fun s t => t.boot = { s.boot with update := none } ∧ Keeps s t [.boot] []) ∧
      (digestOk u.header u.data = true → headerSigned u.header = true → s.rf engTake TK.FUSED ≤ fld u.header 6 1 →
        Answers (.updateEnd r true) s k St.ok 0 (fun _ => [byte u.reel, 0, 0, 0] ++ le 4 q) fun s t => t.boot.update = none ∧
          t.boot.nor.reel u.reel = { valid := true, seq := q, header := u.header, image := u.data, remap := u.remap } ∧
          t.boot.nor.reel (3 - u.reel) = s.boot.nor.reel (3 - u.reel) ∧ Keeps s t [.boot, .log] []))) ∧
  (∀ (r : Req) (k : Taken) (s : State),
    (Ready reelStatusCmd r k s → Answers (.reelStatus r) s k St.ok 0 (fun _ => [byte (s.rf engTake TK.REEL_LOADED), byte (s.rf engTake TK.FUSED),
      byte (bit s.boot.update.isSome), 0] ++ s.boot.nor.reelA.report ++ s.boot.nor.reelB.report) Unchanged) ∧
    (Ready spareInventoryCmd r k s → Answers (.spareInventory r) s k St.ok 0 (fun _ =>
      spareEntry 1 4 (s.serving ([64, 65, 66, 67].map engLane)) s.client.out.length ++ spareEntry 2 2 (s.serving [engCipher 8, engCipher 9]) s.cry.out.length ++
        spareEntry 3 512 s.cry.rows.length s.cry.retired.length ++ spareEntry 4 32 (s.boot.rowsUsed.get 4 0) 0 ++
        spareEntry 5 32 (s.boot.rowsUsed.get 5 0) 0 ++ spareEntry 6 (spareRows 6) (s.boot.rowsUsed.get 6 0) 0 ++ spareEntry 7 128 s.norUsed 0) Unchanged) ∧
    (∀ pass, Ready (unitRestoreCmd pass) r k s → kind r.eng = 0x40 →
      (s.cry.out.look (engNo r.eng) = none → Answers (.unitRestore r pass) s k St.noChange 0 (fun _ => []) Unchanged) ∧
      (∀ l, s.cry.out.look (engNo r.eng) = some l → pass = false → Answers (.unitRestore r pass) s k St.unitFailed 0 (fun _ => []) Unchanged) ∧
      (∀ l, s.cry.out.look (engNo r.eng) = some l → pass = true → 8 ≤ engNo r.eng → s.engState (engCipher l) ≠ 5 → r.eng = engCipher (engNo r.eng) →
        Answers (.unitRestore r pass) s k St.ok 0 (fun _ => []) fun s t => t.cry.out.look (engNo r.eng) = none ∧ t.engState r.eng = 6 ∧
          t.rf r.eng HDR.LUNIT = 0xFF ∧ Keeps s t [.cry, .log] [(r.eng, HDR.STATE), (r.eng, HDR.LUNIT)]) ∧
      (∀ l, s.cry.out.look (engNo r.eng) = some l → pass = true → engNo r.eng < 8 → s.engState (engCipher l) ≠ 5 →
        Answers (.unitRestore r pass) s k St.ok 0 (fun _ => []) fun s t =>
          t.cry = { s.cry with out := s.cry.out.del (engNo r.eng), pool := insertUp (engNo r.eng) s.cry.pool } ∧ Keeps s t [.cry, .log] []) ∧
      (∀ l, s.cry.out.look (engNo r.eng) = some l → pass = true → s.engState (engCipher l) = 5 → l < 8 →
        Answers (.unitRestore r pass) s k St.ok 0 (fun _ => []) fun s t => t.cry.out.look (engNo r.eng) = none ∧ t.engState (engCipher l) = 1 ∧
          t.punit (engCipher l) = engNo r.eng ∧ (t.ex (engCipher l)).selfTested = true ∧
          Cued s t 0x9004 ([2, 2, 0, 0] ++ le 4 (locOf (engCipher l)) ++ le 2 t.cipherSpares.length ++ [0, 0]))) ∧
    (∀ pass u, Ready (unitRestoreCmd pass) r k s → kind r.eng = 0x10 → u = laneOf r.eng →
      (s.client.out.look u = none → Answers (.unitRestore r pass) s k St.noChange 0 (fun _ => []) Unchanged) ∧
      (∀ l, s.client.out.look u = some l → pass = false → Answers (.unitRestore r pass) s k St.unitFailed 0 (fun _ => []) Unchanged) ∧
      (∀ l, s.client.out.look u = some l → pass = true → 64 ≤ u → s.engState (engLane l) ≠ 5 → r.eng = engLane u →
        Answers (.unitRestore r pass) s k St.ok 0 (fun _ => []) fun s t => t.client.out.look u = none ∧ t.engState r.eng = 6 ∧
          t.rf r.eng HDR.LUNIT = 0xFF ∧ Keeps s t [.client, .log] [(r.eng, HDR.STATE), (r.eng, HDR.LUNIT)]) ∧
      (∀ l, s.client.out.look u = some l → pass = true → u < 64 → s.engState (engLane l) ≠ 5 →
        Answers (.unitRestore r pass) s k St.ok 0 (fun _ => []) fun s t =>
          t.client = { s.client with out := s.client.out.del u, pool := insertUp u s.client.pool } ∧ Keeps s t [.client, .log] []) ∧
      (∀ l, s.client.out.look u = some l → pass = true → s.engState (engLane l) = 5 → l < 64 →
        Answers (.unitRestore r pass) s k St.ok 0 (fun _ => []) fun s t => t.client.out.look u = none ∧ t.engState (engLane l) = 1 ∧
          t.punit (engLane l) = engNo (engLane u) ∧
          Cued s t 0x9004 ([1, 2, 0, 0] ++ le 4 (locOf (engLane l)) ++ le 2 (t.laneSpares l).length ++ [0, 0]))))

/-- The log's records, the sensor warnings, sensors and buses, the rows of the log, and updates and spares: the five parts above, each by the rules it
names. -/
def Obligations.ManagementKeepsThePart : Prop := LogRules ∧ WarnRules ∧ SensorAndBusRules ∧ LogRowRules ∧ UpdateAndSpareRules

/-! ### The command channel (R44 to R82, R494) -/

/-- R45, R49 orders 2 to 4, R80: what becomes of a packet's tag before its command is judged; a command that was to be staged dooms its transaction. -/
def TagRules : Prop :=
  (∀ (s : State) (k : Carrier) (src : BitVec 48) (b : List Byte) (r : Req) (t : Taken), r = reqOf k src b →
    t = { op := pktOp b, req := r, auth := none, role := .user } → s.on engCmd VS.READY = true →
    (∀ c, takeCmd (pktOp b) = some c → c.op = pktOp b ∧ ∀ st u, c.refused st u = u) →
    (k.tagLimit ≤ (s.tagsOut k).length → s.takePacket k src b = (s.ordered.doomIf t St.busy 1).reply t s.chan.order St.busy 1 [] false) ∧
    ((s.tagsOut k).length < k.tagLimit →
      (r.tag = 0 → s.takePacket k src b = (s.ordered.doomIf t St.badParam 2).reply t s.chan.order St.badParam 2 [] false) ∧
      (r.tag ≠ 0 → r.tag.toNat ∈ s.tagsOut k →
        s.takePacket k src b = (s.ordered.doomIf t St.collision 0).reply t s.chan.order St.collision 0 [] false) ∧
      (∀ u : State, u = { s with chan := { s.chan with tags := s.chan.tags ++ [(k, r.tag.toNat)] } } → r.tag ≠ 0 → r.tag.toNat ∉ s.tagsOut k →
        (r.flags &&& 0xF0#8 ≠ 0 → s.takePacket k src b = (u.ordered.doomIf t St.badParam 2).reply t s.chan.order St.badParam 2 []) ∧
        (r.flags &&& 0xF0#8 = 0 → takeCmd (pktOp b) = none →
          s.takePacket k src b = (u.ordered.doomIf t St.badOpcode 0).reply t s.chan.order St.badOpcode 0 []) ∧
        (r.flags &&& 0xF0#8 = 0 → ∀ c, takeCmd (pktOp b) = some c → s.takePacket k src b = State.judge c r u)))) ∧
  ∀ (s : State) (t : Taken) (st d : Nat),
    (t.req.inTxn = false → s.doomIf t st d = s) ∧
    (∀ x, t.req.inTxn = true → s.txnOf t.req = some x → x.fail = none → s.doomIf t st d = s.withTxn t.req.txn.toNat
      { x with fail := some { locator := t.req.target.toNat, status := st, detail := d, index := x.staged.length } })

/-- R67, R71, R73, order 5 of R49: OFFICER needs an open session of the same carrier and a trailer that verifies under its key and the next SEQ; one that
verifies uses that SEQ up, one that does not closes the session after the reply. -/
def AuthRules : Prop :=
  ∀ (c : Cmd) (r : Req) (s : State) (t : Taken), t = { op := c.op, req := r, auth := none, role := .user } → r.officer = true → r.inTxn = false →
    (∀ st u, c.refused st u = u) →
    (s.chan.sessions.look r.session.toNat = none → State.judge c r s = s.ordered.reply t s.chan.order St.roleDenied 0 []) ∧
    (∀ x, s.chan.sessions.look r.session.toNat = some x →
      (x.carrier ≠ r.carrier → State.judge c r s = s.ordered.reply t s.chan.order St.roleDenied 0 []) ∧
      (∀ sig, sig = Config.hmac384 (be 48 x.key.toNat) (le 8 x.seq ++ r.header c.op ++ r.payload) → x.carrier = r.carrier →
        (sig ≠ r.trailer → c.op ≠ 0x21 →
          State.judge c r s = (s.ordered.reply t s.chan.order St.integrity 0 []).closeSession r.session.toNat 2) ∧
        (sig ≠ r.trailer → c.op = 0x21 → ∃ u : State, State.judge c r s = (u.reply t s.chan.order St.integrity 0 []).closeSession r.session.toNat 2 ∧
          (s.chan.authFails < 2 → u.chan.authFails = s.chan.authFails + 1 ∧ u.chan.lockout = s.chan.lockout) ∧
          (2 ≤ s.chan.authFails → u.chan.authFails = 0 ∧ u.chan.lockout = true)) ∧
        (sig = r.trailer → ∀ u : State, u = { s with chan := { s.chan with sessions := s.chan.sessions.put r.session.toNat { x with seq := x.seq + 1 } } } →
          ∀ y : Taken,
            y = { op := c.op, req := r, auth := some ⟨x.key, x.seq, r.session.toNat⟩, role := if !x.authed then .user else if x.maint then .maintenance else .officer } →
          (x.authed = true → x.zeroAuth = true → c.op ≠ 0x22 → c.op ≠ 0x23 → State.judge c r s = u.ordered.reply y s.chan.order St.roleDenied 0 []) ∧
          (x.zeroAuth = false → c.role ≠ .user → y.role ≠ c.role → State.judge c r s = u.ordered.reply y s.chan.order St.roleDenied 0 []) ∧
          (x.zeroAuth = false → c.role = .user ∨ y.role = c.role → c.len r.payload.length = true → c.fits r u = none → r.txn = 0 →
            c.target r u = none → c.params y.role r u = none → noCtx c.op = true →
            State.judge c r s = { u with chan := { u.chan with taken := u.chan.taken ++ [y] } }))))

/-- R49 orders 5 to 10, R77, R78, R81, R336: the first check that fails decides; a request that passes all is taken, with a context where it needs one, or
staged. -/
def JudgeRules : Prop :=
  ∀ (c : Cmd) (r : Req) (s : State) (t : Taken), t = { op := c.op, req := r, auth := none, role := .user } → r.officer = false →
    (∀ st u, c.refused st u = u) →
    (r.inTxn = false →
      (c.signed = true ∨ c.role ≠ .user → State.judge c r s = s.ordered.reply t s.chan.order St.roleDenied 0 []) ∧
      (c.signed = false → c.role = .user →
        (c.len r.payload.length = false → State.judge c r s = s.ordered.reply t s.chan.order St.badLength 0 []) ∧
        (∀ st d, c.len r.payload.length = true → c.fits r s = some (st, d) → State.judge c r s = s.ordered.reply t s.chan.order st d []) ∧
        (c.len r.payload.length = true → c.fits r s = none →
          (r.txn ≠ 0 → c.op ≠ 0x0111 → c.op ≠ 0x0112 → State.judge c r s = s.ordered.reply t s.chan.order St.badParam 2 []) ∧
          (r.txn = 0 →
            (∀ st d, c.target r s = some (st, d) → State.judge c r s = s.ordered.reply t s.chan.order st d []) ∧
            (c.target r s = none →
              (∀ st d, c.params .user r s = some (st, d) → State.judge c r s = s.ordered.reply t s.chan.order st d []) ∧
              (c.params .user r s = none → noCtx c.op = true →
                State.judge c r s = { s with chan := { s.chan with taken := s.chan.taken ++ [t] } }) ∧
              (∀ u : State, c.params .user r s = none → noCtx c.op = false → s.runJob (commandAsk c.op) = (none, u) →
                State.judge c r s = u.ordered.reply t u.chan.order St.busy 3 []) ∧
              (∀ n (u : State), c.params .user r s = none → noCtx c.op = false → s.runJob (commandAsk c.op) = (some n, u) →
                State.judge c r s = ({ u with chan := { u.chan with taken := u.chan.taken ++ [{ t with ctx := some n }] } }).closeStaging c.op r)))))) ∧
    (r.inTxn = true → c.signed = false → c.role = .user → c.len r.payload.length = true → c.fits r s = none → ∀ x, s.txnOf r = some x →
      (∀ f, x.fail = some f → State.judge c r s = s.ordered.reply t s.chan.order St.txnAborted 0 f.payload) ∧
      (x.fail = none →
        (c.stage = true → c.target r s = none → c.params .user r s = none →
          (x.staged.length < 1024 → ∀ y, y = { t with unit := s.stagedUnit c.op r } →
            State.judge c r s = (s.withTxn r.txn.toNat { x with staged := x.staged ++ [y] }).replyNow y St.ok) ∧
          (1024 ≤ x.staged.length → State.judge c r s = (s.ordered.doom r St.exhausted 0 0).reply t s.chan.order St.exhausted 0 [])) ∧
        (c.stage = false → State.judge c r s = (s.ordered.doom r St.badParam 2 0).reply t s.chan.order St.badParam 2 []) ∧
        (∀ st d, c.stage = true → st ≠ St.txnAborted → c.target r s = some (st, d) →
          State.judge c r s = (s.ordered.doom r st d (failOffset c.op r st d)).reply t s.chan.order st d [])))

/-- R55 to R62, R83, R494, rows COMMAND_FETCH, UART_FRAME_RX, CARRIER_FRAME_SENT, REPLY_RING_WRITE, MSIX_HOLDOFF_EXPIRY, CMD_TAIL_WRITE, RPL_HEAD_WRITE,
CMD_RING_ENABLE_WRITE, RPL_RING_ENABLE_WRITE, RPL_CUE_EN_WRITE. -/
def CarrierRules : Prop :=
  (∀ (bytes : List Byte) (err : Bool) (s : State),
    (s.works engCmd = false ∨ s.on engCmd VS.READY = false ∨ s.on engCmd VS.RPL_FULL = true ∨ 4096 ≤ (s.tagsOut (.ring 0)).length ∨ (∀ p < 4, s.ringReady p = false) →
      exec (.commandFetch bytes err) s = .next s) ∧
    (∀ p : Fin 4, s.works engCmd = true → s.on engCmd VS.READY = true → s.on engCmd VS.RPL_FULL = false → (s.tagsOut (.ring 0)).length < 4096 →
      s.ringReady p = true → (∀ q < 4, p.val < q → s.ringReady q = false) →
      (∀ c, c = s.haltCause p bytes err → c ≠ 0 → ∃ u : State, exec (.commandFetch bytes err) s =
          .next ((u.haltReply p bytes c).cue 0x1002 ([byte p, byte c, 0, 0] ++ le 4 (s.rf engCmd (VS.CMD_HEAD.idx p)))) ∧
        bitOf (u.rf engCmd VS.HALT) p = true ∧ u.rf engCmd (VS.HALT_CAUSE.idx p) = c ∧ u.rf engCmd (VS.CMD_HEAD.idx p) = s.rf engCmd (VS.CMD_HEAD.idx p) ∧
        Keeps s u [] [(engCmd, VS.HALT), (engCmd, VS.HALT_CAUSE.idx p), (engCmd, VS.HALT_AT.idx p)]) ∧
      (s.haltCause p bytes err = 0 → ∃ u : State, exec (.commandFetch bytes err) s = .next (u.takePacket (.ring p) 0 bytes) ∧
        u.rf engCmd (VS.CMD_HEAD.idx p) = (s.rf engCmd (VS.CMD_HEAD.idx p) + pad16 (pktSize bytes)) % s.cmdSize p % 2 ^ 32 ∧
        Keeps s u [] [(engCmd, VS.CMD_HEAD.idx p)]))) ∧
  (∀ (line bytes : List Byte) (s : State) (b : List Byte), bytes = uartUnescape line → b = bytes.take (bytes.length - 4) →
    (s.asleep 1 = true → (s.wake 1).asleep 1 = false → exec (.uartFrameRx line) s = exec (.uartFrameRx line) (s.wake 1)) ∧
    (s.asleep 1 = false → s.works engUart = false ∨ line = [] → exec (.uartFrameRx line) s = .next s) ∧
    (s.asleep 1 = false → s.works engUart = true →
      (line ≠ [] → (bytes.length < 20 ∨ le 4 (crc32 b).toNat ≠ bytes.drop (bytes.length - 4) ∨ orderOne b (bytes.length - 4) ≠ 0) →
        ∃ t, exec (.uartFrameRx line) s = .next t ∧ Counts s t engUart UART.UART_FRAME_ERR 1 ∧ Keeps s t [] [(engUart, UART.UART_FRAME_ERR)]) ∧
      (20 ≤ bytes.length → le 4 (crc32 b).toNat = bytes.drop (bytes.length - 4) → orderOne b (bytes.length - 4) = 0 →
        ∃ u : State, exec (.uartFrameRx line) s = .next (u.takePacket .uart 0 b) ∧ Counts s u engUart UART.UART_FRAMES 1 ∧
          Keeps s u [] [(engUart, UART.UART_FRAMES)]))) ∧
  (∀ b : List Byte, uartUnescape (uartEscape b) = b ∧ 0x7E#8 ∉ uartEscape b) ∧
  (∀ (s : State) (sent : List Byte → List Byte), sent = (fun b => [0x7E] ++ uartEscape (b ++ le 4 (crc32 b).toNat) ++ [0x7E]) →
    (s.chan.uartReplies = [] → s.chan.uartCues = [] → s.chan.lostUart = 0 → exec (.carrierFrameSent false) s = .next s) ∧
    (∀ p ps, s.chan.uartReplies = p :: ps → s.chan.uartCues = [] → s.chan.lostUart = 0 → p.holdsTag = true →
      ∃ u : State, exec (.carrierFrameSent false) s = .next ((u.endCtx p.ctx).letGo s) ∧ u.emitted = s.emitted ++ [.uart (sent p.bytes)] ∧
        u.chan.uartReplies = ps ∧ u.chan.tags = s.chan.tags.filter (fun x => !(x.1.sameSpace .uart && x.2 == p.tag)) ∧ Keeps s u [.emitted, .chan] [] ∧
        (p.ctx = none → p.holds = 0 → exec (.carrierFrameSent false) s = .next u)) ∧
    (∀ c cs, s.chan.uartReplies = [] → s.chan.uartCues = c :: cs → c.behind = none → s.chan.lostUart = 0 ∨ s.chan.dueUart = false →
      ∃ t, exec (.carrierFrameSent false) s = .next t ∧ t.emitted = s.emitted ++ [.uart (sent c.bytes)] ∧ t.chan.uartCues = cs ∧
        t.chan.dueUart = decide (0 < s.chan.lostUart) ∧ Keeps s t [.emitted, .chan] []) ∧
    (s.chan.uartReplies = [] → 0 < s.chan.lostUart → s.chan.dueUart = true →
      ∃ t, exec (.carrierFrameSent false) s = .next t ∧
        t.emitted = s.emitted ++ [.uart (sent (cueBytes 0x1001 s.chan.cueSeq s.short (le 2 s.chan.lostUart)))] ∧ t.chan.uartCues = s.chan.uartCues ∧
        t.chan.lostUart = 0 ∧ t.chan.dueUart = false ∧ Keeps s t [.emitted, .chan] [])) ∧
  (∀ s : State,
    (s.chan.bandReplies = [] → s.chan.bandCues = [] → s.chan.lostBand = 0 → exec (.carrierFrameSent true) s = .next s) ∧
    (∀ p ps f, s.chan.bandReplies = p :: ps → s.chan.bandCues = [] → s.chan.lostBand = 0 → p.holdsTag = true → p.ctx = none → p.holds = 0 →
      s.canSend s.mgmtLane = true → s.rf (engLane s.mgmtLane) LN.LOOP = 0 →
      f = be 6 p.dst.toNat ++ be 6 s.opt.mac.toNat ++ [0x88, 0xB5, 0x56, 0x55] ++ be 2 p.bytes.length ++ p.bytes →
      ∃ t, exec (.carrierFrameSent true) s = .next t ∧ t.emitted = s.emitted ++ [.mgmt (f ++ zeros (60 - f.length))] ∧
        t.chan.bandReplies = ps ∧ t.chan.tags = s.chan.tags.filter (fun x => !(x.1.sameSpace .inband && x.2 == p.tag)) ∧
        Keeps s t [.emitted, .chan, .client] [])) ∧
  (∀ s : State,
    (s.on engCmd VS.RPL_ENABLE = false → exec .replyRingWrite s = .next s) ∧
    (∀ p tail, s.on engCmd VS.RPL_ENABLE = true → s.chan.pcieReplies = [p] → s.chan.pcieCues = [] → s.chan.lostPcie = 0 → p.holdsTag = true → p.ctx = none → p.holds = 0 →
      tail = s.rf engCmd VS.RPL_TAIL → s.rf engCmd VS.WB_LO = 0 → s.rf engCmd VS.WB_HI = 0 → s.rf engCmd VS.HOLDOFF = 0 →
      (s.rplFits p.bytes.length = false → ∃ t, exec .replyRingWrite s = .next t ∧ t.on engCmd VS.RPL_FULL = true ∧ t.emitted = s.emitted ∧
        t.chan.pcieReplies = [p] ∧ Keeps s t [.chan] [(engCmd, VS.RPL_FULL)]) ∧
      (s.rplFits p.bytes.length = true → ∃ t, exec .replyRingWrite s = .next t ∧
        t.emitted = s.emitted ++ [.ring tail (p.bytes ++ zeros (pad16 p.bytes.length - p.bytes.length)), .msix p.vector] ∧ t.chan.pcieReplies = [] ∧
        t.rf engCmd VS.RPL_TAIL = (tail + pad16 p.bytes.length) % s.rplSize % 2 ^ 32 ∧
        t.chan.tags = s.chan.tags.filter (fun x => !(x.1.sameSpace (.ring 0) && x.2 == p.tag)) ∧
        Keeps s t [.emitted, .chan] [(engCmd, VS.RPL_TAIL), (engCmd, VS.RPL_FULL)])) ∧
    (∀ v : Fin 32, (v.val ∉ s.chan.msixTimer → exec (.msixHoldoffExpiry v) s = .next s) ∧
      (v.val ∈ s.chan.msixTimer → v.val ∉ s.chan.msixHeld → ∃ t, exec (.msixHoldoffExpiry v) s = .next t ∧ v.val ∉ t.chan.msixTimer ∧ t.emitted = s.emitted ∧
        Keeps s t [.chan] []) ∧
      (v.val ∈ s.chan.msixTimer → v.val ∈ s.chan.msixHeld → ∃ t, exec (.msixHoldoffExpiry v) s = .next t ∧ t.emitted = s.emitted ++ [.msix v] ∧
        v.val ∉ t.chan.msixHeld ∧ v.val ∈ t.chan.msixTimer ∧ Keeps s t [.chan, .emitted] [])) ∧
    (∀ (p : Fin 4) (v : Word), ∃ t, exec (.cmdTailWrite p v) s = .next t ∧ t.rf engCmd (VS.CMD_TAIL.idx p) = v.toNat ∧
      Keeps s t [] [(engCmd, VS.CMD_TAIL.idx p)]) ∧
    (∀ v : Word, ∃ t, exec (.rplHeadWrite v) s = .next t ∧ t.rf engCmd VS.RPL_HEAD = v.toNat ∧
      (s.chan.pcieReplies = [] → s.chan.pcieCues = [] → s.chan.lostPcie = 0 → t.on engCmd VS.RPL_FULL = false) ∧
      Keeps s t [] [(engCmd, VS.RPL_HEAD), (engCmd, VS.RPL_FULL)]) ∧
    (∀ p : Fin 4, (s.on engCmd VS.RPL_ENABLE = false → exec (.cmdRingEnableWrite p true) s = .next s) ∧
      (s.on engCmd VS.RPL_ENABLE = true → s.on engCmd (VS.CMD_ENABLE.idx p) = false → ∃ t, exec (.cmdRingEnableWrite p true) s = .next t ∧
        t.on engCmd (VS.CMD_ENABLE.idx p) = true ∧ t.rf engCmd (VS.CMD_HEAD.idx p) = 0 ∧ t.rf engCmd (VS.CMD_TAIL.idx p) = 0 ∧
        t.rf engCmd (VS.HALT_CAUSE.idx p) = 0 ∧ bitOf (t.rf engCmd VS.HALT) p = false ∧
        Keeps s t [] [(engCmd, VS.CMD_ENABLE.idx p), (engCmd, VS.CMD_HEAD.idx p), (engCmd, VS.CMD_TAIL.idx p), (engCmd, VS.HALT_CAUSE.idx p), (engCmd, VS.HALT)]) ∧
      (∃ t, exec (.cmdRingEnableWrite p false) s = .next t ∧ t.on engCmd (VS.CMD_ENABLE.idx p) = false ∧ Keeps s t [] [(engCmd, VS.CMD_ENABLE.idx p)])) ∧
    (s.on engCmd VS.RPL_ENABLE = false → ∃ t, exec (.rplRingEnableWrite true) s = .next t ∧ t.on engCmd VS.RPL_ENABLE = true ∧
      t.rf engCmd VS.RPL_TAIL = 0 ∧ t.rf engCmd VS.RPL_HEAD = 0 ∧ Keeps s t [.chan] [(engCmd, VS.RPL_ENABLE), (engCmd, VS.RPL_TAIL), (engCmd, VS.RPL_HEAD)]) ∧
    (∃ t, exec (.rplRingEnableWrite false) s = .next t ∧ t.on engCmd VS.RPL_ENABLE = false ∧ t.on engCmd VS.RPL_FULL = false ∧
      (∀ p < 4, t.on engCmd (VS.CMD_ENABLE.idx p) = false) ∧
      Keeps s t [.chan] ((engCmd, VS.RPL_ENABLE) :: (engCmd, VS.RPL_FULL) :: (List.range 4).map fun p => (engCmd, VS.CMD_ENABLE.idx p))) ∧
    (∀ on : Bool, ∃ t, exec (.rplCueEnWrite on) s = .next t ∧ t.on engCmd VS.CUE_EN = on ∧ t.chan.pcieCues = s.chan.pcieCues ∧
      Keeps s t [.chan] [(engCmd, VS.CUE_EN)]))

/-- R66 to R74, rows IDENTIFY, ECHO, CUE_ROUTE, SESSION_OPEN, SESSION_AUTH, SESSION_CLOSE, ROLE_AUTH_SET, SESSION_IDLE_TIMEOUT, SESSION_AUTH_TIMEOUT,
AUTH_LOCKOUT_END. A session's number, its nonce and its key are free values. -/
def SessionRules : Prop :=
  (∀ (r : Req) (k : Taken) (s : State),
    (Ready identifyCmd r k s → Answers (.identify r) s k St.ok 0 (fun _ => le 4 0x4864 ++ [0xB0, if Config.gradeI then 0x49 else 0x43,
      byte (s.rf engCmd VS.RECOVERY), byte s.reelB] ++ le 4 (s.rf engProc FW.FW_VERSION) ++ [1] ++ zeros 3 ++ le 8 Config.uniqueId.toNat ++
      le 4 (s.rf engTake TK.OPT_SEQ)) Unchanged) ∧
    (Ready echoCmd r k s → Answers (.echo r) s k St.ok 0 (fun _ => r.payload) Unchanged) ∧
    (Ready cueRouteCmd r k s → ∀ u b, u = bitOf (fld r.payload 0 4) 0 → b = bitOf (fld r.payload 0 4) 1 →
      (s.chan.routeUart = u → s.chan.routeBand = b → Answers (.cueRoute r) s k St.noChange 0 (fun _ => []) Unchanged) ∧
      (s.chan.routeUart ≠ u ∨ s.chan.routeBand ≠ b → Answers (.cueRoute r) s k St.ok 0 (fun _ => []) fun s t =>
        t.chan = { s.chan with routeUart := u, routeBand := b } ∧ Keeps s t [.chan] [])) ∧
    (∀ pct rel, Ready (sessionOpenCmd pct (.within rel)) r k s →
      (s.chan.lockout = true → Answers (.sessionOpen r pct rel) s k St.roleDenied 0 (fun _ => []) Unchanged) ∧
      (s.chan.lockout = false → fld r.payload 0 1 = 2 → s.chan.maintA = none →
        Answers (.sessionOpen r pct rel) s k St.roleDenied 0 (fun _ => []) Unchanged) ∧
      (sessionOpenChecks r s = none → s.rf engDrbg RNG.STATE = 1 → Waits (.sessionOpen r pct rel) s k (.rng 80 [] false) Unchanged) ∧
      (sessionOpenChecks r s = none → s.rf engDrbg RNG.STATE = 2 → s.rngLoad + 80 ≤ 4096 → s.cry.rng.requests < 65536 →
        (rel = false → Waits (.sessionOpen r pct rel) s k (.rng 80 (s.drawBytes 80).1 false) fun s t =>
          t.cry = { s.cry with rng := { s.cry.rng with requests := s.cry.rng.requests + 1 } } ∧ Keeps s t [.cry, .freeCtr] []) ∧
        (rel = true → pct = false → Answers (.sessionOpen r pct rel) s k St.unitFailed 0 (fun _ => []) fun s t =>
          t.on engKeys KS.CRYPTO_ERR = true ∧ t.rf engKeys KS.FAILED_TEST = 8 ∧ t.chan.sessions = s.chan.sessions) ∧
        (rel = true → pct = true → ∃ pl x, Answers (.sessionOpen r pct rel) s k St.ok 0 (fun _ => pl) fun s t =>
          pl.length = 136 ∧ fld pl 0 2 ≠ 0 ∧ s.chan.sessions.look (fld pl 0 2) = none ∧ t.chan.sessions.look (fld pl 0 2) = some x ∧
          x.carrier = r.carrier ∧ x.maint = decide (fld r.payload 0 1 = 2) ∧ x.authed = false ∧ x.seq = 0 ∧ Counts s t engDrbg RNG.BYTES_OUT 80 ∧
          (∀ n, n ≠ fld pl 0 2 → t.chan.sessions.look n = s.chan.sessions.look n) ∧ Keeps s t [.chan, .freeCtr, .cry] [(engDrbg, RNG.BYTES_OUT)]))) ∧
    (sessionCloseCmd.signed = true ∧ ∀ v, (sessionAuthCmd v).signed = true) ∧
    (∀ x a, Ready (sessionAuthCmd true) r k s → s.chan.sessions.look r.session.toNat = some x → x.authed = false →
      a = (if x.maint then s.chan.maintA else match s.chan.officerA with
          | some a => some a
          | none => if r.carrier = .uart then some 0 else none) →
      (∀ a', a = some a' → r.payload = be 48 (Config.hmac384 (be 48 a'.toNat) (be 48 x.transcript.toNat)).toNat → x.maint = false →
        Answers (.sessionAuth r true) s k St.ok 0 (fun _ => [1, 0, 0, 0]) fun s t =>
          t.chan.sessions.look r.session.toNat = some { x with authed := true, zeroAuth := s.chan.officerA.isNone } ∧ t.chan.authFails = 0 ∧ Keeps s t [.chan] []) ∧
      (a = none ∨ (∃ a', a = some a' ∧ r.payload ≠ be 48 (Config.hmac384 (be 48 a'.toNat) (be 48 x.transcript.toNat)).toNat) →
        Answers (.sessionAuth r true) s k St.integrity 0 (fun _ => []) fun s t => t.chan.sessions.look r.session.toNat = none ∧
        (s.chan.authFails < 2 → t.chan.authFails = s.chan.authFails + 1 ∧ t.chan.lockout = s.chan.lockout) ∧
        (2 ≤ s.chan.authFails → t.chan.lockout = true))) ∧
    (Ready sessionCloseCmd r k s →
      (s.chan.sessions.has r.session.toNat = false → Answers (.sessionClose r) s k St.roleDenied 0 (fun _ => []) Unchanged) ∧
      (s.chan.sessions.has r.session.toNat = true → Answers (.sessionClose r) s k St.ok 0 (fun _ => []) fun s t =>
        t.chan.sessions.look r.session.toNat = none ∧ (s.boot.update = none → Keeps s t [.chan] []))) ∧
    (∀ x, Ready roleAuthSetCmd r k s → s.chan.sessions.look r.session.toNat = some x →
      (s.borrow = none → Waits (.roleAuthSet r) s k (.engineRun 0x0023) Unchanged) ∧
      (∀ u, s.borrow = some u → Config.kwUnwrap (wrapKey x.key) (part r.payload 4 56) = none →
        Answers (.roleAuthSet r) s k St.integrity 0 (fun _ => []) fun s t =>
          Counts s t engWrap KW.KW_FAILS 1 ∧ Counts s t (engCipher u) CX.CX_MSGS 1 ∧ Keeps s t [.cry] [(engWrap, KW.KW_FAILS), (engCipher u, CX.CX_MSGS)]) ∧
      (∀ u a, s.borrow = some u → Config.kwUnwrap (wrapKey x.key) (part r.payload 4 56) = some a →
        Answers (.roleAuthSet r) s k St.ok 0 (fun _ => []) fun s t =>
          (fld r.payload 0 1 = 1 → t.chan.officerA = some (BitVec.ofNat 384 a) ∧ t.chan.maintA = s.chan.maintA) ∧
          (fld r.payload 0 1 ≠ 1 → t.chan.maintA = some (BitVec.ofNat 384 a) ∧ t.chan.officerA = s.chan.officerA) ∧
          Counts s t engWrap KW.KW_UNWRAPS 1 ∧ Counts s t (engCipher u) CX.CX_MSGS 1 ∧
          Keeps s t [.chan, .cry] [(engWrap, KW.KW_UNWRAPS), (engCipher u, CX.CX_MSGS)]))) ∧
  (∀ (id : BitVec 16) (s : State),
    (s.chan.sessions.look id.toNat = none → exec (.sessionIdleTimeout id) s = .next s ∧ exec (.sessionAuthTimeout id) s = .next s) ∧
    (∀ x, s.chan.sessions.look id.toNat = some x → s.boot.update = none →
      (x.authed = true → exec (.sessionAuthTimeout id) s = .next s ∧ ∃ t, exec (.sessionIdleTimeout id) s = .next t ∧
        t.chan.sessions.look id.toNat = none ∧ Cued s t 0x1003 (le 2 id.toNat ++ [1, 0]) ∧ Keeps s t [.chan] [cueFld]) ∧
      (x.authed = false → exec (.sessionIdleTimeout id) s = .next s ∧ ∃ t, exec (.sessionAuthTimeout id) s = .next t ∧
        t.chan = { s.chan with sessions := s.chan.sessions.del id.toNat } ∧ Keeps s t [.chan] [])) ∧
    (∃ t, exec .authLockoutEnd s = .next t ∧ t.chan = { s.chan with lockout := false } ∧ Keeps s t [.chan] []))

/-- The registers in which the end of a job of any pool shows. -/
def anyJobFlds : List (Nat × Fld) := jobFlds ++ [(engDisp, DP.CIRC_USED), (engDisp, DP.CIRC_HWM), (engDisp, DP.P_USED), (engDisp, DP.P_HWM)]

/-- R75 to R82, rows OBJ_READ, OBJ_WRITE, OBJ_MODIFY, TXN_BEGIN, TXN_COMMIT, TXN_ABORT, TXN_EXPIRY, for blocks, for one word of an
engine whose words have no effect beyond their fields, and for a commit by what its plan comes to. -/
def ObjectAndTxnRules : Prop :=
  (∀ (r : Req) (k : Taken) (s : State) (e o : Nat), e = r.eng → o = locOff r.target.toNat →
    (Ready objReadCmd r k s → s.unreleased e = true → Answers (.objRead r) s k St.notReady 0 (fun _ => []) Unchanged) ∧
    (Ready objReadCmd r k s → s.unreleased e = false → ∀ x : List Byte × State, x = (s.starting k).readBlock e o (fld r.payload 0 2) →
      Answers (.objRead r) s k St.ok 0 (fun _ => x.1) fun _ t => t = x.2) ∧
    (∀ n, s.readBlock e o 0 = ([], s) ∧ (present e = true → isSpareWin e = false →
      s.readBlock e o (n + 1) = (le 4 (s.peek e o) ++ ((s.readWord e o).2.readBlock e (o + 4) n).1, ((s.readWord e o).2.readBlock e (o + 4) n).2))) ∧
    (Ready objReadCmd r k s → present e = false → fld r.payload 0 2 = 1 → Answers (.objRead r) s k St.ok 0 (fun _ => zeros 4) Unchanged) ∧
    (Ready objReadCmd r k s → fld r.payload 0 2 = 1 → s.on engCmd VS.RECOVERY = false → present e = true → isSpareWin e = false → kind e ∉ [0x02, 0x11, 0x40, 0x60, 0x83] →
      Answers (.objRead r) s k St.ok 0 (fun _ => le 4 ((s.starting k).peek e o)) fun s t =>
        Keeps s t [] (((wordFlds e o).filter fun f => f.acc = .rc).map fun f => (e, f)) ∧ ∀ f ∈ wordFlds e o, f.acc = .rc → t.rf e f = f.resetAt e) ∧
    (∀ ws, Ready objWriteCmd r k s → ws = objWords r →
      (∀ st d, s.blockChecks e ws = some (st, d) → Answers (.objWrite r) s k st d (fun _ => []) Unchanged) ∧
      (s.blockChecks e ws = none →
        (ws.ctrl = none → Answers (.objWrite r) s k St.ok 0 (fun _ => []) fun s t => t = ws.foldl (fun s w => s.writeWord e w.1 w.2) s) ∧
        (∀ v, ws.ctrl = some v → bitOf v 0 = true → Waits (.objWrite r) s k (.rest e false) fun s t => t = s.softReset e))) ∧
    (0x100 ≤ o → plainWord s e o = true →
      (Ready objWriteCmd r k s → r.payload.length = 4 →
        (s.engState e = 5 ∨ s.engState e = 4 → Answers (.objWrite r) s k St.unitFailed 0 (fun _ => []) Unchanged) ∧
        (s.engState e = 1 ∨ s.engState e = 3 → Answers (.objWrite r) s k St.busy 2 (fun _ => []) Unchanged) ∧
        (s.engState e = 0 ∨ s.engState e = 2 → Answers (.objWrite r) s k St.ok 0 (fun _ => []) fun s t => WordWritten s t e o (fld r.payload 0 4) ∧
          Keeps s t [] ((wordFlds e o).map fun f => (e, f)))) ∧
      (∀ old new : Nat, Ready objModifyCmd r k s → wordOnes e o = 0 → old = (s.starting k).peek e o → (s.engState e = 0 ∨ s.engState e = 2) →
        new = modified 0 old (fld r.payload 0 4) (fld r.payload 4 4) →
        (∀ i < 32, new.testBit i = if (fld r.payload 0 4).testBit i then (fld r.payload 4 4).testBit i else old.testBit i) ∧
        Answers (.objModify r) s k St.ok 0 (fun _ => le 4 old ++ le 4 new) fun s t => WordWritten s t e o new ∧
          Keeps s t [] ((wordFlds e o).map fun f => (e, f))))) ∧
  (∀ (r : Req) (k : Taken) (s : State),
    (Ready txnBeginCmd r k s →
      (256 ≤ s.chan.txns.length → Answers (.txnBegin r) s k St.exhausted 0 (fun _ => []) Unchanged) ∧
      (s.chan.txns.length < 256 → ∃ n, n ≠ 0 ∧ n < 65536 ∧ s.chan.txns.look n = none ∧ Answers (.txnBegin r) s k St.ok 0 (fun _ => le 2 n ++ [0, 0]) fun s t =>
        t.chan.txns.look n = some { carrier := r.carrier } ∧ (∀ m, m ≠ n → t.chan.txns.look m = s.chan.txns.look m) ∧ Keeps s t [.chan] [])) ∧
    (Ready txnAbortCmd r k s → Answers (.txnAbort r) s k St.ok 0 (fun _ => []) fun s t =>
      t.chan = { s.chan with txns := s.chan.txns.del r.txn.toNat } ∧ Keeps s t [.chan] []) ∧
    (Ready txnCommitCmd r k s →
      (s.chan.committing.isSome = true → Waits (.txnCommit r) s k .commitTurn Unchanged) ∧
      (∀ x n, n = r.txn.toNat → s.chan.committing = none → s.chan.txns.look n = some x →
        (∀ f, x.fail = some f → Answers (.txnCommit r) s k St.txnAborted 0 (fun _ => f.payload) (fun w u =>
          u.chan.txns = w.chan.txns.del n ∧ u.chan.committing = none ∧ Keeps w u [.chan, .disp] anyJobFlds ∧ (x.job = none → Keeps w u [.chan] [])) 0
          State.afterCommit) ∧
        (∀ v, x.fail = none → x.updates = true → x.job = none → (s.starting k).runJob tableAsk = (none, v) →
          Answers (.txnCommit r) s k St.busy 3 (fun _ => []) (fun _ u => u.chan = { v.chan with txns := v.chan.txns.put n { x with closing := false } } ∧
            Keeps v u [.chan] []) 0 State.afterCommit) ∧
        (x.fail = none → x.updates = false ∨ x.job.isSome = true → (s.starting k).txnJob n x = (true, x, s.starting k)) ∧
        (∀ c v, x.fail = none → x.updates = true → x.job = none → (s.starting k).runJob tableAsk = (some c, v) →
          (s.starting k).txnJob n x = (true, { x with job := some c }, { v with chan := { v.chan with txns := v.chan.txns.put n { x with job := some c } } })) ∧
        (∀ (y : Txn) (w : State), x.fail = none → (s.starting k).txnJob n x = (true, y, w) →
          (y.ofUnit 10 ≠ [] → w.tdm.splice.isSome = true → Waits (.txnCommit r) s k (.unit engTsi) (fun _ u =>
            u.chan.committing = some y.mask ∧ Keeps w u [.chan] []) State.afterCommit) ∧
          (∀ prep : PlanEnd, prep = runPlan y .later { y with inOrder := true }.plan w [] → y.ofUnit 10 = [] ∨ w.tdm.splice = none →
            (∀ i t st d own v, prep = .stopped i t st d own v →
              Answers (.txnCommit r) s k St.txnAborted 0 (fun _ => (stopFail i t st d w).payload) (fun _ u =>
                u.chan.txns = w.chan.txns.del n ∧ u.rf (engTable 1) FT.FT_EXHAUSTED = v.rf (engTable 1) FT.FT_EXHAUSTED ∧
                Keeps w u [.chan, .cls, .disp] ((engTable 1, FT.FT_EXHAUSTED) :: (engKeys, KS.KS_FULL_CNT) :: anyJobFlds)) y.mask State.afterCommit) ∧
            (∀ i why, prep = .waits i why →
              ((∀ n out b, why ≠ .rng n out b) → Waits (.txnCommit r) s k why (fun _ u => u.chan.committing = some y.mask ∧
                u.chan.txns.look n = some { y with waitAt := i } ∧ Keeps w u [.chan] []) State.afterCommit) ∧
              (∀ m o b, why = .rng m o b →
                (w.generate y.rngBytes = none → Waits (.txnCommit r) s k (.rng y.rngBytes [] false) (fun _ u => u.chan.committing = some y.mask ∧
                  Keeps w u [.chan] []) State.afterCommit) ∧
                (∀ out v, w.generate y.rngBytes = some (out, v) → Waits (.txnCommit r) s k (.rng y.rngBytes out false) (fun _ u =>
                  u.chan.committing = some y.mask ∧ Keeps v u [.chan] []) State.afterCommit))) ∧
            (∀ v0 c0 v, prep = .done v0 c0 →
              ((∃ cues, runPlan y .later y.plan w [] = .done v cues) ∨ (∀ v1 cues, runPlan y .later y.plan w [] ≠ .done v1 cues) ∧ v = v0) →
              (y.ofUnit 10 = [] → Answers (.txnCommit r) s k St.ok 0 (fun _ => le 2 y.staged.length ++ [0, 0]) (fun _ u =>
                u.chan.txns = v.chan.txns.del n ∧ u.chan.committing = none ∧ Keeps v u [.chan, .disp] anyJobFlds) y.mask State.afterCommit) ∧
              (y.ofUnit 10 ≠ [] → Waits (.txnCommit r) s k (.commitSplice n) (fun _ u =>
                u.chan.committing = some y.mask ∧ u.tdm.splice = some (.txn n) ∧ u.on engTsi TSI.PENDING = true) State.afterCommit)))))) ∧
    (∀ x : Txn, x.plan = ((unitOrder.takeWhile (· ≠ 10)).flatMap fun u => x.forward u) ++ ((unitOrder.dropWhile (· ≠ 10)).flatMap fun u => x.forward u) ++
      unitOrder.reverse.flatMap fun u => (x.last u).map fun y => .staged y.1 y.2)) ∧
  (∀ (n : BitVec 16) (s : State),
    (s.chan.txns.look n.toNat = none → exec (.txnExpiry n) s = .next s) ∧
    (∀ x, s.chan.txns.look n.toNat = some x → (x.closing = true → exec (.txnExpiry n) s = .next s) ∧
      (x.closing = false → ∃ t, exec (.txnExpiry n) s = .next t ∧ t.chan.txns = s.chan.txns.del n.toNat ∧
        Cued s t 0x1004 (le 2 n.toNat ++ le 2 x.staged.length) ∧ Keeps s t [.chan] [cueFld])))

/-- Tags, sessions' part in the checks, the checks of a request, the carriers, sessions, and object access with transactions: the six parts above, each by the rules it names. -/
def Obligations.CommandChannelCarriesCommands : Prop := TagRules ∧ AuthRules ∧ JudgeRules ∧ CarrierRules ∧ SessionRules ∧ ObjectAndTxnRules

/-! ### What every command keeps -/

/-- R426 to R428: no command but a boot changes the option data in force, none but a boot (which reads the NOR that is fitted at power-on) and
OPTION_WRITE changes an option copy, and none changes the queue of commands. -/
def Obligations.OnlyBootsChangeOptionData : Prop :=
  ∀ (i : Instr) (s t : State), exec i s = .next t →
    t.pending = s.pending ∧
    ((∀ b, i ≠ .boot b) → t.opt = s.opt ∧
      ((∀ r readOk, i ≠ .optionWrite r readOk) → t.boot.nor.optA = s.boot.nor.optA ∧ t.boot.nor.optB = s.boot.nor.optB))

/-- Every step, a tick of the clock among them, keeps the option data in force within the ranges of R426. -/
def Obligations.EveryStepKeepsSafety : Prop :=
  ∀ s t : State, s.Safe → step s = .next t → t.Safe

/-- The part is safe right after power-on reset. -/
def Obligations.ResetIsSafe : Prop := State.reset.Safe
end

