-- ==== Sys2Proof/Laws/Base.lean ====
section
/-! SUPPORT. Laws of what the operations shared by all rows leave: the queue of commands, the option data in force, the option copies. -/

namespace Sys2Proof.Machine

/-- What hardly any command touches: the queue of commands, the option data in force, and the option copies. -/
def State.base (s : State) : List Instr × OptBlock × List Byte × List Byte := (s.pending, s.opt, s.boot.nor.optA, s.boot.nor.optB)

@[simp] theorem State.base_mk (a b c d e f g h i j k l m n o p q r u) :
    (State.mk a b c d e f g h i j k l m n o p q r u).base = (a, k, l.nor.optA, l.nor.optB) := (rfl)

@[simp] theorem State.base_eta (s : State) : (s.pending, s.opt, s.boot.nor.optA, s.boot.nor.optB) = s.base := (rfl)

@[simp] theorem State.base_ite (c : Prop) [Decidable c] (a b : State) : (if c then a else b).base = if c then a.base else b.base := by split <;> rfl

@[simp] theorem foldl_base {α : Type} {f : State → α → State} (h : ∀ s a, (f s a).base = s.base) (xs : List α) (s : State) :
    (xs.foldl f s).base = s.base := by
  induction xs generalizing s with
  | nil => rfl
  | cons x xs ih => rw [List.foldl_cons, ih, h]

@[simp] theorem Nor.setReel_optA (n : Nor) (r : Nat) (x : Reel) : (n.setReel r x).optA = n.optA := by unfold Nor.setReel; split <;> rfl

@[simp] theorem Nor.setReel_optB (n : Nor) (r : Nat) (x : Reel) : (n.setReel r x).optB = n.optB := by unfold Nor.setReel; split <;> rfl

theorem of_snd {α : Type} {x : α × State} {a : α} {t s : State} (h : x = (a, t)) (k : x.2.base = s.base) : t.base = s.base := by
  rw [h] at k; exact k

theorem of_fst {α : Type} {x : State × α} {a : α} {t s : State} (h : x = (t, a)) (k : x.1.base = s.base) : t.base = s.base := by
  rw [h] at k; exact k

/-- A command that leaves `base`, done or refused. -/
structure Cmd.Tame (c : Cmd) : Prop where
  refused : ∀ st s, (c.refused st s).base = s.base
  act : ∀ role r s, (c.act role r s).st.base = s.base

/-! ### Ops.lean -/

@[simp] theorem State.wf_base (s : State) (e : Nat) (f : Fld) (v : Nat) : (State.wf s e f v).base = s.base := by simp [State.wf]

@[simp] theorem State.clearFld_base (s : State) (e : Nat) (f : Fld) : (State.clearFld s e f).base = s.base := by simp [State.clearFld]

@[simp] theorem State.bumpN_base (s : State) (e : Nat) (f : Fld) (n : Nat) : (State.bumpN s e f n).base = s.base := by simp [State.bumpN]

@[simp] theorem State.bump_base (s : State) (e : Nat) (f : Fld) : (State.bump s e f).base = s.base := by simp [State.bump]

@[simp] theorem State.raiseTo_base (s : State) (e : Nat) (f : Fld) (v : Nat) : (State.raiseTo s e f v).base = s.base := by simp [State.raiseTo]

@[simp] theorem State.resetFlds_base (s : State) (e : Nat) (keep : Fld → Bool) : (State.resetFlds s e keep).base = s.base := by simp [State.resetFlds]

@[simp] theorem State.modEx_base (s : State) (e : Nat) (f : EngX → EngX) : (State.modEx s e f).base = s.base := by simp [State.modEx]

@[simp] theorem State.draw_base (s : State) (n : Nat) : (State.draw s n).2.base = s.base := by simp [State.draw]

@[simp] theorem State.drawBytes_base (s : State) (n : Nat) : (s.drawBytes n).2.base = s.base := by
  induction n generalizing s with
  | zero => rfl
  | succ n ih => simp [State.drawBytes, ih]

@[simp] theorem State.emit_base (s : State) (x : Emit) : (State.emit s x).base = s.base := by simp [State.emit]

@[simp] theorem State.raiseCue_base (s : State) (code : Nat) (payload : List Byte) :
    (State.raiseCue s code payload).base = s.base := by simp [State.raiseCue]

@[simp] theorem State.cue_base (s : State) (code : Nat) (payload : List Byte) :
    (State.cue s code payload).base = s.base := by unfold State.cue; split <;> simp

@[simp] theorem State.logAt_base (s : State) (event domain locator : Nat) (data : List Byte) :
    (State.logAt s event domain locator data).base = s.base := by unfold State.logAt; split <;> simp

@[simp] theorem State.logEng_base (s : State) (event e : Nat) (data : List Byte) :
    (State.logEng s event e data).base = s.base := by simp [State.logEng]

@[simp] theorem State.logPart_base (s : State) (event : Nat) (data : List Byte) :
    (State.logPart s event data).base = s.base := by simp [State.logPart]

@[simp] theorem State.modLane_base (s : State) (l : Nat) (f : LaneSt → LaneSt) : (State.modLane s l f).base = s.base := by simp [State.modLane]

@[simp] theorem State.modMac_base (s : State) (l : Nat) (f : MacSt → MacSt) : (State.modMac s l f).base = s.base := by simp [State.modMac]

/-! ### Jobs.lean -/

theorem State.allocPages_base {s : State} {red : Bool} {bs : List Byte} {x : List Nat × State} (h : s.allocPages red bs = some x) :
    x.2.base = s.base := by
  unfold State.allocPages at h
  obtain ⟨y, -, rfl⟩ := Option.map_eq_some_iff.mp h
  rfl

@[simp] theorem State.freePages_base (s : State) (ps : List Nat) : (State.freePages s ps).base = s.base := by simp [State.freePages]

@[simp] theorem State.wipePages_base (s : State) (ps : List Nat) : (State.wipePages s ps).base = s.base := by simp [State.wipePages]

@[simp] theorem State.poolNote_base (s : State) (p : Nat) : (State.poolNote s p).base = s.base := by simp [State.poolNote]

@[simp] theorem State.poolDry_base (s : State) (p : Nat) : (State.poolDry s p).base = s.base := by simp [State.poolDry]

@[simp] theorem State.poolWet_base (s : State) (p : Nat) : (State.poolWet s p).base = s.base := by simp [State.poolWet]

@[simp] theorem State.putJobState_base (s : State) (ctx : Nat) (x : JobState) : (State.putJobState s ctx x).base = s.base := by simp [State.putJobState]

@[simp] theorem State.arm_base (s : State) (ctx : Nat) : (State.arm s ctx).base = s.base := by simp [State.arm]

@[simp] theorem State.dropCtx_base (s : State) (ctx : Nat) : (State.dropCtx s ctx).base = s.base := by unfold State.dropCtx; split <;> simp

@[simp] theorem State.tell_base (s : State) (ok : Bool) (w : Nat) : (State.tell s ok w).base = s.base := by unfold State.tell; split <;> simp

@[simp] theorem State.endJob_base (s : State) (ctx : Nat) (ok : Bool) :
    (State.endJob s ctx ok).base = s.base := by unfold State.endJob; split <;> simp

@[simp] theorem State.takeSlot_base (s : State) (cls : JobClass) (j : Nat → Job) : (State.takeSlot s cls j).2.base = s.base := by
  unfold State.takeSlot
  try dsimp only
  first
    | (simp; done)
    | (repeat' (first | (simp; done) | (refine (State.rngGate_base _ _ _ _ _ fun _ _ => ?_).trans ?_) | (refine (issueTable_base _ _ fun _ => ?_).trans ?_) | split | (refine (foldl_base (fun _ _ => ?_) _ _).trans ?_) | (refine of_snd ‹_ = (_, _)› ?_) | (refine of_fst ‹_ = (_, _)› ?_) | (simp only [*]; done) | (refine of_snd ‹_ = _› ?_) | (refine of_fst ‹_ = _› ?_) | (simp_all; done) | simp))

@[simp] theorem State.linkTo_base (s : State) (c : Nat) (deps : List Nat) : (State.linkTo s c deps).base = s.base := by simp [State.linkTo]

@[simp] theorem State.newJob_base (s : State) (a : JobAsk) : (State.newJob s a).2.base = s.base := by
  unfold State.newJob
  try dsimp only
  first
    | (simp; done)
    | (repeat' (first | (simp; done) | (refine (State.rngGate_base _ _ _ _ _ fun _ _ => ?_).trans ?_) | (refine (issueTable_base _ _ fun _ => ?_).trans ?_) | split | (refine (foldl_base (fun _ _ => ?_) _ _).trans ?_) | (refine of_snd ‹_ = (_, _)› ?_) | (refine of_fst ‹_ = (_, _)› ?_) | (simp only [*]; done) | (refine of_snd ‹_ = _› ?_) | (refine of_fst ‹_ = _› ?_) | (simp_all; done) | simp))

@[simp] theorem State.cancelJobs_base (s : State) (p : Work → Bool) : (State.cancelJobs s p).base = s.base := by simp [State.cancelJobs]

@[simp] theorem State.newCrypto_base (s : State) (d : CJob) : (State.newCrypto s d).2.base = s.base := by simp [State.newCrypto]

@[simp] theorem State.timeOut_base (s : State) (ctx : Nat) : (State.timeOut s ctx).base = s.base := by simp [State.timeOut]

@[simp] theorem State.runJob_base (s : State) (a : JobAsk) : (State.runJob s a).2.base = s.base := by
  unfold State.runJob
  try dsimp only
  first
    | (simp; done)
    | (repeat' (first | (simp; done) | (refine (State.rngGate_base _ _ _ _ _ fun _ _ => ?_).trans ?_) | (refine (issueTable_base _ _ fun _ => ?_).trans ?_) | split | (refine (foldl_base (fun _ _ => ?_) _ _).trans ?_) | (refine of_snd ‹_ = (_, _)› ?_) | (refine of_fst ‹_ = (_, _)› ?_) | (simp only [*]; done) | (refine of_snd ‹_ = _› ?_) | (refine of_fst ‹_ = _› ?_) | (simp_all; done) | simp))

/-! ### Command.lean -/

@[simp] theorem Act.say_base (s : State) (status : Nat) (detail : Nat := 0) : (Act.say s status detail).st.base = s.base := by simp [Act.say]

@[simp] theorem Act.fail_base (s : State) (c : Nat × Nat) : (Act.fail s c).st.base = s.base := by simp [Act.fail]

@[simp] theorem State.endCtx_base (s : State) (c : Option Nat) : (State.endCtx s c).base = s.base := by unfold State.endCtx; split <;> simp

@[simp] theorem State.takeCtx_base (s : State) (op : Nat) : (State.takeCtx s op).2.base = s.base := by
  unfold State.takeCtx
  try dsimp only
  first
    | (simp; done)
    | (repeat' (first | (simp; done) | (refine (State.rngGate_base _ _ _ _ _ fun _ _ => ?_).trans ?_) | (refine (issueTable_base _ _ fun _ => ?_).trans ?_) | split | (refine (foldl_base (fun _ _ => ?_) _ _).trans ?_) | (refine of_snd ‹_ = (_, _)› ?_) | (refine of_fst ‹_ = (_, _)› ?_) | (simp only [*]; done) | (refine of_snd ‹_ = _› ?_) | (refine of_fst ‹_ = _› ?_) | (simp_all; done) | simp))

theorem issueTable_base (act : State → Act) (s : State) (h : ∀ u, (act u).st.base = u.base) : (issueTable act s).st.base = s.base := by
  unfold issueTable
  split
  · exact h s
  · have k := State.runJob_base s tableAsk
    split <;> rename_i e <;> rw [e] at k
    · simpa using k
    · simpa [h] using k

@[simp] theorem State.reply_base (s : State) (t : Taken) (order status detail : Nat) (payload : List Byte) (holdsTag : Bool := true) (id : Option Nat := none) (holds : Nat := 0) : (State.reply s t order status detail payload holdsTag id holds).base = s.base := by simp [State.reply]

@[simp] theorem State.replyNow_base (s : State) (t : Taken) (status : Nat) (detail : Nat := 0) (payload : List Byte := []) :
    (State.replyNow s t status detail payload).base = s.base := by simp [State.replyNow]

@[simp] theorem State.replyWait_base (s : State) (w : Wait) (status : Nat) (detail : Nat := 0) (payload : List Byte := []) : (State.replyWait s w status detail payload).base = s.base := by simp [State.replyWait]

@[simp] theorem State.awaits_base (s : State) (order : Nat) (why : Why) (cmd : Taken) : (State.awaits s order why cmd).base = s.base := by simp [State.awaits]

@[simp] theorem State.abortWait_base (s : State) (w : Wait) (status detail : Nat) :
    (State.abortWait s w status detail).base = s.base := by simp [State.abortWait]

@[simp] theorem State.dropWait_base (s : State) (w : Wait) : (State.dropWait s w).base = s.base := by simp [State.dropWait]

@[simp] theorem State.answer_base (s : State) (p : Why → Bool) (status : Nat) (detail : Nat := 0) (payload : List Byte := []) :
    (State.answer s p status detail payload).base = s.base := by simp [State.answer]

@[simp] theorem State.dropUpdate_base (s : State) (id : Nat) : (State.dropUpdate s id).base = s.base := by simp [State.dropUpdate]

@[simp] theorem State.closeSession_base (s : State) (id : Nat) (reason : Nat) :
    (State.closeSession s id reason).base = s.base := by unfold State.closeSession; split <;> simp

@[simp] theorem State.authFailed_base (s : State) (role : Nat) (k : Carrier) : (State.authFailed s role k).base = s.base := by simp [State.authFailed]

@[simp] theorem State.checkAuth_base (s : State) (op : Nat) (r : Req) : (State.checkAuth s op r).2.base = s.base := by
  unfold State.checkAuth
  dsimp only
  repeat' (first | (simp; done) | split)

@[simp] theorem State.doom_base (s : State) (r : Req) (status detail off : Nat) : (State.doom s r status detail off).base = s.base := by
  unfold State.doom
  dsimp only
  repeat' (first | (simp; done) | split)

@[simp] theorem State.refuse_base (s : State) (t : Taken) (status detail : Nat) (payload : List Byte := []) (off : Nat := 0) : (State.refuse s t status detail payload off).base = s.base := by simp [State.refuse]

@[simp] theorem State.closeStaging_base (s : State) (op : Nat) (r : Req) : (State.closeStaging s op r).base = s.base := by
  unfold State.closeStaging
  dsimp only
  repeat' (first | (simp; done) | split)

theorem State.judge_base (c : Cmd) (r : Req) (s : State) (h : ∀ st u, (c.refused st u).base = u.base) : (State.judge c r s).base = s.base := by
  have k := State.checkAuth_base s c.op r
  unfold State.judge
  dsimp only
  split <;> rename_i h1 <;> rw [h1] at k <;> simp only at k
  · split <;> simp [h, k]
  · split
    · simp [h, k]
    split
    · simp [h, k]
    split
    · simp [h, k]
    split
    · simp [h, k]
    split
    · simp [h, k]
    split
    · simp [h, k]
    split
    · split
      · simp [h, k]
      · split
        · simp [h, k]
        · simp [k]
    · split <;> rename_i h3 <;> have k3 := of_snd h3 (State.takeCtx_base _ _)
      · simp [h, k, k3]
      · simp [k, k3]

@[simp] theorem State.doomIf_base (s : State) (t : Taken) (status detail : Nat) :
    (State.doomIf s t status detail).base = s.base := by simp [State.doomIf]

theorem State.takeTag_base (s : State) (op : Nat) (r : Req) (off : Nat → State → State) (go : State → State)
    (h : ∀ st u, (off st u).base = u.base) (k : ∀ u, (go u).base = u.base) : (s.takeTag op r off go).base = s.base := by
  unfold State.takeTag
  dsimp only
  split
  · simp [h]
  split
  · simp [h]
  split
  · simp [h]
  split
  · simp [h]
  · simp [k]

theorem State.take_base (c : Cmd) (r : Req) (s : State) (h : ∀ st u, (c.refused st u).base = u.base) : (State.take c r s).base = s.base := by
  unfold State.take
  split
  · exact State.takeTag_base _ _ _ _ _ h fun u => by simp [State.judge_base c r u h]
  · rfl

theorem Cmd.run_base (c : Cmd) (role : Role) (r : Req) (s : State) (h : c.Tame) : (c.run role r s).st.base = s.base := by
  unfold Cmd.run
  split
  · simp [h.refused]
  · exact h.act role r s

theorem State.start_base (c : Cmd) (t : Taken) (s : State) (h : c.Tame) : (State.start c t s).base = s.base := by
  unfold State.start
  have k := Cmd.run_base c t.role t.req
    { s with chan := { s.chan with order := s.chan.order + 1, taken := s.chan.taken.filter fun u => !(u == t) } } h
  dsimp only
  split
  · rw [State.awaits_base]; exact k
  · simp only [State.reply_base]; exact k

theorem State.retry_base (s : State) (w : Wait) (act : State → Act) (h : ∀ u, (act u).st.base = u.base) : (s.retry w act).base = s.base := by
  unfold State.retry
  dsimp only
  split
  · exact h _
  · simp only [State.reply_base]; exact h _

theorem runCmd_base (c : Cmd) (r : Req) (s : State) (h : c.Tame) : (runCmd c r s).base = s.base := by
  have key : ∀ u : State, u.base = s.base → (match u.findTaken c.op r with
      | none => u
      | some t =>
        if !t.started && !u.isNext t then u
        else
          let hold (s : State) : State :=
            { s with chan := { s.chan with taken := s.chan.taken.map fun u => if u == t then { u with started := true } else u } }
          if u.boot.fwDead && !hwOp c.op then hold u
          else
          match u.heldBy c r with
          | some _ => hold u
          | none => if u.inSoftReset c.op r then hold u else State.start c t u).base = s.base := by
    intro u hu
    split
    · exact hu
    split
    · exact hu
    dsimp only
    split
    · exact hu
    split
    · exact hu
    split
    · exact hu
    · rw [State.start_base c _ u h, hu]
  unfold runCmd
  refine key _ ?_
  split
  · rfl
  · exact State.take_base c r s h.refused

/-! ### Engine.lean -/

@[simp] theorem State.clockOff_base (s : State) : (State.clockOff s).base = s.base := by unfold State.clockOff; split <;> simp

@[simp] theorem State.clockOn_base (s : State) : (State.clockOn s).base = s.base := by unfold State.clockOn; split <;> simp

@[simp] theorem State.setEng_base (s : State) (e st : Nat) : (State.setEng s e st).base = s.base := by simp [State.setEng]

@[simp] theorem State.restIn_base (s : State) (e st : Nat) : (State.restIn s e st).base = s.base := by simp [State.restIn]

@[simp] theorem State.initDone_base (s : State) (e : Nat) : (State.initDone s e).base = s.base := by simp [State.initDone]

@[simp] theorem State.requestEnable_base (s : State) (e : Nat) (on : Bool) : (State.requestEnable s e on).2.base = s.base := by
  unfold State.requestEnable
  dsimp only
  repeat' (first | (simp; done) | split)

@[simp] theorem State.beginSoftReset_base (s : State) (e : Nat) : (State.beginSoftReset s e).base = s.base := by simp [State.beginSoftReset]

@[simp] theorem State.failEngine_base (s : State) (e : Nat) : (State.failEngine s e).base = s.base := by simp [State.failEngine]

@[simp] theorem State.setFault_base (s : State) (e : Nat) (c : FaultCause) :
    (State.setFault s e c).base = s.base := by unfold State.setFault; split <;> simp

/-! ### Pins.lean -/

@[simp] theorem State.pins_base (s t : State) : (s.pins t).base = t.base := by
  have h : (List.foldl (fun t ch => if t.pbenDrive ch = s.pbenDrive ch then t else t.emit (.pin (.pben ch) (t.pbenDrive ch))) t (List.range 4)).base =
      t.base := foldl_base (fun u ch => by split <;> simp) _ _
  unfold State.pins
  dsimp only
  split
  · exact h
  · rw [State.emit_base]; exact h

@[simp] theorem State.setPps_base (s : State) (high : Bool) : (State.setPps s high).base = s.base := by simp [State.setPps]

/-! ### Sleep.lean -/

@[simp] theorem State.setAwake_base (s : State) (d : Nat) (on : Bool) : (State.setAwake s d on).base = s.base := by simp [State.setAwake]

@[simp] theorem State.sleepEngine_base (s : State) (e : Nat) : (State.sleepEngine s e).base = s.base := by simp [State.sleepEngine]

@[simp] theorem State.wakeFlds_base (s : State) (e : Nat) : (State.wakeFlds s e).base = s.base := by simp [State.wakeFlds]

@[simp] theorem State.sleepDomain_base (s : State) (d : Nat) : (State.sleepDomain s d).base = s.base := by simp [State.sleepDomain]

/-! ### Sched.lean -/

theorem State.choose_base {s : State} {n ch : Nat} {x : Nat × QFrame × State} (h : s.choose n ch = some x) : x.2.2.base = s.base := by
  unfold State.choose at h
  dsimp only at h
  split at h
  · cases h
  split at h
  · cases h
  split at h
  · cases h
  split at h
  · cases h
  cases h
  dsimp only
  split <;> simp

@[simp] theorem State.enqueue_base (s : State) (q : Nat) (f : QFrame) : (State.enqueue s q f).base = s.base := by simp [State.enqueue]

@[simp] theorem State.underLimit_base (s : State) (q len : Nat) : (State.underLimit s q len).2.base = s.base := by
  unfold State.underLimit
  try dsimp only
  first
    | (simp; done)
    | (repeat' (first | (simp; done) | (refine (State.rngGate_base _ _ _ _ _ fun _ _ => ?_).trans ?_) | (refine (issueTable_base _ _ fun _ => ?_).trans ?_) | split | (refine (foldl_base (fun _ _ => ?_) _ _).trans ?_) | (refine of_snd ‹_ = (_, _)› ?_) | (refine of_fst ‹_ = (_, _)› ?_) | (simp only [*]; done) | (refine of_snd ‹_ = _› ?_) | (refine of_fst ‹_ = _› ?_) | (simp_all; done) | simp))

@[simp] theorem State.police_base (s : State) (q bytes : Nat) : (State.police s q bytes).2.base = s.base := by
  unfold State.police
  dsimp only
  repeat' (first | (simp; done) | split)

/-! ### CipherBase.lean -/

@[simp] theorem State.modCry_base (s : State) (f : Crypto → Crypto) : (State.modCry s f).base = s.base := by simp [State.modCry]

@[simp] theorem State.addBlocks_base (s : State) (u n : Nat) : (State.addBlocks s u n).base = s.base := by simp [State.addBlocks]

@[simp] theorem State.touchKey_base (s : State) (u slot : Nat) : (State.touchKey s u slot).base = s.base := by simp [State.touchKey]

@[simp] theorem State.uncache_base (s : State) (slot : Nat) : (State.uncache s slot).base = s.base := by simp [State.uncache]

@[simp] theorem State.dropCache_base (s : State) (u : Nat) : (State.dropCache s u).base = s.base := by simp [State.dropCache]

@[simp] theorem State.kwUse_base (s : State) (u : Nat) (slot : Option Nat) (n : Nat) : (State.kwUse s u slot n).base = s.base := by
  unfold State.kwUse
  try dsimp only
  first
    | (simp; done)
    | (repeat' (first | (simp; done) | (refine (State.rngGate_base _ _ _ _ _ fun _ _ => ?_).trans ?_) | (refine (issueTable_base _ _ fun _ => ?_).trans ?_) | split | (refine (foldl_base (fun _ _ => ?_) _ _).trans ?_) | (refine of_snd ‹_ = (_, _)› ?_) | (refine of_fst ‹_ = (_, _)› ?_) | (simp only [*]; done) | (refine of_snd ‹_ = _› ?_) | (refine of_fst ‹_ = _› ?_) | (simp_all; done) | simp))

@[simp] theorem State.ponBlocks_base (s : State) (ch n : Nat) : (State.ponBlocks s ch n).base = s.base := by
  unfold State.ponBlocks
  try dsimp only
  first
    | (simp; done)
    | (repeat' (first | (simp; done) | (refine (State.rngGate_base _ _ _ _ _ fun _ _ => ?_).trans ?_) | (refine (issueTable_base _ _ fun _ => ?_).trans ?_) | split | (refine (foldl_base (fun _ _ => ?_) _ _).trans ?_) | (refine of_snd ‹_ = (_, _)› ?_) | (refine of_fst ‹_ = (_, _)› ?_) | (simp only [*]; done) | (refine of_snd ‹_ = _› ?_) | (refine of_fst ‹_ = _› ?_) | (simp_all; done) | simp))

@[simp] theorem State.katBegin_base (s : State) (u : Nat) : (State.katBegin s u).base = s.base := by
  unfold State.katBegin
  try dsimp only
  first
    | (simp; done)
    | (repeat' (first | (simp; done) | (refine (State.rngGate_base _ _ _ _ _ fun _ _ => ?_).trans ?_) | (refine (issueTable_base _ _ fun _ => ?_).trans ?_) | split | (refine (foldl_base (fun _ _ => ?_) _ _).trans ?_) | (refine of_snd ‹_ = (_, _)› ?_) | (refine of_fst ‹_ = (_, _)› ?_) | (simp only [*]; done) | (refine of_snd ‹_ = _› ?_) | (refine of_fst ‹_ = _› ?_) | (simp_all; done) | simp))

@[simp] theorem State.katEnd_base (s : State) (u : Nat) (ok : Bool) : (State.katEnd s u ok).base = s.base := by simp [State.katEnd]

/-! ### PonBase.lean -/

@[simp] theorem State.modVt_base (s : State) (v : Nat) (f : Vt → Vt) : (State.modVt s v f).base = s.base := by simp [State.modVt]

@[simp] theorem State.modCh_base (s : State) (c : Nat) (f : PonCh → PonCh) : (State.modCh s c f).base = s.base := by simp [State.modCh]

@[simp] theorem State.modGroup_base (s : State) (g : Nat) (f : Group → Group) : (State.modGroup s g f).base = s.base := by simp [State.modGroup]

@[simp] theorem State.modPair_base (s : State) (f : Pair → Pair) : (State.modPair s f).base = s.base := by simp [State.modPair]

@[simp] theorem State.alarmCue_base (s : State) (ch changed : Nat) : (State.alarmCue s ch changed).base = s.base := by simp [State.alarmCue]

@[simp] theorem State.putUp_base (s : State) (v : Nat) (m : UpMsg) : (State.putUp s v m).base = s.base := by simp [State.putUp]

@[simp] theorem State.wsEnd_base (s : State) (ch : Nat) : (State.wsEnd s ch).base = s.base := by simp [State.wsEnd]

@[simp] theorem State.sendUp_base (s : State) (v : Nat) (m : UpMsg) : (State.sendUp s v m).base = s.base := by simp [State.sendUp]

@[simp] theorem State.sendOn_base (s : State) (ch sub : Nat) (fields : List Byte) :
    (State.sendOn s ch sub fields).base = s.base := by unfold State.sendOn; split <;> simp

@[simp] theorem State.noteTaking_base (s : State) (gi : Nat) : (State.noteTaking s gi).base = s.base := by unfold State.noteTaking; split <;> simp

@[simp] theorem State.noteAllTaking_base (s : State) : (State.noteAllTaking s).base = s.base := by simp [State.noteAllTaking]

@[simp] theorem State.setAnchor_base (s : State) (gi ch cause : Nat) : (State.setAnchor s gi ch cause).base = s.base := by
  unfold State.setAnchor
  dsimp only
  repeat' (first | (simp; done) | split)

@[simp] theorem State.fixAnchor_base (s : State) (cause gi : Nat) : (State.fixAnchor s cause gi).base = s.base := by
  unfold State.fixAnchor
  dsimp only
  repeat' (first | (simp; done) | split)

@[simp] theorem State.flushGroup_base (s : State) (gi : Nat) : (State.flushGroup s gi).base = s.base := by unfold State.flushGroup; split <;> simp

@[simp] theorem State.flushDark_base (s : State) : (State.flushDark s).base = s.base := by simp [State.flushDark]

@[simp] theorem State.endFrames_base (s : State) (xs : List QFrame) : (State.endFrames s xs).base = s.base := by simp [State.endFrames]

@[simp] theorem State.abandonOne_base (s : State) (ch : Nat) (b : Burst) : (State.abandonOne s ch b).base = s.base := by simp [State.abandonOne]

@[simp] theorem State.grantDrop_base (s : State) (ch n : Nat) : (State.grantDrop s ch n).base = s.base := by simp [State.grantDrop]

@[simp] theorem State.noteBurst_base (s : State) (ch : Nat) : (State.noteBurst s ch).base = s.base := by simp [State.noteBurst]

@[simp] theorem State.abandon_base (s : State) (ch : Nat) (p : Burst → Bool) : (State.abandon s ch p).base = s.base := by simp [State.abandon]

@[simp] theorem State.vtCue_base (s : State) (v old new cause : Nat) : (State.vtCue s v old new cause).base = s.base := by simp [State.vtCue]

@[simp] theorem State.dropEqd_base (s : State) (ch : Nat) : (State.dropEqd s ch).base = s.base := by simp [State.dropEqd]

@[simp] theorem State.freeCuts_base (s : State) (p : Alloc → Bool) : (State.freeCuts s p).base = s.base := by
  unfold State.freeCuts
  try dsimp only
  first
    | (simp; done)
    | (repeat' (first | (simp; done) | (refine (State.rngGate_base _ _ _ _ _ fun _ _ => ?_).trans ?_) | (refine (issueTable_base _ _ fun _ => ?_).trans ?_) | split | (refine (foldl_base (fun _ _ => ?_) _ _).trans ?_) | (refine of_snd ‹_ = (_, _)› ?_) | (refine of_fst ‹_ = (_, _)› ?_) | (simp only [*]; done) | (refine of_snd ‹_ = _› ?_) | (refine of_fst ‹_ = _› ?_) | (simp_all; done) | simp))

@[simp] theorem State.releaseVt_base (s : State) (v : Nat) : (State.releaseVt s v).base = s.base := by simp [State.releaseVt]

@[simp] theorem State.setVt_base (s : State) (v new cause : Nat) : (State.setVt s v new cause).base = s.base := by
  unfold State.setVt
  dsimp only
  repeat' (first | (simp; done) | split)

@[simp] theorem State.toO6_base (s : State) (ch v : Nat) : (State.toO6 s ch v).base = s.base := by simp [State.toO6]

@[simp] theorem State.allToO6_base (s : State) (ch : Nat) : (State.allToO6 s ch).base = s.base := by simp [State.allToO6]

@[simp] theorem State.lostSync_base (s : State) (ch : Nat) : (State.lostSync s ch).base = s.base := by simp [State.lostSync]

@[simp] theorem State.inSync_base (s : State) (ch : Nat) : (State.inSync s ch).base = s.base := by simp [State.inSync]

@[simp] theorem State.releaseTo_base (s : State) (v new cause : Nat) : (State.releaseTo s v new cause).base = s.base := by simp [State.releaseTo]

@[simp] theorem State.disableVt_base (s : State) (v ch : Nat) : (State.disableVt s v ch).base = s.base := by simp [State.disableVt]

@[simp] theorem State.settle_base (s : State) (ch : Nat) : (State.settle s ch).base = s.base := by simp [State.settle]

@[simp] theorem State.tableFull_base (s : State) (table v source id : Nat) :
    (State.tableFull s table v source id).base = s.base := by simp [State.tableFull]

/-! ### Carrier.lean -/

@[simp] theorem State.rplPut_base (s : State) (bytes : List Byte) : (State.rplPut s bytes).base = s.base := by simp [State.rplPut]

@[simp] theorem State.signal_base (s : State) (v : Nat) : (State.signal s v).base = s.base := by simp [State.signal]

@[simp] theorem State.rplStop_base (s : State) : (State.rplStop s).base = s.base := by simp [State.rplStop]

@[simp] theorem State.rplDrain_base (s : State) (n : Nat) (vs : List Nat) : (s.rplDrain n vs).1.base = s.base := by
  induction n generalizing s vs with
  | zero => rfl
  | succ n ih =>
    unfold State.rplDrain
    dsimp only
    repeat' (first | (simp [ih]; done) | split)

@[simp] theorem State.rplWrite_base (s : State) : (State.rplWrite s).base = s.base := by
  unfold State.rplWrite
  dsimp only
  repeat' (first | (simp; done) | split)

@[simp] theorem State.writeTail_base (s : State) (p v : Nat) : (State.writeTail s p v).base = s.base := by simp [State.writeTail]

@[simp] theorem State.writeRplHead_base (s : State) (v : Nat) : (State.writeRplHead s v).base = s.base := by simp [State.writeRplHead]

@[simp] theorem State.setHalt_base (s : State) (p : Nat) (on : Bool) : (State.setHalt s p on).base = s.base := by simp [State.setHalt]

@[simp] theorem State.writeCmdEnable_base (s : State) (p : Nat) (on : Bool) :
    (State.writeCmdEnable s p on).base = s.base := by simp [State.writeCmdEnable]

@[simp] theorem State.writeRplEnable_base (s : State) (on : Bool) : (State.writeRplEnable s on).base = s.base := by simp [State.writeRplEnable]

@[simp] theorem State.writeCueEn_base (s : State) (on : Bool) : (State.writeCueEn s on).base = s.base := by simp [State.writeCueEn]

@[simp] theorem State.uartSent_base (s : State) : (State.uartSent s).base = s.base := by unfold State.uartSent; split <;> simp

@[simp] theorem State.bandSent_base (s : State) : (State.bandSent s).base = s.base := by
  unfold State.bandSent
  try dsimp only
  first
    | (simp; done)
    | (repeat' (first | (simp; done) | (refine (State.rngGate_base _ _ _ _ _ fun _ _ => ?_).trans ?_) | (refine (issueTable_base _ _ fun _ => ?_).trans ?_) | split | (refine (foldl_base (fun _ _ => ?_) _ _).trans ?_) | (refine of_snd ‹_ = (_, _)› ?_) | (refine of_fst ‹_ = (_, _)› ?_) | (simp only [*]; done) | (refine of_snd ‹_ = _› ?_) | (refine of_fst ‹_ = _› ?_) | (simp_all; done) | simp))

/-! ### System.lean -/

@[simp] theorem identifyCmd_tame  : (identifyCmd).Tame := ⟨fun _ _ => rfl, fun _ _ _ => by simp [identifyCmd]⟩

@[simp] theorem echoCmd_tame  : (echoCmd).Tame := ⟨fun _ _ => rfl, fun _ _ _ => by simp [echoCmd]⟩

@[simp] theorem cueRouteCmd_tame  : (cueRouteCmd).Tame := ⟨fun _ _ => rfl, fun _ _ _ => by
  unfold cueRouteCmd
  dsimp only
  repeat' (first | (simp; done) | split)⟩

@[simp] theorem State.enterError_base (s : State) (test : Nat) : (State.enterError s test).base = s.base := by simp [State.enterError]

@[simp] theorem State.modRng_base (s : State) (f : Rng → Rng) : (State.modRng s f).base = s.base := by simp [State.modRng]

@[simp] theorem State.reseed_base (s : State) : (State.reseed s).base = s.base := by simp [State.reseed]

theorem State.generate_base {s : State} {n : Nat} {x : List Byte × State} (h : s.generate n = some x) : x.2.base = s.base := by
  unfold State.generate at h
  split at h
  · cases h
  split at h
  · cases h; simp
  split at h
  · cases h
  · cases h; simp

theorem State.rngGate_base (s : State) (rel : Release) (ready : Bool) (n : Nat) (go : List Byte → State → Act)
    (h : ∀ o u, (go o u).st.base = u.base) : (s.rngGate rel ready n go).st.base = s.base := by
  unfold State.rngGate
  dsimp only
  split
  · simp
  split
  · split <;> simp [h]
  · split
    · rfl
    · rename_i e
      have k := State.generate_base e
      split
      · split
        · simp [h, k]
        · exact k
      · exact k

@[simp] theorem State.newSessionId_base (s : State) : (State.newSessionId s).2.base = s.base := by
  unfold State.newSessionId
  dsimp only
  repeat' (first | (simp; done) | split)

@[simp] theorem sessionOpenDone_base (pct : Bool) (r : Req) (out : List Byte) (s : State) : (sessionOpenDone pct r out s).st.base = s.base := by
  unfold sessionOpenDone
  try dsimp only
  first
    | (simp; done)
    | (repeat' (first | (simp; done) | (refine (State.rngGate_base _ _ _ _ _ fun _ _ => ?_).trans ?_) | (refine (issueTable_base _ _ fun _ => ?_).trans ?_) | split | (refine (foldl_base (fun _ _ => ?_) _ _).trans ?_) | (refine of_snd ‹_ = (_, _)› ?_) | (refine of_fst ‹_ = (_, _)› ?_) | (simp only [*]; done) | (refine of_snd ‹_ = _› ?_) | (refine of_fst ‹_ = _› ?_) | (simp_all; done) | simp))

@[simp] theorem sessionOpenCmd_tame (pct : Bool) (rel : Release) : (sessionOpenCmd pct rel).Tame := ⟨fun _ _ => rfl, fun _ _ _ => by
  unfold sessionOpenCmd
  dsimp only
  split
  · simp
  · exact State.rngGate_base _ _ _ _ _ fun _ _ => by simp⟩

@[simp] theorem sessionCloseCmd_tame  : (sessionCloseCmd).Tame := ⟨fun _ _ => rfl, fun _ _ _ => by
  unfold sessionCloseCmd
  dsimp only
  repeat' (first | (simp; done) | split)⟩

end Sys2Proof.Machine
end

