-- ==== Sys2Proof/Laws/BaseKeys.lean ====
section
/-! SUPPORT. Laws of what the key, cipher and PON operations leave (see `State.base`). -/

namespace Sys2Proof.Machine

/-! ### TdmBase.lean -/

@[simp] theorem State.modTdm_base (s : State) (f : Tdm → Tdm) : (State.modTdm s f).base = s.base := by simp [State.modTdm]

@[simp] theorem State.modCirc_base (s : State) (c : Nat) (f : CircRt → CircRt) : (State.modCirc s c f).base = s.base := by simp [State.modCirc]

@[simp] theorem State.rearm_base (s : State) (ctx : Option Nat) (due : Nat) : (State.rearm s ctx due).base = s.base := by
  unfold State.rearm
  try dsimp only
  first
    | (simp; done)
    | (repeat' (first | (simp; done) | (refine (State.rngGate_base _ _ _ _ _ fun _ _ => ?_).trans ?_) | (refine (issueTable_base _ _ fun _ => ?_).trans ?_) | split | (refine (foldl_base (fun _ _ => ?_) _ _).trans ?_) | (refine of_snd ‹_ = (_, _)› ?_) | (refine of_fst ‹_ = (_, _)› ?_) | (simp only [*]; done) | (refine of_snd ‹_ = _› ?_) | (refine of_fst ‹_ = _› ?_) | (simp_all; done) | simp))

@[simp] theorem State.parkJob_base (s : State) (ctx : Option Nat) : (State.parkJob s ctx).base = s.base := by simp [State.parkJob]

@[simp] theorem State.circTo_base (s : State) (c new cause : Nat) : (State.circTo s c new cause).base = s.base := by simp [State.circTo]

@[simp] theorem State.circEmpty_base (s : State) (c : Nat) : (State.circEmpty s c).base = s.base := by simp [State.circEmpty]

@[simp] theorem State.circExpire_base (s : State) (sa : Nat) : (State.circExpire s sa).base = s.base := by simp [State.circExpire]

@[simp] theorem State.circRestore_base (s : State) (sa : Nat) : (State.circRestore s sa).base = s.base := by simp [State.circRestore]

/-! ### Keys.lean -/

@[simp] theorem State.noteSlots_base (s : State) : (State.noteSlots s).base = s.base := by simp [State.noteSlots]

@[simp] theorem State.putSlot_base (s : State) (n : Nat) (x : Slot) : (State.putSlot s n x).base = s.base := by simp [State.putSlot]

@[simp] theorem State.eraseSlot_base (s : State) (n : Nat) : (State.eraseSlot s n).base = s.base := by simp [State.eraseSlot]

@[simp] theorem State.modSlot_base (s : State) (n : Nat) (f : Slot → Slot) : (State.modSlot s n f).base = s.base := by simp [State.modSlot]

@[simp] theorem State.modSa_base (s : State) (n : Nat) (f : Sa → Sa) : (State.modSa s n f).base = s.base := by simp [State.modSa]

@[simp] theorem State.keystoreFull_base (s : State) (op : Nat) : (State.keystoreFull s op).base = s.base := by simp [State.keystoreFull]

@[simp] theorem State.rolledCue_base (s : State) (sa dir an new old : Nat) :
    (State.rolledCue s sa dir an new old).base = s.base := by simp [State.rolledCue]

@[simp] theorem State.switchTx_base (s : State) (n : Nat) : (State.switchTx s n).base = s.base := by
  unfold State.switchTx
  dsimp only
  repeat' (first | (simp; done) | split)

@[simp] theorem State.settleOlds_base (s : State) : (State.settleOlds s).base = s.base := by simp [State.settleOlds]

@[simp] theorem State.promoteRx_base (s : State) (n : Nat) : (State.promoteRx s n).base = s.base := by
  unfold State.promoteRx
  dsimp only
  repeat' (first | (simp; done) | split)

@[simp] theorem State.rollSa_base (s : State) (n : Nat) : (State.rollSa s n).base = s.base := by unfold State.rollSa; split <;> simp

@[simp] theorem State.expireSa_base (s : State) (n : Nat) : (State.expireSa s n).base = s.base := by unfold State.expireSa; split <;> simp

@[simp] theorem State.clearEntry_base (s : State) : (State.clearEntry s).base = s.base := by simp [State.clearEntry]

@[simp] theorem State.writeKeData_base (s : State) (i v : Nat) : (State.writeKeData s i v).base = s.base := by simp [State.writeKeData]

@[simp] theorem keyContent_base (p : List Byte) (s : State) : (keyContent p s).2.base = s.base := by
  unfold keyContent
  dsimp only
  repeat' (first | (simp; done) | split)

@[simp] theorem State.slotFor_base (s : State) (any : Bool) (n op : Nat) : (State.slotFor s any n op).2.base = s.base := by
  unfold State.slotFor
  repeat' (first | (simp; done) | split)

@[simp] theorem keyCommit_base (p : List Byte) (s : State) : (keyCommit p s).st.base = s.base := by
  unfold keyCommit
  try dsimp only
  first
    | (simp; done)
    |(repeat' (first | (simp; done) | split | (refine (foldl_base (fun _ _ => ?_) _ _).trans ?_) | (refine of_snd ‹_ = (_, _)› ?_) | (refine of_fst ‹_ = (_, _)› ?_) | (simp only [*]; done) | (simp_all; done) | simp))

@[simp] theorem keyCommitCmd_tame  : (keyCommitCmd).Tame := by
  constructor <;> intros <;> unfold keyCommitCmd <;> dsimp only
  all_goals ((repeat' (first | (simp; done) | split | (refine (foldl_base (fun _ _ => ?_) _ _).trans ?_) | (refine of_snd ‹_ = (_, _)› ?_) | (refine of_fst ‹_ = (_, _)› ?_) | (simp only [*]; done) | (simp_all; done) | simp)))

@[simp] theorem keyGenerate_base (rel : Release) (p : List Byte) (s : State) : (keyGenerate rel p s).st.base = s.base := by
  unfold keyGenerate
  try dsimp only
  first
    | (simp; done)
    | (repeat' (first | (simp; done) | (refine (State.rngGate_base _ _ _ _ _ fun _ _ => ?_).trans ?_) | (refine (issueTable_base _ _ fun _ => ?_).trans ?_) | split | (refine (foldl_base (fun _ _ => ?_) _ _).trans ?_) | (refine of_snd ‹_ = (_, _)› ?_) | (refine of_fst ‹_ = (_, _)› ?_) | (simp only [*]; done) | (refine of_snd ‹_ = _› ?_) | (refine of_fst ‹_ = _› ?_) | (simp_all; done) | simp))

@[simp] theorem keyGenerateCmd_tame (rel : Release) : (keyGenerateCmd rel).Tame := ⟨fun _ _ => rfl, fun _ _ _ => by
  unfold keyGenerateCmd
  try dsimp only
  first
    | (simp; done)
    | (repeat' (first | (simp; done) | (refine (State.rngGate_base _ _ _ _ _ fun _ _ => ?_).trans ?_) | (refine (issueTable_base _ _ fun _ => ?_).trans ?_) | split | (refine (foldl_base (fun _ _ => ?_) _ _).trans ?_) | (refine of_snd ‹_ = (_, _)› ?_) | (refine of_fst ‹_ = (_, _)› ?_) | (simp only [*]; done) | (refine of_snd ‹_ = _› ?_) | (refine of_fst ‹_ = _› ?_) | (simp_all; done) | simp))⟩

@[simp] theorem keyEraseCmd_tame  : (keyEraseCmd).Tame := ⟨fun _ _ => rfl, fun _ _ _ => by
  unfold keyEraseCmd
  dsimp only
  repeat' (first | (simp; done) | split)⟩

@[simp] theorem State.noteSas_base (s : State) : (State.noteSas s).base = s.base := by simp [State.noteSas]

@[simp] theorem State.putSa_base (s : State) (n : Nat) (x : Sa) : (State.putSa s n x).base = s.base := by simp [State.putSa]

@[simp] theorem saCreate_base (rel : Release) (p : List Byte) (s : State) : (saCreate rel p s).st.base = s.base := by
  unfold saCreate
  try dsimp only
  first
    | (simp; done)
    | (repeat' (first | (simp; done) | (refine (State.rngGate_base _ _ _ _ _ fun _ _ => ?_).trans ?_) | (refine (issueTable_base _ _ fun _ => ?_).trans ?_) | split | (refine (foldl_base (fun _ _ => ?_) _ _).trans ?_) | (refine of_snd ‹_ = (_, _)› ?_) | (refine of_fst ‹_ = (_, _)› ?_) | (simp only [*]; done) | (refine of_snd ‹_ = _› ?_) | (refine of_fst ‹_ = _› ?_) | (simp_all; done) | simp))

@[simp] theorem saCreateCmd_tame (rel : Release) : (saCreateCmd rel).Tame := ⟨fun _ _ => rfl, fun _ _ _ => by
  unfold saCreateCmd
  try dsimp only
  first
    | (simp; done)
    | (repeat' (first | (simp; done) | (refine (State.rngGate_base _ _ _ _ _ fun _ _ => ?_).trans ?_) | (refine (issueTable_base _ _ fun _ => ?_).trans ?_) | split | (refine (foldl_base (fun _ _ => ?_) _ _).trans ?_) | (refine of_snd ‹_ = (_, _)› ?_) | (refine of_fst ‹_ = (_, _)› ?_) | (simp only [*]; done) | (refine of_snd ‹_ = _› ?_) | (refine of_fst ‹_ = _› ?_) | (simp_all; done) | simp))⟩

@[simp] theorem saStage_base (p : List Byte) (s : State) : (saStage p s).st.base = s.base := by
  unfold saStage
  dsimp only
  repeat' (first | (simp; done) | split)

@[simp] theorem saStageCmd_tame  : (saStageCmd).Tame := ⟨fun _ _ => rfl, fun _ _ _ => by simp [saStageCmd]⟩

@[simp] theorem saRollCmd_tame  : (saRollCmd).Tame := ⟨fun _ _ => rfl, fun _ _ _ => by
  unfold saRollCmd
  dsimp only
  repeat' (first | (simp; done) | split)⟩

@[simp] theorem saDeleteCmd_tame  : (saDeleteCmd).Tame := ⟨fun _ _ => rfl, fun _ _ _ => by
  unfold saDeleteCmd
  dsimp only
  repeat' (first | (simp; done) | split)⟩

@[simp] theorem saQueryCmd_tame  : (saQueryCmd).Tame := ⟨fun _ _ => rfl, fun _ _ _ => by
  unfold saQueryCmd
  dsimp only
  repeat' (first | (simp; done) | split)⟩

@[simp] theorem saStatsCmd_tame  : (saStatsCmd).Tame := ⟨fun _ _ => rfl, fun _ _ _ => by
  unfold saStatsCmd
  dsimp only
  repeat' (first | (simp; done) | split)⟩

@[simp] theorem saFormat_base (p : List Byte) (s : State) : (saFormat p s).st.base = s.base := by
  unfold saFormat
  dsimp only
  repeat' (first | (simp; done) | split)

@[simp] theorem saFormatCmd_tame  : (saFormatCmd).Tame := ⟨fun _ _ => rfl, fun _ _ _ => by simp [saFormatCmd]⟩

@[simp] theorem ivFixedSetCmd_tame  : (ivFixedSetCmd).Tame := ⟨fun _ _ => rfl, fun _ _ _ => by
  unfold ivFixedSetCmd
  dsimp only
  repeat' (first | (simp; done) | split)⟩

@[simp] theorem roleAuthSet_base (r : Req) (s : State) : (roleAuthSet r s).st.base = s.base := by
  unfold roleAuthSet
  dsimp only
  repeat' (first | (simp; done) | split)

@[simp] theorem roleAuthSetCmd_tame  : (roleAuthSetCmd).Tame := ⟨fun _ _ => rfl, fun _ _ _ => by simp [roleAuthSetCmd]⟩

/-! ### Cipher.lean -/

@[simp] theorem State.rollDue_base (s : State) (n vol : Nat) : (State.rollDue s n vol).base = s.base := by unfold State.rollDue; split <;> simp

@[simp] theorem State.takeCounter_base (s : State) (sa slot n rollAt : Nat) :
    (State.takeCounter s sa slot n rollAt).2.base = s.base := by unfold State.takeCounter; split <;> simp

@[simp] theorem State.sealFrame_base (s : State) (sa hdr : Nat) (b : List Byte) : (State.sealFrame s sa hdr b).2.base = s.base := by
  unfold State.sealFrame
  dsimp only
  repeat' (first | (simp; done) | split)

@[simp] theorem State.authAlarm_base (s : State) (sa : Nat) : (State.authAlarm s sa).base = s.base := by unfold State.authAlarm; split <;> simp

@[simp] theorem State.countStatus_base (s : State) (unit : Nat) (isSeal : Bool) (o : CxOut) : (State.countStatus s unit isSeal o).base = s.base := by
  unfold State.countStatus
  try dsimp only
  first
    | (simp; done)
    | (repeat' (first | (simp; done) | (refine (State.rngGate_base _ _ _ _ _ fun _ _ => ?_).trans ?_) | (refine (issueTable_base _ _ fun _ => ?_).trans ?_) | split | (refine (foldl_base (fun _ _ => ?_) _ _).trans ?_) | (refine of_snd ‹_ = (_, _)› ?_) | (refine of_fst ‹_ = (_, _)› ?_) | (simp only [*]; done) | (refine of_snd ‹_ = _› ?_) | (refine of_fst ‹_ = _› ?_) | (simp_all; done) | simp))

@[simp] theorem State.countPkt_base (s : State) (sa : Nat) : (State.countPkt s sa).base = s.base := by simp [State.countPkt]

@[simp] theorem State.acceptOpen_base (s : State) (o : CxOut) : (State.acceptOpen s o).2.base = s.base := by
  unfold State.acceptOpen
  dsimp only
  repeat' (first | (simp; done) | split)

@[simp] theorem State.capacityCue_base (s : State) (retired owner : Nat) :
    (State.capacityCue s retired owner).base = s.base := by simp [State.capacityCue]

@[simp] theorem State.ownerLeft_base (s : State) (o : Nat) : (State.ownerLeft s o).base = s.base := by simp [State.ownerLeft]

@[simp] theorem State.rebound_base (s : State) (u : Nat) : (State.rebound s u).base = s.base := by simp [State.rebound]

@[simp] theorem State.writeBind_base (s : State) (u v : Nat) : (State.writeBind s u v).base = s.base := by simp [State.writeBind]

@[simp] theorem State.unqueue_base (s : State) (d : Dest) (ctx : Nat) :
    (State.unqueue s d ctx).base = s.base := by unfold State.unqueue; split <;> simp

@[simp] theorem State.dropMsg_base (s : State) (ctx : Nat) : (State.dropMsg s ctx).base = s.base := by simp [State.dropMsg]

@[simp] theorem State.discardJob_base (s : State) (ctx : Nat) : (State.discardJob s ctx).base = s.base := by
  unfold State.discardJob
  repeat' (first | (simp; done) | split)

@[simp] theorem State.giveTo_base (s : State) (ctx : Nat) (d : CJob) (but : Option Nat) : (State.giveTo s ctx d but).base = s.base := by
  unfold State.giveTo
  try dsimp only
  first
    | (simp; done)
    | (repeat' (first | (simp; done) | (refine (State.rngGate_base _ _ _ _ _ fun _ _ => ?_).trans ?_) | (refine (issueTable_base _ _ fun _ => ?_).trans ?_) | split | (refine (foldl_base (fun _ _ => ?_) _ _).trans ?_) | (refine of_snd ‹_ = (_, _)› ?_) | (refine of_fst ‹_ = (_, _)› ?_) | (simp only [*]; done) | (refine of_snd ‹_ = _› ?_) | (refine of_fst ‹_ = _› ?_) | (simp_all; done) | simp))

@[simp] theorem State.reissue_base (s : State) (ctx : Nat) (failed : Nat) : (State.reissue s ctx failed).base = s.base := by
  unfold State.reissue
  try dsimp only
  first
    | (simp; done)
    | (repeat' (first | (simp; done) | (refine (State.rngGate_base _ _ _ _ _ fun _ _ => ?_).trans ?_) | (refine (issueTable_base _ _ fun _ => ?_).trans ?_) | split | (refine (foldl_base (fun _ _ => ?_) _ _).trans ?_) | (refine of_snd ‹_ = (_, _)› ?_) | (refine of_fst ‹_ = (_, _)› ?_) | (simp only [*]; done) | (refine of_snd ‹_ = _› ?_) | (refine of_fst ‹_ = _› ?_) | (simp_all; done) | simp))

@[simp] theorem State.endMsgs_base (s : State) (u : Nat) : (State.endMsgs s u).base = s.base := by simp [State.endMsgs]

@[simp] theorem State.spareTaken_base (s : State) (src k cause loc left : Nat) :
    (State.spareTaken s src k cause loc left).base = s.base := by simp [State.spareTaken]

@[simp] theorem State.noSpare_base (s : State) (src k loc : Nat) : (State.noSpare s src k loc).base = s.base := by simp [State.noSpare]

@[simp] theorem State.seekSpare_base (s : State) (u : Nat) : (State.seekSpare s u).base = s.base := by
  unfold State.seekSpare
  dsimp only
  repeat' (first | (simp; done) | split)

@[simp] theorem State.cipherDown_base (s : State) (u : Nat) : (State.cipherDown s u).base = s.base := by simp [State.cipherDown]

@[simp] theorem State.noteKat_base (s : State) (u : Nat) (pass : Bool) : (State.noteKat s u pass).base = s.base := by simp [State.noteKat]

@[simp] theorem State.serve_base (s : State) (unit u : Nat) : (State.serve s unit u).base = s.base := by simp [State.serve]

@[simp] theorem State.substitute_base (s : State) (spare u : Nat) : (State.substitute s spare u).base = s.base := by simp [State.substitute]

@[simp] theorem State.katDone_base (s : State) (u : Nat) (pass : Bool) : (State.katDone s u pass).base = s.base := by
  unfold State.katDone
  dsimp only
  repeat' (first | (simp; done) | split)

@[simp] theorem State.katRow_base (s : State) (unit : Fin 10) (pass : Bool) : (State.katRow s unit pass).base = s.base := by simp [State.katRow]

@[simp] theorem State.giveJob_base (s : State) (ctx : Nat) (d : CJob) : (State.giveJob s ctx d).base = s.base := by simp [State.giveJob]

@[simp] theorem State.giveAgain_base (s : State) (isSeal : Bool) : (State.giveAgain s isSeal).base = s.base := by
  unfold State.giveAgain
  try dsimp only
  first
    | (simp; done)
    | (repeat' (first | (simp; done) | (refine (State.rngGate_base _ _ _ _ _ fun _ _ => ?_).trans ?_) | (refine (issueTable_base _ _ fun _ => ?_).trans ?_) | split | (refine (foldl_base (fun _ _ => ?_) _ _).trans ?_) | (refine of_snd ‹_ = (_, _)› ?_) | (refine of_fst ‹_ = (_, _)› ?_) | (simp only [*]; done) | (refine of_snd ‹_ = _› ?_) | (refine of_fst ‹_ = _› ?_) | (simp_all; done) | simp))

@[simp] theorem State.takeCrypto_base (s : State) (isSeal : Bool) : (State.takeCrypto s isSeal).base = s.base := by
  unfold State.takeCrypto
  try dsimp only
  first
    | (simp; done)
    | (repeat' (first | (simp; done) | (refine (State.rngGate_base _ _ _ _ _ fun _ _ => ?_).trans ?_) | (refine (issueTable_base _ _ fun _ => ?_).trans ?_) | split | (refine (foldl_base (fun _ _ => ?_) _ _).trans ?_) | (refine of_snd ‹_ = (_, _)› ?_) | (refine of_fst ‹_ = (_, _)› ?_) | (simp only [*]; done) | (refine of_snd ‹_ = _› ?_) | (refine of_fst ‹_ = _› ?_) | (simp_all; done) | simp))

@[simp] theorem State.noteFed_base (s : State) (u : Nat) (fed : List Nat) : (State.noteFed s u fed).base = s.base := by simp [State.noteFed]

@[simp] theorem State.suspendFor_base (s : State) (m : Msg) : (State.suspendFor s m).base = s.base := by simp [State.suspendFor]

@[simp] theorem State.longSuspends_base (s : State) : (State.longSuspends s).base = s.base := by simp [State.longSuspends]

@[simp] theorem State.feed_base (s : State) (m : Msg) (o : CxOut) (wait : Nat) : (State.feed s m o wait).base = s.base := by simp [State.feed]

@[simp] theorem State.putCJob_base (s : State) (ctx : Nat) (d : CJob) : (State.putCJob s ctx d).base = s.base := by simp [State.putCJob]

@[simp] theorem State.endBad_base (s : State) (m : Msg) (d : CJob) (st : Nat) :
    (State.endBad s m d st).base = s.base := by unfold State.endBad; split <;> simp

@[simp] theorem State.endGood_base (s : State) (m : Msg) (d : CJob) : (State.endGood s m d).base = s.base := by simp [State.endGood]

@[simp] theorem State.sealedInto_base (s : State) (q ctx : Nat) (pages : List Nat) (n : Nat) :
    (State.sealedInto s q ctx pages n).base = s.base := by simp [State.sealedInto]

@[simp] theorem State.opened_base (s : State) (m : Msg) (d : CJob) (pages : List Nat) :
    (State.opened s m d pages).base = s.base := by simp [State.opened]

@[simp] theorem State.complete_base (s : State) (m : Msg) (d : CJob) : (s.complete m d).base = s.base := by
  unfold State.complete
  split
  · simp
  split
  · dsimp only
    split <;> simp only [State.endGood_base, State.sealedInto_base] <;> split <;> simp
  split
  · rfl
  · have k := s.acceptOpen_base m.result
    split
    · rename_i k1
      rw [k1] at k
      split
      · rename_i h3
        have h3 := State.allocPages_base h3
        simp_all
      · rfl
    · rename_i k1
      rw [k1] at k
      simpa using k

@[simp] theorem State.recordOf_base (s : State) (u : Nat) (o : CxOut) : (State.recordOf s u o).2.base = s.base := by
  unfold State.recordOf
  try dsimp only
  first
    | (simp; done)
    | (repeat' (first | (simp; done) | (refine (State.rngGate_base _ _ _ _ _ fun _ _ => ?_).trans ?_) | (refine (issueTable_base _ _ fun _ => ?_).trans ?_) | split | (refine (foldl_base (fun _ _ => ?_) _ _).trans ?_) | (refine of_snd ‹_ = (_, _)› ?_) | (refine of_fst ‹_ = (_, _)› ?_) | (simp only [*]; done) | (refine of_snd ‹_ = _› ?_) | (refine of_fst ‹_ = _› ?_) | (simp_all; done) | simp))

@[simp] theorem State.ranOn_base (s : State) (u : Nat) (o : CxOut) : (State.ranOn s u o).base = s.base := by simp [State.ranOn]

@[simp] theorem State.runOnce_base (s : State) (u : Nat) (p : List Byte) : (State.runOnce s u p).2.base = s.base := by
  unfold State.runOnce
  try dsimp only
  first
    | (simp; done)
    |(repeat' (first | (simp; done) | split | (refine (foldl_base (fun _ _ => ?_) _ _).trans ?_) | (refine of_snd ‹_ = (_, _)› ?_) | (refine of_fst ‹_ = (_, _)› ?_) | (simp only [*]; done) | (simp_all; done) | simp))

@[simp] theorem runAnswer_base (s : State) (u : Nat) (o : CxOut) : (runAnswer s u o).st.base = s.base := by simp [runAnswer]

@[simp] theorem State.runLost_base (s : State) (u : Nat) (p : List Byte) (f : FaultCause) : (State.runLost s u p f).2.base = s.base := by
  unfold State.runLost
  try dsimp only
  first
    | (simp; done)
    | (repeat' (first | (simp; done) | (refine (State.rngGate_base _ _ _ _ _ fun _ _ => ?_).trans ?_) | (refine (issueTable_base _ _ fun _ => ?_).trans ?_) | split | (refine (foldl_base (fun _ _ => ?_) _ _).trans ?_) | (refine of_snd ‹_ = (_, _)› ?_) | (refine of_fst ‹_ = (_, _)› ?_) | (simp only [*]; done) | (refine of_snd ‹_ = _› ?_) | (refine of_fst ‹_ = _› ?_) | (simp_all; done) | simp))

@[simp] theorem State.cipherRun_base (s : State) (u : Nat) (p : List Byte) (again : Bool) (fs : List FaultCause) :
    (s.cipherRun u p again fs).st.base = s.base := by
  induction fs generalizing s u again with
  | nil => simp [State.cipherRun]
  | cons f fs ih =>
    unfold State.cipherRun
    dsimp only
    split
    · simp
    split
    · simp [ih]
    · simp

@[simp] theorem cipherRunCmd_tame (faults : List FaultCause) : (cipherRunCmd faults).Tame := ⟨fun _ _ => rfl, fun _ _ _ => by
  unfold cipherRunCmd
  dsimp only
  repeat' (first | (simp; done) | split)⟩

@[simp] theorem State.selfTestRun_base (s : State) (w : Nat) (pass : Bool) (us : Nat) :
    (State.selfTestRun s w pass us).st.base = s.base := by simp [State.selfTestRun]

@[simp] theorem State.poolTest_base (s : State) (u : Nat) (pass : Bool) (us : Nat) :
    (State.poolTest s u pass us).st.base = s.base := by unfold State.poolTest; split <;> simp

@[simp] theorem selftestRunCmd_tame (pass : Bool) (us : Nat) : (selftestRunCmd pass us).Tame := ⟨fun _ _ => rfl, fun _ _ _ => by
  unfold selftestRunCmd
  dsimp only
  repeat' (first | (simp; done) | split)⟩

theorem borrower_tame {op : Nat} {pass : Bool} {us : Nat} {fs : List FaultCause} {c : Cmd} (h : borrower op pass us fs = some c) : c.Tame := by
  unfold borrower at h
  split at h <;> cases h <;> simp

@[simp] theorem borrowAgain_base (giveUp pass : Bool) (us : Nat) (faults : List FaultCause) (w : Wait) (s : State) :
    (borrowAgain giveUp pass us faults w s).st.base = s.base := by
  unfold borrowAgain
  split
  · split
    · simp
    · split <;> rfl
  split
  · rfl
  · rename_i h
    dsimp only
    split
    · simp
    · exact Cmd.run_base _ _ _ _ (borrower_tame h)

/-! ### PonDown.lean -/

@[simp] theorem State.dropPartials_base (s : State) (ch : Nat) : (State.dropPartials s ch).base = s.base := by simp [State.dropPartials]

@[simp] theorem State.sendPark_base (s : State) (ch action : Nat) :
    (State.sendPark s ch action).base = s.base := by unfold State.sendPark; split <;> simp

@[simp] theorem State.unparkVts_base (s : State) (ch : Nat) : (State.unparkVts s ch).base = s.base := by simp [State.unparkVts]

@[simp] theorem State.parkedCue_base (s : State) (ch : Nat) (parked : Bool) : (State.parkedCue s ch parked).base = s.base := by simp [State.parkedCue]

@[simp] theorem State.unparkBoth_base (s : State) (ch : Nat) : (State.unparkBoth s ch).base = s.base := by simp [State.unparkBoth]

@[simp] theorem State.syncParked_base (s : State) (ch : Nat) : (State.syncParked s ch).base = s.base := by unfold State.syncParked; split <;> simp

@[simp] theorem State.takeSfc_base (s : State) (ch : Nat) (hecOk : Bool) (sfc : Nat) :
    (State.takeSfc s ch hecOk sfc).base = s.base := by simp [State.takeSfc]

@[simp] theorem State.applyDisables_base (s : State) (ch : Nat) : (State.applyDisables s ch).base = s.base := by
  unfold State.applyDisables
  try dsimp only
  first
    | (simp; done)
    |(repeat' (first | (simp; done) | split | (refine (foldl_base (fun _ _ => ?_) _ _).trans ?_) | (refine of_snd ‹_ = (_, _)› ?_) | (refine of_fst ‹_ = (_, _)› ?_) | (simp only [*]; done) | (simp_all; done) | simp))

@[simp] theorem State.psync_base (s : State) (ch : Nat) (matched hecOk : Bool) (sfc : Nat) : (State.psync s ch matched hecOk sfc).base = s.base := by
  unfold State.psync
  dsimp only
  repeat' (first | (simp; done) | split)

@[simp] theorem State.handle_base (s : State) (ch : Nat) (f : PloamMsg → State → Option State) (h : ∀ m u, (f m u).all fun t => t.base = u.base) :
    (s.handle ch f).base = s.base := by
  unfold State.handle
  split
  · rename_i m ms _ _
    have k := h m.2 (s.modCh ch fun c => { c with rxq := ms })
    cases e : f m.2 (s.modCh ch fun c => { c with rxq := ms }) with
    | none => rfl
    | some t => rw [e] at k; simpa using k
  · rfl

@[simp] theorem State.ackFrom_base (s : State) (v : Nat) (m : PloamMsg) (c : AckCode) :
    (State.ackFrom s v m c).base = s.base := by simp [State.ackFrom]

@[simp] theorem State.ackAll_base (s : State) (ch : Nat) (m : PloamMsg) (c : AckCode) :
    (State.ackAll s ch m c).base = s.base := by simp [State.ackAll]

@[simp] theorem State.assignOnu_base (s : State) (ch v o : Nat) : (State.assignOnu s ch v o).base = s.base := by simp [State.assignOnu]

@[simp] theorem State.leaveO7_base (s : State) (v : Nat) : (State.leaveO7 s v).base = s.base := by simp [State.leaveO7]

@[simp] theorem State.toO7_base (s : State) (v : Nat) : (State.toO7 s v).base = s.base := by simp [State.toO7]

@[simp] theorem State.assignAlloc_base (s : State) (ch v a : Nat) (add : Bool) (m : PloamMsg) : (State.assignAlloc s ch v a add m).base = s.base := by
  unfold State.assignAlloc
  dsimp only
  repeat' (first | (simp; done) | split)

@[simp] theorem State.portAdd_base (s : State) (ch v p kind keying : Nat) : (State.portAdd s ch v p kind keying).2.base = s.base := by
  unfold State.portAdd
  dsimp only
  repeat' (first | (simp; done) | split)

@[simp] theorem State.portDel_base (s : State) (ch v p : Nat) : (State.portDel s ch v p).2.base = s.base := by
  unfold State.portDel
  dsimp only
  repeat' (first | (simp; done) | split)

@[simp] theorem State.portAssign_base (s : State) (ch v : Nat) (c : List Byte) (m : PloamMsg) : (State.portAssign s ch v c m).base = s.base := by
  unfold State.portAssign
  try dsimp only
  first
    | (simp; done)
    |(repeat' (first | (simp; done) | split | (refine (foldl_base (fun _ _ => ?_) _ _).trans ?_) | (refine of_snd ‹_ = (_, _)› ?_) | (refine of_fst ‹_ = (_, _)› ?_) | (simp only [*]; done) | (simp_all; done) | simp))

@[simp] theorem State.parkAck_base (s : State) (ch action : Nat) :
    (State.parkAck s ch action).base = s.base := by unfold State.parkAck; split <;> simp

@[simp] theorem State.parkAgain_base (s : State) (ch : Nat) : (State.parkAgain s ch).base = s.base := by simp [State.parkAgain]

@[simp] theorem vtConfigCmd_tame  : (vtConfigCmd).Tame := ⟨fun _ _ => rfl, fun _ _ _ => by
  unfold vtConfigCmd
  dsimp only
  repeat' (first | (simp; done) | split)⟩

@[simp] theorem vtQueryCmd_tame  : (vtQueryCmd).Tame := ⟨fun _ _ => rfl, fun _ _ _ => by simp [vtQueryCmd]⟩

@[simp] theorem omciSendCmd_tame  : (omciSendCmd).Tame := ⟨fun _ _ => rfl, fun _ _ _ => by
  unfold omciSendCmd
  dsimp only
  repeat' (first | (simp; done) | split)⟩

@[simp] theorem portSetCmd_tame  : (portSetCmd).Tame := by
  constructor <;> intros <;> unfold portSetCmd <;> dsimp only
  all_goals ((repeat' (first | (simp; done) | split | (refine (foldl_base (fun _ _ => ?_) _ _).trans ?_) | (refine of_snd ‹_ = (_, _)› ?_) | (refine of_fst ‹_ = (_, _)› ?_) | (simp only [*]; done) | (simp_all; done) | simp)))

@[simp] theorem State.deleteGroup_base (s : State) (gi : Nat) : (State.deleteGroup s gi).base = s.base := by simp [State.deleteGroup]

@[simp] theorem State.setGroup_base (s : State) (gi : Nat) (ms : List (Option Nat)) :
    (State.setGroup s gi ms).base = s.base := by unfold State.setGroup; split <;> simp

@[simp] theorem groupSet_base (gi : Nat) (ms : List (Option Nat)) (s : State) : (groupSet gi ms s).st.base = s.base := by
  unfold groupSet
  dsimp only
  repeat' (first | (simp; done) | split)

@[simp] theorem bondGroupSetCmd_tame  : (bondGroupSetCmd).Tame := ⟨fun _ _ => rfl, fun _ _ _ => by
  unfold bondGroupSetCmd
  dsimp only
  repeat' (first | (simp; done) | split)⟩

/-! ### PonUp.lean -/

@[simp] theorem State.grantTo_base (s : State) (ch arrival : Nat) (g : Grant) (v : Nat) : (State.grantTo s ch arrival g v).base = s.base := by simp [State.grantTo]

@[simp] theorem State.takeGrant_base (s : State) (ch arrival n : Nat) (g : Grant) : (State.takeGrant s ch arrival n g).1.base = s.base := by
  unfold State.takeGrant
  dsimp only
  repeat' (first | (simp; done) | split)

@[simp] theorem Fill.place_base (f : Fill) (port : Nat) (p : Port) (last : Bool) (bs : List Byte) : (f.place port p last bs).st.base = f.st.base := by
  unfold Fill.place
  dsimp only
  repeat' (first | (simp; done) | split)

@[simp] theorem State.expireFrag_base (s : State) (gi : Nat) (b : Burst) (x : UpFrag) :
    (State.expireFrag s gi b x).base = s.base := by simp [State.expireFrag]

@[simp] theorem Fill.resend_base (f : Fill) (gi port : Nat) (p : Port) (n : Nat) : (f.resend gi port p n).st.base = f.st.base := by
  induction n generalizing f with
  | zero => rfl
  | succ n ih =>
    unfold Fill.resend
    dsimp only
    repeat' (first | (simp [ih]; done) | split)

@[simp] theorem State.idleRest_base (s : State) (node room : Nat) : (State.idleRest s node room).base = s.base := by simp [State.idleRest]

@[simp] theorem Fill.cut_base (f : Fill) (gi ch node port : Nat) (p : Port) (n : Nat) : (f.cut gi ch node port p n).st.base = f.st.base := by
  induction n generalizing f with
  | zero => rfl
  | succ n ih =>
    unfold Fill.cut
    dsimp only
    split
    · rfl
    split
    · split
      · simp
      · rename_i h
        split
        · rfl
        · simp [ih, State.choose_base h]
    · split
      · rfl
      · simp [ih]

@[simp] theorem Fill.plain_base (f : Fill) (ch node key port : Nat) (p : Port) (n : Nat) : (f.plain ch node key port p n).st.base = f.st.base := by
  induction n generalizing f with
  | zero => rfl
  | succ n ih =>
    unfold Fill.plain
    dsimp only
    split
    · split
      · simp
      · rename_i h
        split
        · rfl
        · simp [ih, State.choose_base h]
    · split
      · rfl
      · repeat' (first | (simp [ih]; done) | split)

@[simp] theorem Fill.omci_base (f : Fill) (onu n : Nat) : (f.omci onu n).st.base = f.st.base := by
  induction n generalizing f with
  | zero => rfl
  | succ n ih =>
    unfold Fill.omci
    dsimp only
    repeat' (first | (simp [ih]; done) | split)

@[simp] theorem Fill.load_base (f : Fill) (ch : Nat) (a : AllocGrant) : (f.load ch a).st.base = f.st.base := by
  unfold Fill.load
  dsimp only
  repeat' (first | (simp; done) | split)

@[simp] theorem Fill.alloc_base (f : Fill) (ch : Nat) (a : AllocGrant) : (f.alloc ch a).st.base = f.st.base := by
  unfold Fill.alloc
  dsimp only
  repeat' (first | (simp; done) | split)

theorem Fill.allocs_base (f : Fill) (ch : Nat) (xs : List AllocGrant) : (xs.foldl (fun f a => f.alloc ch a) f).st.base = f.st.base := by
  induction xs generalizing f with
  | nil => rfl
  | cons a xs ih => rw [List.foldl_cons, ih, Fill.alloc_base]

@[simp] theorem State.popPloam_base (s : State) (v : Nat) : (State.popPloam s v).2.base = s.base := by
  unfold State.popPloam
  dsimp only
  repeat' (first | (simp; done) | split)

@[simp] theorem State.burstPloam_base (s : State) (b : Burst) : (State.burstPloam s b).2.base = s.base := by
  unfold State.burstPloam
  repeat' (first | (simp; done) | split)

@[simp] theorem State.commit_base (s : State) (ch : Nat) (b : Burst) (enc : Nat) : (s.commit ch b enc).base = s.base := by
  simp [State.commit, Fill.allocs_base]

@[simp] theorem State.commitNext_base (s : State) (ch enc : Nat) : (State.commitNext s ch enc).base = s.base := by
  unfold State.commitNext
  try dsimp only
  first
    | (simp; done)
    | (repeat' (first | (simp; done) | (refine (State.rngGate_base _ _ _ _ _ fun _ _ => ?_).trans ?_) | (refine (issueTable_base _ _ fun _ => ?_).trans ?_) | split | (refine (foldl_base (fun _ _ => ?_) _ _).trans ?_) | (refine of_snd ‹_ = (_, _)› ?_) | (refine of_fst ‹_ = (_, _)› ?_) | (simp only [*]; done) | (refine of_snd ‹_ = _› ?_) | (refine of_fst ‹_ = _› ?_) | (simp_all; done) | simp))

@[simp] theorem State.commitEarly_base (s : State) (ch enc : Nat) : (State.commitEarly s ch enc).base = s.base := by
  unfold State.commitEarly
  try dsimp only
  first
    | (simp; done)
    | (repeat' (first | (simp; done) | (refine (State.rngGate_base _ _ _ _ _ fun _ _ => ?_).trans ?_) | (refine (issueTable_base _ _ fun _ => ?_).trans ?_) | split | (refine (foldl_base (fun _ _ => ?_) _ _).trans ?_) | (refine of_snd ‹_ = (_, _)› ?_) | (refine of_fst ‹_ = (_, _)› ?_) | (simp only [*]; done) | (refine of_snd ‹_ = _› ?_) | (refine of_fst ‹_ = _› ?_) | (simp_all; done) | simp))

@[simp] theorem State.wsFall_base (s : State) (ch : Nat) : (State.wsFall s ch).base = s.base := by simp [State.wsFall]

@[simp] theorem State.writeTxEn_base (s : State) (ch : Nat) (on : Bool) : (State.writeTxEn s ch on).base = s.base := by simp [State.writeTxEn]

@[simp] theorem allocBind_base (p : List Byte) (s : State) : (allocBind p s).st.base = s.base := by
  unfold allocBind
  dsimp only
  repeat' (first | (simp; done) | split)

@[simp] theorem allocBindCmd_tame  : (allocBindCmd).Tame := ⟨fun _ _ => rfl, fun _ _ _ => by simp [allocBindCmd]⟩

/-! ### TimeBase.lean -/

@[simp] theorem State.shiftPart_base (s : State) (d : Int) : (State.shiftPart s d).base = s.base := by
  unfold State.shiftPart
  try dsimp only
  first
    | (simp; done)
    | (repeat' (first | (simp; done) | (refine (State.rngGate_base _ _ _ _ _ fun _ _ => ?_).trans ?_) | (refine (issueTable_base _ _ fun _ => ?_).trans ?_) | split | (refine (foldl_base (fun _ _ => ?_) _ _).trans ?_) | (refine of_snd ‹_ = (_, _)› ?_) | (refine of_fst ‹_ = (_, _)› ?_) | (simp only [*]; done) | (refine of_snd ‹_ = _› ?_) | (refine of_fst ‹_ = _› ?_) | (simp_all; done) | simp))

@[simp] theorem State.ticks_base (s : State) (n : Nat) : (State.ticks s n).base = s.base := by
  unfold State.ticks
  try dsimp only
  first
    | (simp; done)
    | (repeat' (first | (simp; done) | (refine (State.rngGate_base _ _ _ _ _ fun _ _ => ?_).trans ?_) | (refine (issueTable_base _ _ fun _ => ?_).trans ?_) | split | (refine (foldl_base (fun _ _ => ?_) _ _).trans ?_) | (refine of_snd ‹_ = (_, _)› ?_) | (refine of_fst ‹_ = (_, _)› ?_) | (simp only [*]; done) | (refine of_snd ‹_ = _› ?_) | (refine of_fst ‹_ = _› ?_) | (simp_all; done) | simp))

@[simp] theorem State.pass_base (s : State) (n : Nat) : (State.pass s n).base = s.base := by simp [State.pass]

@[simp] theorem State.setRate_base (s : State) (rate : Int) : (State.setRate s rate).base = s.base := by simp [State.setRate]

@[simp] theorem State.toHoldover_base (s : State) (cause : Nat) : (State.toHoldover s cause).base = s.base := by simp [State.toHoldover]

@[simp] theorem State.sourceChanged_base (s : State) (cause : Nat) : (State.sourceChanged s cause).base = s.base := by simp [State.sourceChanged]

@[simp] theorem State.parentSwitched_base (s : State) : (State.parentSwitched s).base = s.base := by simp [State.parentSwitched]

/-! ### Parents.lean -/

@[simp] theorem State.reportTo_base (s : State) (p result offered : Nat) :
    (State.reportTo s p result offered).base = s.base := by unfold State.reportTo; split <;> simp

@[simp] theorem State.endBursts_base (s : State) (chs : List Nat) (started : BitVec 4) :
    (State.endBursts s chs started).base = s.base := by simp [State.endBursts]

@[simp] theorem State.dropFencedIn_base (s : State) : (State.dropFencedIn s).base = s.base := by simp [State.dropFencedIn]

@[simp] theorem State.switchSeq_base (s : State) (chs : List Nat) (old source : Nat) (report : Option Nat) (started : BitVec 4) :
    (State.switchSeq s chs old source report started).base = s.base := by unfold State.switchSeq; split <;> simp

@[simp] theorem State.setParent_base (s : State) (map new source : Nat) (started : BitVec 4) :
    (State.setParent s map new source started).base = s.base := by simp [State.setParent]

@[simp] theorem State.offer_base (s : State) (p e source channel : Nat) (started : BitVec 4) :
    (State.offer s p e source channel started).2.base = s.base := by
  unfold State.offer
  dsimp only
  repeat' (first | (simp; done) | split)

@[simp] theorem State.takeClaim_base (s : State) (ch : Nat) (started : BitVec 4) : (s.takeClaim ch started).base = s.base := by
  unfold State.takeClaim
  apply State.handle_base
  intro m u
  split
  · split
    · simp
    · rfl
  · rfl

@[simp] theorem State.takeClaims_base (s : State) (started : BitVec 4) (upTo : Option Nat) (n : Nat) : (s.takeClaims started upTo n).base = s.base := by
  induction n generalizing s with
  | zero => rfl
  | succ n ih =>
    unfold State.takeClaims
    dsimp only
    split
    · rfl
    · split <;> simp [ih]

@[simp] theorem parentMapCmd_tame (started : BitVec 4) : (parentMapCmd started).Tame := ⟨fun _ _ => rfl, fun _ _ _ => by
  unfold parentMapCmd
  dsimp only
  repeat' (first | (simp; done) | split)⟩

@[simp] theorem parentEpochCmd_tame (started : BitVec 4) : (parentEpochCmd started).Tame := ⟨fun _ _ => rfl, fun _ _ _ => by simp [parentEpochCmd]⟩

@[simp] theorem parentClearCmd_tame (started : BitVec 4) : (parentClearCmd started).Tame := ⟨fun _ _ => rfl, fun _ _ _ => by simp [parentClearCmd]⟩

/-! ### MacBase.lean -/

@[simp] theorem State.macAdd_base (s : State) (l i n : Nat) : (State.macAdd s l i n).base = s.base := by simp [State.macAdd]

@[simp] theorem State.laneOut_base (s : State) (l : Nat) (b : List Byte) (x : Emit) : (State.laneOut s l b x).base = s.base := by simp [State.laneOut]

@[simp] theorem State.countTx_base (s : State) (l len : Nat) : (State.countTx s l len).base = s.base := by simp [State.countTx]

@[simp] theorem State.sendPfc_base (s : State) (l : Nat) (times : List (Nat × Nat)) :
    (State.sendPfc s l times).base = s.base := by simp [State.sendPfc]

@[simp] theorem State.pfcWatch_base (s : State) (l : Nat) : (State.pfcWatch s l).base = s.base := by simp [State.pfcWatch]

@[simp] theorem State.toMac_base (s : State) (l p : Nat) (pages : List Nat) (len : Nat) :
    (State.toMac s l p pages len).base = s.base := by simp [State.toMac]

@[simp] theorem State.flushMac_base (s : State) (l : Nat) : (State.flushMac s l).base = s.base := by simp [State.flushMac]

/-! ### Pair.lean -/

@[simp] theorem State.sendHb_base (s : State) (out : List Byte → State → State) (h : ∀ b u, (out b u).base = u.base) : (s.sendHb out).base = s.base := by
  unfold State.sendHb
  repeat' (first | (simp [*]; done) | split | (refine of_snd ‹_ = (_, _)› ?_) | (refine of_fst ‹_ = (_, _)› ?_) | (simp_all; done) | simp)

@[simp] theorem State.hbLink_base (s : State) : (State.hbLink s).base = s.base := by simp [State.hbLink]

@[simp] theorem State.hbPon_base (s : State) : (State.hbPon s).base = s.base := by unfold State.hbPon; split <;> simp

@[simp] theorem State.hbOn_base (s : State) (pon : Bool) : (State.hbOn s pon).base = s.base := by simp [State.hbOn]

@[simp] theorem State.hbNow_base (s : State) (pon : Bool) : (State.hbNow s pon).base = s.base := by
  unfold State.hbNow
  try dsimp only
  first
    | (simp; done)
    | (repeat' (first | (simp; done) | (refine (State.rngGate_base _ _ _ _ _ fun _ _ => ?_).trans ?_) | (refine (issueTable_base _ _ fun _ => ?_).trans ?_) | split | (refine (foldl_base (fun _ _ => ?_) _ _).trans ?_) | (refine of_snd ‹_ = (_, _)› ?_) | (refine of_fst ‹_ = (_, _)› ?_) | (simp only [*]; done) | (refine of_snd ‹_ = _› ?_) | (refine of_fst ‹_ = _› ?_) | (simp_all; done) | simp))

@[simp] theorem State.hbBoth_base (s : State) : (State.hbBoth s).base = s.base := by simp [State.hbBoth]

@[simp] theorem State.hbNext_base (s : State) (pon : Bool) : (State.hbNext s pon).base = s.base := by simp [State.hbNext]

@[simp] theorem State.hbDue_base (s : State) (pon : Bool) : (State.hbDue s pon).2.base = s.base := by
  unfold State.hbDue
  try dsimp only
  first
    | (simp; done)
    | (repeat' (first | (simp; done) | (refine (State.rngGate_base _ _ _ _ _ fun _ _ => ?_).trans ?_) | (refine (issueTable_base _ _ fun _ => ?_).trans ?_) | split | (refine (foldl_base (fun _ _ => ?_) _ _).trans ?_) | (refine of_snd ‹_ = (_, _)› ?_) | (refine of_fst ‹_ = (_, _)› ?_) | (simp only [*]; done) | (refine of_snd ‹_ = _› ?_) | (refine of_fst ‹_ = _› ?_) | (simp_all; done) | simp))

@[simp] theorem State.hbServe_base (s : State) (pon : Bool) : (State.hbServe s pon).base = s.base := by
  unfold State.hbServe
  try dsimp only
  first
    | (simp; done)
    | (repeat' (first | (simp; done) | (refine (State.rngGate_base _ _ _ _ _ fun _ _ => ?_).trans ?_) | (refine (issueTable_base _ _ fun _ => ?_).trans ?_) | split | (refine (foldl_base (fun _ _ => ?_) _ _).trans ?_) | (refine of_snd ‹_ = (_, _)› ?_) | (refine of_fst ‹_ = (_, _)› ?_) | (simp only [*]; done) | (refine of_snd ‹_ = _› ?_) | (refine of_fst ‹_ = _› ?_) | (simp_all; done) | simp))

@[simp] theorem State.setRole_base (s : State) (new cause : Nat) : (State.setRole s new cause).base = s.base := by simp [State.setRole]

@[simp] theorem State.sendRelinquish_base (s : State) : (State.sendRelinquish s).base = s.base := by simp [State.sendRelinquish]

@[simp] theorem State.relinquish_base (s : State) (cause : Nat) : (State.relinquish s cause).base = s.base := by simp [State.relinquish]

@[simp] theorem State.becomeActive_base (s : State) (cause : Nat) : (State.becomeActive s cause).base = s.base := by simp [State.becomeActive]

@[simp] theorem State.endSwap_base (s : State) (status : Nat) : (State.endSwap s status).base = s.base := by simp [State.endSwap]

@[simp] theorem State.drainStart_base (s : State) : (State.drainStart s).base = s.base := by simp [State.drainStart]

@[simp] theorem State.fixedClash_base (s : State) (rank fixed : Nat) : (State.fixedClash s rank fixed).base = s.base := by simp [State.fixedClash]

@[simp] theorem State.swapAsked_base (s : State) (rank fixed : Nat) : (State.swapAsked s rank fixed).base = s.base := by simp [State.swapAsked]

@[simp] theorem State.hbAct_base (s : State) (role flags rank fixed : Nat) :
    (State.hbAct s role flags rank fixed).base = s.base := by simp [State.hbAct]

@[simp] theorem State.pathUp_base (s : State) (pon : Bool) : (State.pathUp s pon).base = s.base := by simp [State.pathUp]

@[simp] theorem State.hbRx_base (s : State) (pon : Bool) (b : List Byte) : (State.hbRx s pon b).base = s.base := by simp [State.hbRx]

@[simp] theorem State.dropSealed_base (s : State) : (State.dropSealed s).base = s.base := by simp [State.dropSealed]

@[simp] theorem pairJoin_base (p : List Byte) (s : State) : (pairJoin p s).st.base = s.base := by
  unfold pairJoin
  dsimp only
  repeat' (first | (simp; done) | split)

@[simp] theorem pairLeave_base (s : State) : (pairLeave s).st.base = s.base := by unfold pairLeave; split <;> simp

@[simp] theorem pairConfigCmd_tame  : (pairConfigCmd).Tame := ⟨fun _ _ => rfl, fun _ _ _ => by
  unfold pairConfigCmd
  dsimp only
  repeat' (first | (simp; done) | split)⟩

@[simp] theorem pairRole_base (action : Nat) (s : State) : (pairRole action s).st.base = s.base := by
  unfold pairRole
  dsimp only
  repeat' (first | (simp; done) | split)

@[simp] theorem pairRoleCmd_tame  : (pairRoleCmd).Tame := ⟨fun _ _ => rfl, fun _ _ _ => by simp [pairRoleCmd]⟩

/-! ### Zeroise.lean -/

@[simp] theorem State.keyStalled_base (s : State) (ch v i : Nat) : (State.keyStalled s ch v i).base = s.base := by simp [State.keyStalled]

@[simp] theorem State.newPonKey_base (s : State) (u v i : Nat) (out : List Byte) : (State.newPonKey s u v i out).base = s.base := by simp [State.newPonKey]

@[simp] theorem State.rankFallback_base (s : State) : (State.rankFallback s).base = s.base := by simp [State.rankFallback]

@[simp] theorem State.rngFallback_base (s : State) (u : RngFor) : (State.rngFallback s u).base = s.base := by
  unfold State.rngFallback
  try dsimp only
  first
    | (simp; done)
    | (repeat' (first | (simp; done) | (refine (State.rngGate_base _ _ _ _ _ fun _ _ => ?_).trans ?_) | (refine (issueTable_base _ _ fun _ => ?_).trans ?_) | split | (refine (foldl_base (fun _ _ => ?_) _ _).trans ?_) | (refine of_snd ‹_ = (_, _)› ?_) | (refine of_fst ‹_ = (_, _)› ?_) | (simp only [*]; done) | (refine of_snd ‹_ = _› ?_) | (refine of_fst ‹_ = _› ?_) | (simp_all; done) | simp))

@[simp] theorem State.innerFail_base (s : State) : (State.innerFail s).base = s.base := by simp [State.innerFail]

@[simp] theorem State.serveInner_base (s : State) (x : Inner) : (State.serveInner s x).base = s.base := by
  unfold State.serveInner
  try dsimp only
  first
    | (simp; done)
    | (repeat' (first | (simp; done) | (refine (State.rngGate_base _ _ _ _ _ fun _ _ => ?_).trans ?_) | (refine (issueTable_base _ _ fun _ => ?_).trans ?_) | split | (refine (foldl_base (fun _ _ => ?_) _ _).trans ?_) | (refine of_snd ‹_ = (_, _)› ?_) | (refine of_fst ‹_ = (_, _)› ?_) | (simp only [*]; done) | (refine of_snd ‹_ = _› ?_) | (refine of_fst ‹_ = _› ?_) | (simp_all; done) | simp))

@[simp] theorem State.askInner_base (s : State) (u : RngFor) : (State.askInner s u).base = s.base := by simp [State.askInner]

@[simp] theorem State.rngStart_base (s : State) : (State.rngStart s).base = s.base := by simp [State.rngStart]

@[simp] theorem State.fillWait_base (s : State) (w : Wait) : (s.fillWait w).base = s.base := by
  unfold State.fillWait
  split
  · split
    · simp [State.generate_base ‹_›]
    · rfl
  · rfl

@[simp] theorem State.fillInner_base (s : State) (x : Inner) : (s.fillInner x).base = s.base := by
  unfold State.fillInner
  split
  · rfl
  split
  · simp [State.generate_base ‹_›]
  · rfl

@[simp] theorem State.rngFill_base (s : State) : (State.rngFill s).base = s.base := by simp [State.rngFill]

@[simp] theorem State.rngPass_base (s : State) : (State.rngPass s).base = s.base := by simp [State.rngPass]

@[simp] theorem State.rngFail_base (s : State) (test : Nat) : (State.rngFail s test).base = s.base := by simp [State.rngFail]

@[simp] theorem State.rngStop_base (s : State) : (State.rngStop s).base = s.base := by simp [State.rngStop]

@[simp] theorem State.rngOn_base (s : State) : (State.rngOn s).base = s.base := by simp [State.rngOn]

@[simp] theorem State.drawRank_base (s : State) : (State.drawRank s).base = s.base := by simp [State.drawRank]

@[simp] theorem rngReadCmd_tame (rel : Release) : (rngReadCmd rel).Tame :=
  ⟨fun _ _ => rfl, fun _ _ _ => State.rngGate_base _ _ _ _ _ fun _ _ => rfl⟩

@[simp] theorem rngRestartCmd_tame  : (rngRestartCmd).Tame := ⟨fun _ _ => rfl, fun _ _ _ => by
  unfold rngRestartCmd
  dsimp only
  repeat' (first | (simp; done) | split)⟩

@[simp] theorem State.zeroMsg_base (s : State) (m : Msg) : (State.zeroMsg s m).base = s.base := by simp [State.zeroMsg]

@[simp] theorem State.zeroAgain_base (s : State) (ctx : Nat) : (State.zeroAgain s ctx).base = s.base := by simp [State.zeroAgain]

@[simp] theorem State.zeroRun_base (s : State) (w : Wait) : (State.zeroRun s w).base = s.base := by
  unfold State.zeroRun
  try dsimp only
  first
    | (simp; done)
    | (repeat' (first | (simp; done) | (refine (State.rngGate_base _ _ _ _ _ fun _ _ => ?_).trans ?_) | (refine (issueTable_base _ _ fun _ => ?_).trans ?_) | split | (refine (foldl_base (fun _ _ => ?_) _ _).trans ?_) | (refine of_snd ‹_ = (_, _)› ?_) | (refine of_fst ‹_ = (_, _)› ?_) | (simp only [*]; done) | (refine of_snd ‹_ = _› ?_) | (refine of_fst ‹_ = _› ?_) | (simp_all; done) | simp))

@[simp] theorem State.clearKeys_base (s : State) (keepMaint : Bool) : (State.clearKeys s keepMaint).base = s.base := by simp [State.clearKeys]

@[simp] theorem State.zeroise_base (s : State) (sources : Nat) (verified : Bool) (keep : Option Nat) :
    (State.zeroise s sources verified keep).base = s.base := by simp [State.zeroise]

@[simp] theorem zeroizeCmd_tame (verified : Bool) : (zeroizeCmd verified).Tame := ⟨fun _ _ => rfl, fun _ _ _ => by simp [zeroizeCmd]⟩

@[simp] theorem State.grant_base (s : State) (id : Nat) (x : Session) (zeroA verified : Bool) :
    (State.grant s id x zeroA verified).st.base = s.base := by simp [State.grant]

@[simp] theorem sessionAuthCmd_tame (verified : Bool) : (sessionAuthCmd verified).Tame := ⟨fun _ _ => rfl, fun _ _ _ => by
  unfold sessionAuthCmd
  dsimp only
  repeat' (first | (simp; done) | split)⟩

/-! ### KeyControl.lean -/

@[simp] theorem State.confirmKey_base (s : State) (v i : Nat) : (State.confirmKey s v i).base = s.base := by simp [State.confirmKey]

@[simp] theorem State.wsCheckCh_base (s : State) (ch : Nat) : (State.wsCheckCh s ch).base = s.base := by simp [State.wsCheckCh]

@[simp] theorem State.wsCheck_base (s : State) : (State.wsCheck s).base = s.base := by simp [State.wsCheck]

@[simp] theorem State.wsTraffic_base (s : State) (ch : Nat) : (State.wsTraffic s ch).base = s.base := by simp [State.wsTraffic]

/-! ### OpenIn.lean -/

theorem State.openNow_base {s t : State} {ch : Nat} {x : HeldSdu} (h : s.openNow ch x = some t) : t.base = s.base := by
  unfold State.openNow at h
  split at h
  · cases h
  rename_i k
  have k := State.allocPages_base k
  split at h
  · rename_i k1
    cases h
    exact (of_snd k1 (State.newCrypto_base _ _)).trans k
  · cases h

@[simp] theorem State.stageSdu_base (s : State) (ch : Nat) (x : HeldSdu) : (State.stageSdu s ch x).base = s.base := by simp [State.stageSdu]

@[simp] theorem State.toOpen_base (s : State) (ch vt : Nat) (b : List Byte) : (s.toOpen ch vt b).base = s.base := by
  unfold State.toOpen
  dsimp only
  split
  · rename_i h
    split at h
    · cases h
    · exact State.openNow_base h
  · simp

@[simp] theorem State.drainList_base (s : State) (ch : Nat) (circ : Bool) (xs : List HeldSdu) : (s.drainList ch circ xs).2.base = s.base := by
  induction xs generalizing s circ with
  | nil => rfl
  | cons x xs ih =>
    unfold State.drainList
    dsimp only
    split
    · exact ih s circ
    split
    · rename_i h
      rw [ih]; exact State.openNow_base h
    · split
      · rfl
      · exact ih s true

@[simp] theorem State.drainStage_base (s : State) (ch : Nat) : (s.drainStage ch).base = s.base := by simp [State.drainStage]

@[simp] theorem State.drainStages_base (s : State) : (State.drainStages s).base = s.base := by simp [State.drainStages]

@[simp] theorem State.sdu_base (s : State) (ch : Nat) (p : Port) (b : List Byte) : (State.sdu s ch p b).base = s.base := by simp [State.sdu]

@[simp] theorem State.collect_base (s : State) (ch port : Nat) (p : Port) (last : Bool) (b : List Byte) :
    (State.collect s ch port p last b).base = s.base := by simp [State.collect]

@[simp] theorem State.dropPartial_base (s : State) (ch port : Nat) : (State.dropPartial s ch port).base = s.base := by simp [State.dropPartial]

@[simp] theorem State.takeRun_base (s : State) (gi : Nat) (run : List DnFrag) (next : Nat) :
    (State.takeRun s gi run next).base = s.base := by simp [State.takeRun]

@[simp] theorem State.deliver_base (s : State) (gi n : Nat) : (s.deliver gi n).base = s.base := by
  induction n generalizing s with
  | zero => rfl
  | succ n ih =>
    unfold State.deliver
    dsimp only
    repeat' (first | (simp [ih]; done) | split)

@[simp] theorem State.fixGap_base (s : State) (gi : Nat) : (State.fixGap s gi).base = s.base := by simp [State.fixGap]

@[simp] theorem State.skipGap_base (s : State) (gi : Nat) : (State.skipGap s gi).2.base = s.base := by
  unfold State.skipGap
  dsimp only
  repeat' (first | (simp; done) | split)

@[simp] theorem State.makeRoom_base (s : State) (gi k n : Nat) : (s.makeRoom gi k n).base = s.base := by
  induction n generalizing s with
  | zero => rfl
  | succ n ih =>
    unfold State.makeRoom
    dsimp only
    repeat' (first | (simp [ih]; done) | split)

@[simp] theorem State.holdIn_base (s : State) (gi : Nat) (g : Group) (next : Nat) (frag : DnFrag) : (State.holdIn s gi g next frag).base = s.base := by simp [State.holdIn]

theorem State.takeFrag_base {s t : State} {gi : Nat} {g : Group} {f : DnFrag} (h : s.takeFrag gi g f = some t) : t.base = s.base := by
  unfold State.takeFrag at h
  split at h
  · cases h; simp
  · obtain ⟨x, k, rfl⟩ := Option.map_eq_some_iff.mp h
    simp [State.allocPages_base k]

end Sys2Proof.Machine
end

