-- ==== Sys2Proof/Laws/BaseTraffic.lean ====
section
/-! SUPPORT. Laws of what the scheduler, TDM, classifier, lane and MAC operations leave (see `State.base`). -/

namespace Sys2Proof.Machine

/-! ### SchedRows.lean -/

@[simp] theorem State.takeReady_base (s : State) (t : JobTaker) : (State.takeReady s t).base = s.base := by unfold State.takeReady; split <;> simp

@[simp] theorem State.modSched_base (s : State) (f : Sched → Sched) : (State.modSched s f).base = s.base := by simp [State.modSched]

@[simp] theorem queueSetCmd_tame  : (queueSetCmd).Tame := ⟨fun _ _ => rfl, fun _ _ _ => by
  unfold queueSetCmd
  dsimp only
  repeat' (first | (simp; done) | split)⟩

@[simp] theorem nodeSetCmd_tame  : (nodeSetCmd).Tame := ⟨fun _ _ => rfl, fun _ _ _ => by
  unfold nodeSetCmd
  dsimp only
  repeat' (first | (simp; done) | split)⟩

@[simp] theorem shaperSetCmd_tame  : (shaperSetCmd).Tame := ⟨fun _ _ => rfl, fun _ _ _ => by
  unfold shaperSetCmd
  dsimp only
  repeat' (first | (simp; done) | split)⟩

@[simp] theorem policerSetCmd_tame  : (policerSetCmd).Tame := ⟨fun _ _ => rfl, fun _ _ _ => by
  unfold policerSetCmd
  dsimp only
  repeat' (first | (simp; done) | split)⟩

@[simp] theorem queueStatsCmd_tame  : (queueStatsCmd).Tame := ⟨fun _ _ => rfl, fun _ _ _ => by simp [queueStatsCmd]⟩

@[simp] theorem nodeQueryCmd_tame  : (nodeQueryCmd).Tame := ⟨fun _ _ => rfl, fun _ _ _ => by simp [nodeQueryCmd]⟩

/-! ### TdmPages.lean -/

@[simp] theorem tdmStructCmd_tame  : (tdmStructCmd).Tame := ⟨fun _ _ => rfl, fun _ _ _ => by
  unfold tdmStructCmd
  dsimp only
  repeat' (first | (simp; done) | split)⟩

@[simp] theorem tsiConnect_base (p : List Byte) (s : State) : (tsiConnect p s).st.base = s.base := by
  unfold tsiConnect
  dsimp only
  repeat' (first | (simp; done) | split)

@[simp] theorem tsiConnectCmd_tame  : (tsiConnectCmd).Tame := ⟨fun _ _ => rfl, fun _ _ _ => by
  unfold tsiConnectCmd
  dsimp only
  repeat' (first | (simp; done) | split)⟩

@[simp] theorem tsiReadCmd_tame  : (tsiReadCmd).Tame := ⟨fun _ _ => rfl, fun _ _ _ => by simp [tsiReadCmd]⟩

@[simp] theorem State.playoutJob_base (s : State) (c : Nat) : (State.playoutJob s c).2.base = s.base := by
  unfold State.playoutJob
  try dsimp only
  first
    | (simp; done)
    |(repeat' (first | (simp; done) | split | (refine (foldl_base (fun _ _ => ?_) _ _).trans ?_) | (refine of_snd ‹_ = (_, _)› ?_) | (refine of_fst ‹_ = (_, _)› ?_) | (simp only [*]; done) | (simp_all; done) | simp))

@[simp] theorem State.dropPlayout_base (s : State) (c : Nat) : (State.dropPlayout s c).base = s.base := by
  unfold State.dropPlayout
  repeat' (first | (simp; done) | split)

@[simp] theorem circuitRemove_base (c : Nat) (s : State) : (circuitRemove c s).st.base = s.base := by unfold circuitRemove; split <;> simp

@[simp] theorem circuitCreate_base (c : Nat) (x : Circ) (s : State) : (circuitCreate c x s).st.base = s.base := by
  unfold circuitCreate
  try dsimp only
  first
    | (simp; done)
    |(repeat' (first | (simp; done) | split | (refine (foldl_base (fun _ _ => ?_) _ _).trans ?_) | (refine of_snd ‹_ = (_, _)› ?_) | (refine of_fst ‹_ = (_, _)› ?_) | (simp only [*]; done) | (simp_all; done) | simp))

@[simp] theorem circuitSetCmd_tame  : (circuitSetCmd).Tame := ⟨fun _ _ => rfl, fun _ _ _ => by
  unfold circuitSetCmd
  dsimp only
  repeat' (first | (simp; done) | split)⟩

@[simp] theorem tsiSpliceCmd_tame  : (tsiSpliceCmd).Tame := ⟨fun _ _ => rfl, fun _ _ _ => by
  unfold tsiSpliceCmd
  dsimp only
  repeat' (first | (simp; done) | split)⟩

@[simp] theorem State.spliceCirc_base (s : State) (c : Nat) (before after : Option Circ) :
    (State.spliceCirc s c before after).base = s.base := by unfold State.spliceCirc; split <;> simp

@[simp] theorem State.freshGens_base (s : State) (old new : TdmPage) : (State.freshGens s old new).base = s.base := by simp [State.freshGens]

@[simp] theorem State.freshPtrs_base (s : State) (old new : TdmPage) : (State.freshPtrs s old new).base = s.base := by simp [State.freshPtrs]

@[simp] theorem State.dropMons_base (s : State) (old : TdmPage) : (State.dropMons s old).base = s.base := by simp [State.dropMons]

@[simp] theorem State.swapPages_base (s : State) (source : Nat) (reply : State → State) (h : ∀ u, (reply u).base = u.base) :
    (s.swapPages source reply).base = s.base := by
  unfold State.swapPages
  dsimp only
  rw [State.dropMons_base, State.freshPtrs_base, State.freshGens_base, foldl_base fun _ _ => State.spliceCirc_base _ _ _ _, State.cue_base, h]
  simp

@[simp] theorem State.copyDone_base (s : State) : (State.copyDone s).base = s.base := by simp [State.copyDone]

/-! ### Sdh.lean -/

@[simp] theorem State.setMon_base (s : State) (ent : Nat) (m : PmMon) : (State.setMon s ent m).base = s.base := by simp [State.setMon]

@[simp] theorem State.pmSuspect_base (s : State) (p : Nat → Bool) : (State.pmSuspect s p).base = s.base := by simp [State.pmSuspect]

@[simp] theorem State.defectCue_base (s : State) (ent code : Nat) (on : Bool) :
    (State.defectCue s ent code on).base = s.base := by simp [State.defectCue]

@[simp] theorem State.defect_base (s : State) (ent code : Nat) (was on : Bool) :
    (State.defect s ent code was on).base = s.base := by simp [State.defect]

@[simp] theorem State.countJust_base (s : State) (ent : Nat) (just : Int) : (State.countJust s ent just).base = s.base := by simp [State.countJust]

@[simp] theorem State.countBlock_base (s : State) (ent : Nat) (errored defect : Bool) :
    (State.countBlock s ent errored defect).base = s.base := by simp [State.countBlock]

@[simp] theorem State.noteDefects_base (s : State) (lane : Nat) : (State.noteDefects s lane).base = s.base := by simp [State.noteDefects]

@[simp] theorem State.auPtr_base (s : State) (lane au : Nat) (w : PtrWord) (whole : Bool) (members : Nat) :
    (State.auPtr s lane au w whole members).base = s.base := by simp [State.auPtr]

@[simp] theorem State.auPtrs_base (s : State) (lane : Nat) (ws : List PtrWord) : (State.auPtrs s lane ws).base = s.base := by simp [State.auPtrs]

@[simp] theorem State.tuPtr_base (s : State) (slot : Nat) (w : PtrWord) : (State.tuPtr s slot w).base = s.base := by simp [State.tuPtr]

@[simp] theorem State.h4_base (s : State) (lane : Nat) (x : Nat × Bool) : (State.h4 s lane x).base = s.base := by simp [State.h4]

@[simp] theorem State.pathIn_base (s : State) (x : PathIn) : (State.pathIn s x).base = s.base := by simp [State.pathIn]

@[simp] theorem State.sfBit_base (s : State) (lane : Nat) (f : Fld) (i : Nat) (on : Bool) :
    (State.sfBit s lane f i on).base = s.base := by simp [State.sfBit]

@[simp] theorem State.sfDefect_base (s : State) (lane : Nat) (f : Fld) (i ent code : Nat) (on : Bool) :
    (State.sfDefect s lane f i ent code on).base = s.base := by simp [State.sfDefect]

@[simp] theorem State.setMsg16_base (s : State) (e : Nat) (f : Fld) (b : List Byte) :
    (State.setMsg16 s e f b).base = s.base := by simp [State.setMsg16]

@[simp] theorem State.takeJ0_base (s : State) (lane : Nat) (j0 : Option (List Byte)) :
    (State.takeJ0 s lane j0).base = s.base := by unfold State.takeJ0; split <;> simp

@[simp] theorem State.takeK2S1_base (s : State) (lane : Nat) (k2 : BitVec 3) (s1 : Nat) :
    (State.takeK2S1 s lane k2 s1).base = s.base := by simp [State.takeK2S1]

@[simp] theorem State.takeA1A2_base (s : State) (lane : Nat) (ok : Bool) : (State.takeA1A2 s lane ok).base = s.base := by simp [State.takeA1A2]

@[simp] theorem State.sdhFrame_base (s : State) (lane : Nat) (f : SdhIn) : (State.sdhFrame s lane f).base = s.base := by simp [State.sdhFrame]

@[simp] theorem State.sdhBlind_base (s : State) (lane : Nat) : (State.sdhBlind s lane).base = s.base := by simp [State.sdhBlind]

@[simp] theorem State.sdhLos_base (s : State) (lane : Nat) (on : Bool) : (State.sdhLos s lane on).base = s.base := by simp [State.sdhLos]

@[simp] theorem State.clearSdh_base (s : State) (l : Nat) : (State.clearSdh s l).base = s.base := by simp [State.clearSdh]

@[simp] theorem State.buildPath_base (s : State) (lane au : Nat) : (State.buildPath s lane au).base = s.base := by simp [State.buildPath]

@[simp] theorem State.sendPath_base (s : State) (lane : Nat) (p : PathOut) :
    (State.sendPath s lane p).base = s.base := by unfold State.sendPath; split <;> simp

@[simp] theorem State.sendSection_base (s : State) (lane : Nat) : (State.sendSection s lane).base = s.base := by simp [State.sendSection]

/-! ### Circuits.lean -/

@[simp] theorem State.sealCirc_base (s : State) (c : Nat) (x : Circ) (frame : List Byte) : (s.sealCirc c x frame).base = s.base := by
  unfold State.sealCirc
  dsimp only
  split
  · exact of_snd ‹_› (State.underLimit_base _ _ _)
  · have h := of_snd ‹_› (State.underLimit_base _ _ _)
    split
    · simp [h]
    · have h1 := State.allocPages_base ‹_›
      dsimp only at h1
      split
      · simp [of_snd ‹_› (State.newCrypto_base _ _), h1, h]
      · simp [of_snd ‹_› (State.newCrypto_base _ _), h1, h]

@[simp] theorem State.rearmPlayout_base (s : State) (c : Nat) (x : Circ) : (State.rearmPlayout s c x).base = s.base := by
  unfold State.rearmPlayout
  dsimp only
  repeat' (first | (simp; done) | split)

@[simp] theorem State.retakePlayout_base (s : State) : (State.retakePlayout s).base = s.base := by
  unfold State.retakePlayout
  try dsimp only
  first
    | (simp; done)
    | (repeat' (first | (simp; done) | (refine (State.rngGate_base _ _ _ _ _ fun _ _ => ?_).trans ?_) | (refine (issueTable_base _ _ fun _ => ?_).trans ?_) | split | (refine (foldl_base (fun _ _ => ?_) _ _).trans ?_) | (refine of_snd ‹_ = (_, _)› ?_) | (refine of_fst ‹_ = (_, _)› ?_) | (simp only [*]; done) | (refine of_snd ‹_ = _› ?_) | (refine of_fst ‹_ = _› ?_) | (simp_all; done) | simp))

@[simp] theorem State.acquire_base (s : State) (c : Nat) (x : Circ) (seq : Nat) (p : HeldPkt) :
    (State.acquire s c x seq p).base = s.base := by simp [State.acquire]

@[simp] theorem State.place_base (s : State) (c : Nat) (x : Circ) (seq : Nat) (p : HeldPkt) :
    (State.place s c x seq p).base = s.base := by simp [State.place]

@[simp] theorem State.circPacket_base (s : State) (sa : Nat) (b : List Byte) : (State.circPacket s sa b).base = s.base := by
  unfold State.circPacket
  dsimp only
  repeat' (first | (simp; done) | split)

@[simp] theorem State.playout_base (s : State) (c : Nat) (x : Circ) : (State.playout s c x).base = s.base := by
  unfold State.playout
  dsimp only
  repeat' (first | (simp; done) | split)

@[simp] theorem circuitQueryCmd_tame  : (circuitQueryCmd).Tame := ⟨fun _ _ => rfl, fun _ _ _ => by
  unfold circuitQueryCmd
  dsimp only
  repeat' (first | (simp; done) | split)⟩

/-! ### Pm.lean -/

@[simp] theorem State.tcaCue_base (s : State) (ent start i : Nat) : (State.tcaCue s ent start i).base = s.base := by simp [State.tcaCue]

@[simp] theorem State.addSecond_base (s : State) (ent : Nat) (m : PmMon) (x : PmSec) (unavail : Bool) :
    (State.addSecond s ent m x unavail).base = s.base := by
  unfold State.addSecond
  dsimp only
  repeat' (first | (simp; done) | split)

@[simp] theorem State.endSecond_base (s : State) (sec ent : Nat) : (State.endSecond s sec ent).base = s.base := by
  unfold State.endSecond
  dsimp only
  repeat' (first | (simp; done) | split)

@[simp] theorem State.pmStep_base (s : State) : (State.pmStep s).base = s.base := by simp [State.pmStep]

@[simp] theorem pmConfig_base (ent : Nat) (p : List Byte) (s : State) : (pmConfig ent p s).st.base = s.base := by
  unfold pmConfig
  dsimp only
  repeat' (first | (simp; done) | split)

@[simp] theorem pmConfigCmd_tame  : (pmConfigCmd).Tame := ⟨fun _ _ => rfl, fun _ _ _ => by simp [pmConfigCmd]⟩

@[simp] theorem pmReadCmd_tame  : (pmReadCmd).Tame := ⟨fun _ _ => rfl, fun _ _ _ => by
  unfold pmReadCmd
  dsimp only
  repeat' (first | (simp; done) | split)⟩

/-! ### Classify.lean -/

@[simp] theorem State.modCls_base (s : State) (f : Cls → Cls) : (State.modCls s f).base = s.base := by simp [State.modCls]

@[simp] theorem State.noteHit_base (s : State) (a : Option FlowAt) : (State.noteHit s a).base = s.base := by unfold State.noteHit; split <;> simp

@[simp] theorem State.runTable_base (s : State) (t : Nat) (k : KeySrc) : (State.runTable s t k).2.2.base = s.base := by
  unfold State.runTable
  dsimp only
  repeat' (first | (simp; done) | split)

@[simp] theorem State.chain_base (s : State) (k : KeySrc) (n t : Nat) : (s.chain k n t).2.base = s.base := by
  induction n generalizing s k t with
  | zero => rfl
  | succ n ih =>
    unfold State.chain
    split
    · rfl
    split
    · simp [ih]
    · simp [ih]

/-! ### Actions.lean -/

@[simp] theorem State.countPair_base (s : State) (i len : Nat) : (State.countPair s i len).base = s.base := by simp [State.countPair]

@[simp] theorem State.meter_base (s : State) (i len : Nat) : (State.meter s i len).2.base = s.base := by unfold State.meter; split <;> simp

@[simp] theorem Au.special_base (u : Au) (w pc len : Nat) (addr : BitVec 64) (s : State) : (Au.special u w pc len addr s).2.2.base = s.base := by
  unfold Au.special
  dsimp only
  repeat' (first | (simp; done) | split)

@[simp] theorem Au.step_base (u : Au) (k : KeySrc) (trap : Bool) (len w pc : Nat) (s : State) : (Au.step u k trap len w pc s).2.2.base = s.base := by
  unfold Au.step
  dsimp only
  repeat' (first | (simp; done) | split)

@[simp] theorem Au.run_base (k : KeySrc) (p : Prog) (len n pc : Nat) (u : Au) (s : State) : (Au.run k p len n pc u s).2.2.2.base = s.base := by
  induction n generalizing pc u s with
  | zero => rfl
  | succ n ih =>
    unfold Au.run
    split
    · rfl
    · rename_i w _
      have h := Au.step_base u k p.trap len w pc s
      split <;> rename_i e <;> rw [e] at h
      · exact h
      · rw [ih]; exact h

@[simp] theorem State.pushExc_base (s : State) (r : List Byte) : (State.pushExc s r).base = s.base := by simp [State.pushExc]

/-! ### Settle.lean -/

@[simp] theorem State.dropFrame_base (s : State) (p : Passage) : (State.dropFrame s p).base = s.base := by unfold State.dropFrame; split <;> simp

@[simp] theorem State.issueSeal_base (s : State) (p : Passage) (ctx : Nat) (pages : List Nat) (cost : Nat) :
    (State.issueSeal s p ctx pages cost).base = s.base := by simp [State.issueSeal]

@[simp] theorem State.sealUp_base (s : State) (p : Passage) : (s.sealUp p).base = s.base := by
  unfold State.sealUp
  dsimp only
  split
  · simp [of_snd ‹_› (State.underLimit_base _ _ _)]
  · have h := of_snd ‹_› (State.underLimit_base _ _ _)
    split
    · simp [of_snd ‹_› (State.police_base _ _ _), h]
    · have h1 := of_snd ‹_› (State.police_base _ _ _)
      split
      · have h2 := State.allocPages_base ‹_›
        simp_all
      · simp [h1, h]

@[simp] theorem State.settleFrame_base (s : State) (p : Passage) : (State.settleFrame s p).base = s.base := by
  unfold State.settleFrame
  dsimp only
  repeat' (first | (simp; done) | split)

@[simp] theorem State.countParse_base (s : State) (p : Parse) : (State.countParse s p).base = s.base := by unfold State.countParse; split <;> simp

@[simp] theorem State.classify_base (s : State) (x : ClsIn) (ctx : Option Nat) : (State.classify s x ctx).base = s.base := by simp [State.classify]

@[simp] theorem State.classifyUp_base (s : State) : (State.classifyUp s).base = s.base := by
  unfold State.classifyUp
  try dsimp only
  first
    | (simp; done)
    |(repeat' (first | (simp; done) | split | (refine (foldl_base (fun _ _ => ?_) _ _).trans ?_) | (refine of_snd ‹_ = (_, _)› ?_) | (refine of_fst ‹_ = (_, _)› ?_) | (simp only [*]; done) | (simp_all; done) | simp))

@[simp] theorem State.excAll_base (s : State) (details : List Nat) (unit pc : Nat) (down : Bool) (k : KeySrc) :
    (State.excAll s details unit pc down k).base = s.base := by simp [State.excAll]

@[simp] theorem State.progDone_base (s : State) (e : Nat) (x : ProgIn) (k : KeySrc) (u : Au) (how : AuEnd) (pc : Nat) :
    (State.progDone s e x k u how pc).base = s.base := by
  unfold State.progDone
  dsimp only
  repeat' (first | (simp; done) | split)

/-! ### ClassRows.lean -/

@[simp] theorem tableConfig_base (p : List Byte) (s : State) : (tableConfig p s).st.base = s.base := by
  unfold tableConfig
  try dsimp only
  first
    | (simp; done)
    | (repeat' (first | (simp; done) | (refine (State.rngGate_base _ _ _ _ _ fun _ _ => ?_).trans ?_) | (refine (issueTable_base _ _ fun _ => ?_).trans ?_) | split | (refine (foldl_base (fun _ _ => ?_) _ _).trans ?_) | (refine of_snd ‹_ = (_, _)› ?_) | (refine of_fst ‹_ = (_, _)› ?_) | (simp only [*]; done) | (refine of_snd ‹_ = _› ?_) | (refine of_fst ‹_ = _› ?_) | (simp_all; done) | simp))

@[simp] theorem tableConfigCmd_tame  : (tableConfigCmd).Tame := ⟨fun _ _ => rfl, fun _ _ _ => by
  unfold tableConfigCmd
  try dsimp only
  first
    | (simp; done)
    | (repeat' (first | (simp; done) | (refine (State.rngGate_base _ _ _ _ _ fun _ _ => ?_).trans ?_) | (refine (issueTable_base _ _ fun _ => ?_).trans ?_) | split | (refine (foldl_base (fun _ _ => ?_) _ _).trans ?_) | (refine of_snd ‹_ = (_, _)› ?_) | (refine of_fst ‹_ = (_, _)› ?_) | (simp only [*]; done) | (refine of_snd ‹_ = _› ?_) | (refine of_fst ‹_ = _› ?_) | (simp_all; done) | simp))⟩

@[simp] theorem State.noteStash_base (s : State) : (State.noteStash s).base = s.base := by simp [State.noteStash]

@[simp] theorem State.flowFull_base (s : State) (table : Nat) (txn : Bool) : (State.flowFull s table txn).base = s.base := by simp [State.flowFull]

theorem State.flowPut_base {s : State} {x : FlowE} {y : FlowAt × State} (h : s.flowPut x = some y) : y.2.base = s.base := by
  unfold State.flowPut at h
  split at h
  · cases h; simp
  · obtain ⟨i, -, rfl⟩ := Option.map_eq_some_iff.mp h
    simp

@[simp] theorem flowAdd_base (txn : Bool) (p : List Byte) (s : State) : (flowAdd txn p s).st.base = s.base := by
  unfold flowAdd
  dsimp only
  repeat' (first | (simp; done) | exact State.flowPut_base ‹_› | split)

@[simp] theorem flowAddCmd_tame  : (flowAddCmd).Tame := ⟨fun _ _ => rfl, fun _ _ _ => by
  unfold flowAddCmd
  try dsimp only
  first
    | (simp; done)
    | (repeat' (first | (simp; done) | (refine (State.rngGate_base _ _ _ _ _ fun _ _ => ?_).trans ?_) | (refine (issueTable_base _ _ fun _ => ?_).trans ?_) | split | (refine (foldl_base (fun _ _ => ?_) _ _).trans ?_) | (refine of_snd ‹_ = (_, _)› ?_) | (refine of_fst ‹_ = (_, _)› ?_) | (simp only [*]; done) | (refine of_snd ‹_ = _› ?_) | (refine of_fst ‹_ = _› ?_) | (simp_all; done) | simp))⟩

@[simp] theorem State.flowDrop_base (s : State) (a : FlowAt) (x : FlowE) : (State.flowDrop s a x).base = s.base := by
  unfold State.flowDrop
  dsimp only
  repeat' (first | (simp; done) | split)

@[simp] theorem flowDel_base (p : List Byte) (s : State) : (flowDel p s).st.base = s.base := by
  unfold flowDel
  try dsimp only
  first
    | (simp; done)
    | (repeat' (first | (simp; done) | (refine (State.rngGate_base _ _ _ _ _ fun _ _ => ?_).trans ?_) | (refine (issueTable_base _ _ fun _ => ?_).trans ?_) | split | (refine (foldl_base (fun _ _ => ?_) _ _).trans ?_) | (refine of_snd ‹_ = (_, _)› ?_) | (refine of_fst ‹_ = (_, _)› ?_) | (simp only [*]; done) | (refine of_snd ‹_ = _› ?_) | (refine of_fst ‹_ = _› ?_) | (simp_all; done) | simp))

@[simp] theorem flowDelCmd_tame  : (flowDelCmd).Tame := ⟨fun _ _ => rfl, fun _ _ _ => by
  unfold flowDelCmd
  try dsimp only
  first
    | (simp; done)
    | (repeat' (first | (simp; done) | (refine (State.rngGate_base _ _ _ _ _ fun _ _ => ?_).trans ?_) | (refine (issueTable_base _ _ fun _ => ?_).trans ?_) | split | (refine (foldl_base (fun _ _ => ?_) _ _).trans ?_) | (refine of_snd ‹_ = (_, _)› ?_) | (refine of_fst ‹_ = (_, _)› ?_) | (simp only [*]; done) | (refine of_snd ‹_ = _› ?_) | (refine of_fst ‹_ = _› ?_) | (simp_all; done) | simp))⟩

@[simp] theorem flowReadCmd_tame  : (flowReadCmd).Tame := ⟨fun _ _ => rfl, fun _ _ _ => by
  unfold flowReadCmd
  dsimp only
  repeat' (first | (simp; done) | split)⟩

@[simp] theorem State.modTable_base (s : State) (t : Nat) (f : TableC → TableC) : (State.modTable s t f).base = s.base := by simp [State.modTable]

@[simp] theorem ruleSet_base (p : List Byte) (s : State) : (ruleSet p s).st.base = s.base := by
  unfold ruleSet
  dsimp only
  repeat' (first | (simp; done) | split)

@[simp] theorem ruleSetCmd_tame  : (ruleSetCmd).Tame := ⟨fun _ _ => rfl, fun _ _ _ => by
  unfold ruleSetCmd
  try dsimp only
  first
    | (simp; done)
    | (repeat' (first | (simp; done) | (refine (State.rngGate_base _ _ _ _ _ fun _ _ => ?_).trans ?_) | (refine (issueTable_base _ _ fun _ => ?_).trans ?_) | split | (refine (foldl_base (fun _ _ => ?_) _ _).trans ?_) | (refine of_snd ‹_ = (_, _)› ?_) | (refine of_fst ‹_ = (_, _)› ?_) | (simp only [*]; done) | (refine of_snd ‹_ = _› ?_) | (refine of_fst ‹_ = _› ?_) | (simp_all; done) | simp))⟩

@[simp] theorem State.spliceTable_base (s : State) (t : Nat) (txn : Bool) : (State.spliceTable s t txn).base = s.base := by simp [State.spliceTable]

@[simp] theorem tableSplice_base (t : Nat) (s : State) : (tableSplice t s).st.base = s.base := by
  unfold tableSplice
  try dsimp only
  first
    | (simp; done)
    | (repeat' (first | (simp; done) | (refine (State.rngGate_base _ _ _ _ _ fun _ _ => ?_).trans ?_) | (refine (issueTable_base _ _ fun _ => ?_).trans ?_) | split | (refine (foldl_base (fun _ _ => ?_) _ _).trans ?_) | (refine of_snd ‹_ = (_, _)› ?_) | (refine of_fst ‹_ = (_, _)› ?_) | (simp only [*]; done) | (refine of_snd ‹_ = _› ?_) | (refine of_fst ‹_ = _› ?_) | (simp_all; done) | simp))

@[simp] theorem tableSpliceCmd_tame  : (tableSpliceCmd).Tame := ⟨fun _ _ => rfl, fun _ _ _ => by
  unfold tableSpliceCmd
  try dsimp only
  first
    | (simp; done)
    | (repeat' (first | (simp; done) | (refine (State.rngGate_base _ _ _ _ _ fun _ _ => ?_).trans ?_) | (refine (issueTable_base _ _ fun _ => ?_).trans ?_) | split | (refine (foldl_base (fun _ _ => ?_) _ _).trans ?_) | (refine of_snd ‹_ = (_, _)› ?_) | (refine of_fst ‹_ = (_, _)› ?_) | (simp only [*]; done) | (refine of_snd ‹_ = _› ?_) | (refine of_fst ‹_ = _› ?_) | (simp_all; done) | simp))⟩

@[simp] theorem State.tableCopied_base (s : State) (t : Nat) : (State.tableCopied s t).base = s.base := by simp [State.tableCopied]

@[simp] theorem progLoadCmd_tame  : (progLoadCmd).Tame := ⟨fun _ _ => rfl, fun _ _ _ => by
  unfold progLoadCmd
  dsimp only
  repeat' (first | (simp; done) | split)⟩

@[simp] theorem meterSetCmd_tame  : (meterSetCmd).Tame := ⟨fun _ _ => rfl, fun _ _ _ => by simp [meterSetCmd]⟩

@[simp] theorem counterReadCmd_tame  : (counterReadCmd).Tame := ⟨fun _ _ => rfl, fun _ _ _ => by simp [counterReadCmd]⟩

@[simp] theorem excReadCmd_tame  : (excReadCmd).Tame := ⟨fun _ _ => rfl, fun _ _ _ => by simp [excReadCmd]⟩

/-! ### LaneBase.lean -/

@[simp] theorem State.linkCue_base (s : State) (l : Nat) (up : Bool) (cause : Nat) :
    (State.linkCue s l up cause).base = s.base := by simp [State.linkCue]

@[simp] theorem State.startLane_base (s : State) (l : Nat) : (State.startLane s l).base = s.base := by simp [State.startLane]

@[simp] theorem State.startGroup_base (s : State) (l : Nat) : (State.startGroup s l).base = s.base := by simp [State.startGroup]

@[simp] theorem State.linkUp_base (s : State) (l : Nat) : (State.linkUp s l).base = s.base := by simp [State.linkUp]

@[simp] theorem State.alignGone_base (s : State) (h : Nat) : (State.alignGone s h).base = s.base := by simp [State.alignGone]

@[simp] theorem State.syncGone_base (s : State) (l : Nat) : (State.syncGone s l).base = s.base := by simp [State.syncGone]

@[simp] theorem State.linkOff_base (s : State) (l cause : Nat) : (State.linkOff s l cause).base = s.base := by simp [State.linkOff]

@[simp] theorem State.linkAgain_base (s : State) (l cause : Nat) : (State.linkAgain s l cause).base = s.base := by simp [State.linkAgain]

@[simp] theorem State.linkLost_base (s : State) (l cause : Nat) : (State.linkLost s l cause).base = s.base := by
  unfold State.linkLost
  repeat' split
  all_goals simp

@[simp] theorem State.quadFail_base (s : State) (l : Nat) (mismatch : Bool) : (State.quadFail s l mismatch).base = s.base := by simp [State.quadFail]

@[simp] theorem State.endLoop_base (s : State) (l : Nat) : (State.endLoop s l).base = s.base := by simp [State.endLoop]

@[simp] theorem State.wearNow_base (s : State) (l : Nat) : (State.wearNow s l).base = s.base := by simp [State.wearNow]

@[simp] theorem State.setTrend_base (s : State) (l t : Nat) : (State.setTrend s l t).base = s.base := by simp [State.setTrend]

@[simp] theorem State.substCue_base (s : State) (l cause old new hit : Nat) :
    (State.substCue s l cause old new hit).base = s.base := by simp [State.substCue]

@[simp] theorem State.retireUnit_base (s : State) (u l : Nat) : (State.retireUnit s u l).base = s.base := by simp [State.retireUnit]

@[simp] theorem State.noUnit_base (s : State) (l cause : Nat) : (State.noUnit s l cause).base = s.base := by simp [State.noUnit]

theorem State.seekUnit_spare_base (l cause : Nat) (s : State) (go : State → Nat → Nat → State) (h : ∀ u v c, (go u v c).base = u.base) :
    (seekUnit.spare l cause s go).base = s.base := by
  unfold seekUnit.spare
  split
  · exact h _ _ _
  · simp

@[simp] theorem State.seekUnit_base (s : State) (l cause trend : Nat) : (s.seekUnit l cause trend).base = s.base := by
  unfold State.seekUnit
  dsimp only
  split
  · split
    · exact State.seekUnit_spare_base _ _ _ _ fun _ _ _ => by simp
    · simp
  · exact State.seekUnit_spare_base _ _ _ _ fun _ _ _ => by simp

@[simp] theorem State.laneFail_base (s : State) (l : Nat) : (State.laneFail s l).base = s.base := by
  unfold State.laneFail
  dsimp only
  repeat' (first | (simp; done) | split)

@[simp] theorem State.cutOver_base (s : State) (l u : Nat) (x : Subst) (hit : Nat) :
    (State.cutOver s l u x hit).base = s.base := by simp [State.cutOver]

@[simp] theorem State.freedCheck_base (s : State) (l u : Nat) (x : Subst) (pass : Bool) :
    (State.freedCheck s l u x pass).base = s.base := by simp [State.freedCheck]

@[simp] theorem State.trendFalls_base (s : State) (l : Nat) : (State.trendFalls s l).base = s.base := by simp [State.trendFalls]

/-! ### LaneRows.lean -/

@[simp] theorem State.sendPages_base (s : State) (l : Nat) : (State.sendPages s l).base = s.base := by simp [State.sendPages]

@[simp] theorem State.notePage_base (s : State) (l : Nat) (page : Option (BitVec 11)) :
    (State.notePage s l page).base = s.base := by unfold State.notePage; split <;> simp

@[simp] theorem State.memberReady_base (s : State) (l : Nat) : (State.memberReady s l).base = s.base := by simp [State.memberReady]

@[simp] theorem State.tryStep_base (s : State) (e : Nat) (t : TryStep) : (State.tryStep s e t).base = s.base := by simp [State.tryStep]

@[simp] theorem State.checkFailed_base (s : State) (l u : Nat) (x : Subst) : (State.checkFailed s l u x).base = s.base := by simp [State.checkFailed]

@[simp] theorem State.selfChecked_base (s : State) (u : Nat) (pass : Bool) (live hit : Nat) :
    (State.selfChecked s u pass live hit).base = s.base := by
  unfold State.selfChecked
  dsimp only
  repeat' (first | (simp; done) | split)

@[simp] theorem State.selfCheckRow_base (s : State) (unit : Fin 68) (errors : Word) (lock : Bool) (eye live : Eye) (hit : BitVec 16) : (State.selfCheckRow s unit errors lock eye live hit).base = s.base := by simp [State.selfCheckRow]

@[simp] theorem State.setMode_base (s : State) (l mode rate an member : Nat) :
    (State.setMode s l mode rate an member).base = s.base := by simp [State.setMode]

@[simp] theorem State.changeMode_base (s : State) (l mode rate an : Nat) :
    (State.changeMode s l mode rate an).base = s.base := by simp [State.changeMode]

@[simp] theorem laneMode_base (p : List Byte) (s : State) : (laneMode p s).st.base = s.base := by
  unfold laneMode
  dsimp only
  repeat' (first | (simp; done) | split)

@[simp] theorem laneModeCmd_tame  : (laneModeCmd).Tame := ⟨fun _ _ => rfl, fun _ _ _ => by simp [laneModeCmd]⟩

@[simp] theorem laneLoopCmd_tame  : (laneLoopCmd).Tame := ⟨fun _ _ => rfl, fun _ _ _ => by
  unfold laneLoopCmd
  dsimp only
  repeat' (first | (simp; done) | split)⟩

@[simp] theorem laneTest_base (t : Prbs) (p : List Byte) (s : State) : (laneTest t p s).st.base = s.base := by
  unfold laneTest
  dsimp only
  repeat' (first | (simp; done) | split)

@[simp] theorem laneTestCmd_tame (t : Prbs) : (laneTestCmd t).Tame := ⟨fun _ _ => rfl, fun _ _ _ => by simp [laneTestCmd]⟩

@[simp] theorem macSnapshotCmd_tame  : (macSnapshotCmd).Tame := ⟨fun _ _ => rfl, fun _ _ _ => by simp [macSnapshotCmd]⟩

/-! ### MacRows.lean -/

@[simp] theorem State.pushStamp_base (s : State) (x : StampEntry) : (State.pushStamp s x).base = s.base := by simp [State.pushStamp]

@[simp] theorem State.sendPtp_base (s : State) (l : Nat) (x : PtpOut) : (State.sendPtp s l x).base = s.base := by simp [State.sendPtp]

@[simp] theorem State.dropPtp_base (s : State) (l : Nat) (x : PtpOut) : (State.dropPtp s l x).base = s.base := by simp [State.dropPtp]

@[simp] theorem State.mgmtTx_base (s : State) : (State.mgmtTx s).base = s.base := by simp [State.mgmtTx]

@[simp] theorem State.macTx_base (s : State) (l : Nat) (abort : Bool) : (State.macTx s l abort).base = s.base := by
  unfold State.macTx
  try dsimp only
  first
    | (simp; done)
    | (repeat' (first | (simp; done) | (refine (State.rngGate_base _ _ _ _ _ fun _ _ => ?_).trans ?_) | (refine (issueTable_base _ _ fun _ => ?_).trans ?_) | split | (refine (foldl_base (fun _ _ => ?_) _ _).trans ?_) | (refine of_snd ‹_ = (_, _)› ?_) | (refine of_fst ‹_ = (_, _)› ?_) | (simp only [*]; done) | (refine of_snd ‹_ = _› ?_) | (refine of_fst ‹_ = _› ?_) | (simp_all; done) | simp))

@[simp] theorem State.pfcBit_base (s : State) (l p quanta : Nat) : (State.pfcBit s l p quanta).base = s.base := by simp [State.pfcBit]

@[simp] theorem State.pfcRx_base (s : State) (l : Nat) (b : List Byte) : (State.pfcRx s l b).base = s.base := by simp [State.pfcRx]

@[simp] theorem State.ptpRx_base (s : State) (l : Nat) (b : List Byte) (at_ : Nat) : (State.ptpRx s l b at_).base = s.base := by simp [State.ptpRx]

@[simp] theorem State.pairRx_base (s : State) (l : Nat) (b : List Byte) : (State.pairRx s l b).base = s.base := by simp [State.pairRx]

@[simp] theorem State.intoFifo_base (s : State) (l : Nat) (b : List Byte) (at_ : Nat) :
    (State.intoFifo s l b at_).base = s.base := by simp [State.intoFifo]

@[simp] theorem State.macAccept_base (s : State) (l : Nat) (b : List Byte) (at_ : Nat) :
    (State.macAccept s l b at_).base = s.base := by simp [State.macAccept]

end Sys2Proof.Machine
end

