-- ==== Sys2Proof/Laws/BaseSystem.lean ====
section
/-! SUPPORT. Laws of what the time, power, reset, boot and management operations leave (see `State.base`). -/

namespace Sys2Proof.Machine

/-! ### TimeRows.lean -/

@[simp] theorem State.servo_base (s : State) (o : Int) (tau : Nat) : (State.servo s o tau).base = s.base := by simp [State.servo]

@[simp] theorem State.stepBy_base (s : State) (o : Int) : (State.stepBy s o).2.base = s.base := by
  unfold State.stepBy
  dsimp only
  repeat' (first | (simp; done) | split)

@[simp] theorem State.locked_base (s : State) (kind : Nat) (corr : Int) : (State.locked s kind corr).base = s.base := by simp [State.locked]

@[simp] theorem State.useSample_base (s : State) (x : Sample) (tau : Nat) :
    (State.useSample s x tau).base = s.base := by unfold State.useSample; split <;> simp

@[simp] theorem State.takeSample_base (s : State) (x : Sample) : (State.takeSample s x).base = s.base := by simp [State.takeSample]

@[simp] theorem State.toSecond_base (s : State) : (State.toSecond s).base = s.base := by simp [State.toSecond]

@[simp] theorem timeNowCmd_tame  : (timeNowCmd).Tame := ⟨fun _ _ => rfl, fun _ _ _ => by simp [timeNowCmd]⟩

@[simp] theorem timeSourceCmd_tame  : (timeSourceCmd).Tame := ⟨fun _ _ => rfl, fun _ _ _ => by
  unfold timeSourceCmd
  dsimp only
  repeat' (first | (simp; done) | split)⟩

@[simp] theorem timeSampleCmd_tame  : (timeSampleCmd).Tame := ⟨fun _ _ => rfl, fun _ _ _ => by
  unfold timeSampleCmd
  dsimp only
  repeat' (first | (simp; done) | split)⟩

@[simp] theorem timeAcquireCmd_tame  : (timeAcquireCmd).Tame := ⟨fun _ _ => rfl, fun _ _ _ => by
  unfold timeAcquireCmd
  dsimp only
  repeat' (first | (simp; done) | split)⟩

@[simp] theorem ptpSendCmd_tame  : (ptpSendCmd).Tame := ⟨fun _ _ => rfl, fun _ _ _ => by
  unfold ptpSendCmd
  dsimp only
  repeat' (first | (simp; done) | split)⟩

@[simp] theorem stampReadCmd_tame  : (stampReadCmd).Tame := ⟨fun _ _ => rfl, fun _ _ _ => by simp [stampReadCmd]⟩

/-! ### Log.lean -/

@[simp] theorem State.setCursor_base (s : State) (v : Nat) : (State.setCursor s v).base = s.base := by simp [State.setCursor]

@[simp] theorem State.windowRead_base (s : State) : (State.windowRead s).base = s.base := by simp [State.windowRead]

@[simp] theorem State.mirror_base (s : State) (rs : List LogRec) (fails : Nat) : (State.mirror s rs fails).base = s.base := by simp [State.mirror]

@[simp] theorem State.slate_base (s : State) : (State.slate s).base = s.base := by simp [State.slate]

@[simp] theorem State.orderlyDown_base (s : State) : (State.orderlyDown s).base = s.base := by simp [State.orderlyDown]

@[simp] theorem State.rebuildLog_base (s : State) : (State.rebuildLog s).base = s.base := by simp [State.rebuildLog]

@[simp] theorem logClearCmd_tame  : (logClearCmd).Tame := ⟨fun _ _ => rfl, fun _ _ _ => by
  unfold logClearCmd
  dsimp only
  repeat' (first | (simp; done) | split)⟩

/-! ### EngineOps.lean -/

@[simp] theorem State.dropProgs_base (s : State) : (State.dropProgs s).base = s.base := by
  unfold State.dropProgs
  try dsimp only
  first
    | (simp; done)
    |(repeat' (first | (simp; done) | split | (refine (foldl_base (fun _ _ => ?_) _ _).trans ?_) | (refine of_snd ‹_ = (_, _)› ?_) | (refine of_fst ‹_ = (_, _)› ?_) | (simp only [*]; done) | (simp_all; done) | simp))

@[simp] theorem State.cancelAll_base (s : State) : (State.cancelAll s).base = s.base := by simp [State.cancelAll]

@[simp] theorem State.emptyQueues_base (s : State) : (State.emptyQueues s).base = s.base := by simp [State.emptyQueues]

@[simp] theorem State.emptyGroups_base (s : State) : (State.emptyGroups s).base = s.base := by simp [State.emptyGroups]

@[simp] theorem State.quit_base (s : State) (e : Nat) : (State.quit s e).base = s.base := by unfold State.quit; split <;> simp

@[simp] theorem State.softBeside_base (s : State) (e : Nat) : (State.softBeside s e).base = s.base := by unfold State.softBeside; split <;> simp

@[simp] theorem State.softReset_base (s : State) (e : Nat) : (State.softReset s e).base = s.base := by simp [State.softReset]

@[simp] theorem State.drainDone_base (s : State) (e : Nat) : (State.drainDone s e).base = s.base := by simp [State.drainDone]

@[simp] theorem State.answerReset_base (s : State) (e status : Nat) : (State.answerReset s e status).base = s.base := by simp [State.answerReset]

@[simp] theorem State.enableBehind_base (s : State) (e : Nat) : (State.enableBehind s e).base = s.base := by unfold State.enableBehind; split <;> simp

@[simp] theorem State.softOver_base (s : State) (e : Nat) : (State.softOver s e).base = s.base := by
  unfold State.softOver
  dsimp only
  repeat' (first | (simp; done) | split)

@[simp] theorem State.begun_base (s : State) (e : Nat) : (State.begun s e).base = s.base := by simp [State.begun]

@[simp] theorem State.initOver_base (s : State) (e : Nat) (pass : Bool) : (State.initOver s e pass).base = s.base := by simp [State.initOver]

@[simp] theorem State.faulted_base (s : State) (e : Nat) : (State.faulted s e).base = s.base := by simp [State.faulted]

@[simp] theorem State.trendFault_base (s : State) (e : Nat) : (State.trendFault s e).base = s.base := by simp [State.trendFault]

@[simp] theorem State.cipherDog_base (s : State) (e : Nat) : (State.cipherDog s e).base = s.base := by simp [State.cipherDog]

@[simp] theorem State.setEnable_base (s : State) (e : Nat) (on : Bool) : (State.setEnable s e on).2.base = s.base := by
  unfold State.setEnable
  repeat' (first | (simp; done) | split)

@[simp] theorem engineSetCmd_tame  : (engineSetCmd).Tame := ⟨fun _ _ => rfl, fun _ _ _ => by
  unfold engineSetCmd
  dsimp only
  repeat' (first | (simp; done) | split)⟩

/-! ### Power.lean -/

@[simp] theorem State.drainForSleep_base (s : State) (e : Nat) : (State.drainForSleep s e).base = s.base := by simp [State.drainForSleep]

@[simp] theorem State.goSleep_base (s : State) (d : Nat) : (State.goSleep s d).base = s.base := by simp [State.goSleep]

@[simp] theorem State.wakeEngine_base (s : State) (e : Nat) : (State.wakeEngine s e).base = s.base := by simp [State.wakeEngine]

@[simp] theorem State.wokenBeside_base (s : State) (d : Nat) : (State.wokenBeside s d).base = s.base := by unfold State.wokenBeside; split <;> simp

@[simp] theorem State.bringUp_base (s : State) (d : Nat) : (State.bringUp s d).base = s.base := by simp [State.bringUp]

@[simp] theorem State.wake_base (s : State) (d : Nat) : (State.wake s d).base = s.base := by simp [State.wake]

@[simp] theorem State.wakeFailed_base (s : State) (d : Nat) (failed : List Nat) :
    (State.wakeFailed s d failed).base = s.base := by unfold State.wakeFailed; split <;> simp

@[simp] theorem State.setSleepSet_base (s : State) (v : Nat) : (State.setSleepSet s v).base = s.base := by simp [State.setSleepSet]

@[simp] theorem powerStateCmd_tame (verified : Bool) : (powerStateCmd verified).Tame := ⟨fun _ _ => rfl, fun _ _ _ => by
  unfold powerStateCmd
  try dsimp only
  first
    | (simp; done)
    | (repeat' (first | (simp; done) | (refine (State.rngGate_base _ _ _ _ _ fun _ _ => ?_).trans ?_) | (refine (issueTable_base _ _ fun _ => ?_).trans ?_) | split | (refine (foldl_base (fun _ _ => ?_) _ _).trans ?_) | (refine of_snd ‹_ = (_, _)› ?_) | (refine of_fst ‹_ = (_, _)› ?_) | (simp only [*]; done) | (refine of_snd ‹_ = _› ?_) | (refine of_fst ‹_ = _› ?_) | (simp_all; done) | simp))⟩

/-! ### Reset.lean -/

@[simp] theorem State.coldClear_base (s : State) : (State.coldClear s).base = s.base := by simp [State.coldClear]

@[simp] theorem State.aonClear_base (s : State) : (State.aonClear s).base = s.base := by simp [State.aonClear]

@[simp] theorem State.warmEngine_base (s : State) (e : Nat) : (State.warmEngine s e).base = s.base := by simp [State.warmEngine]

@[simp] theorem State.warmFlight_base (s : State) : (State.warmFlight s).base = s.base := by simp [State.warmFlight]

@[simp] theorem State.warmClear_base (s : State) : (State.warmClear s).base = s.base := by simp [State.warmClear]

@[simp] theorem State.freeCommands_base (s : State) : (State.freeCommands s).base = s.base := by simp [State.freeCommands]

@[simp] theorem State.dropTxnSplice_base (s : State) : (State.dropTxnSplice s).base = s.base := by unfold State.dropTxnSplice; split <;> simp

@[simp] theorem State.hostClear_base (s : State) : (State.hostClear s).base = s.base := by simp [State.hostClear]

@[simp] theorem State.takeFailed_base (s : State) (reel reason : Nat) : (State.takeFailed s reel reason).base = s.base := by simp [State.takeFailed]

@[simp] theorem State.cutTake_base (s : State) : (State.cutTake s).base = s.base := by unfold State.cutTake; split <;> simp

@[simp] theorem State.assertReset_base (s : State) (arr cause : Nat) : (State.assertReset s arr cause).base = s.base := by simp [State.assertReset]

@[simp] theorem State.warmArrives_base (s : State) (cause : Nat) :
    (State.warmArrives s cause).base = s.base := by unfold State.warmArrives; split <;> simp

theorem base_boot {s t : State} {b : Boot} (h : t.base = s.base) (hb : b.nor = s.boot.nor) : ({ t with boot := b } : State).base = s.base := by
  simp only [State.base, Prod.mk.injEq] at h ⊢
  exact ⟨h.1, h.2.1, by rw [hb], by rw [hb]⟩

@[simp] theorem State.enterStandby_base (s : State) (verified : Bool) : (s.enterStandby verified).base = s.base := by
  have h : ((((s.relinquish 2).zeroise 0x200 verified none)).orderlyDown).base = s.base := by simp
  unfold State.enterStandby
  dsimp only
  generalize ((((s.relinquish 2).zeroise 0x200 verified none)).orderlyDown) = u at *
  rw [← h]
  apply base_boot
  · simp
  · dsimp only

@[simp] theorem State.thenLater_base (s : State) (causes : List Nat) : (s.thenLater causes).base = s.base := by simp [State.thenLater]

@[simp] theorem State.fireDue_base (s : State) : (State.fireDue s).base = s.base := by
  have key : ∀ u : State, u.base = s.base → (if u.boot.phase ≠ .up || !u.replyGone || u.relinquishing then u
    else match u.boot.due with
    | none => u
    | some .cold => (((u.relinquish 2).orderlyDown).assertReset 1 8).thenLater u.boot.later
    | some (.standby verified) => u.enterStandby verified
    | some (.warm c) => if u.betweenBursts then ((if c = 9 then u.relinquish 2 else u).assertReset 3 c).thenLater u.boot.later else u).base = s.base := by
    intro u h
    rw [← h]
    repeat' (first | (simp; done) | split)
  unfold State.fireDue
  refine key _ ?_
  split <;> simp

@[simp] theorem State.flushDue_base (s : State) (k : Carrier) : (State.flushDue s k).base = s.base := by
  unfold State.flushDue
  dsimp only
  split
  · rfl
  · rw [State.fireDue_base]
    split
    · simp
    · exact foldl_base (fun u _ => by split <;> simp) _ _
    · exact foldl_base (fun u _ => by split <;> simp) _ _

@[simp] theorem State.alarm_base (s : State) (b : Nat) (verified : Bool) : (State.alarm s b verified).base = s.base := by simp [State.alarm]

@[simp] theorem State.alarmClear_base (s : State) (b : Nat) : (State.alarmClear s b).base = s.base := by simp [State.alarmClear]

@[simp] theorem State.reportReset_base (s : State) (verified : Bool) : (State.reportReset s verified).base = s.base := by simp [State.reportReset]

/-! ### Boot.lean -/

@[simp] theorem State.setReel_base (s : State) (r : Nat) (x : Reel) : (State.setReel s r x).base = s.base := by simp [State.setReel]

@[simp] theorem State.spendTry_base (s : State) (r : Nat) : (State.spendTry s r).base = s.base := by simp [State.spendTry]

@[simp] theorem State.takeReels_base (s : State) (a b n : Nat) : (s.takeReels a b n).2.base = s.base := by
  induction n generalizing s a b with
  | zero => rfl
  | succ n ih =>
    unfold State.takeReels
    dsimp only
    repeat' (first | (simp [ih]; done) | split)

@[simp] theorem State.confirmReel_base (s : State) (r : Nat) : (State.confirmReel s r).base = s.base := by simp [State.confirmReel]

@[simp] theorem State.rebuiltLog_base (s : State) : (State.rebuiltLog s).base = s.base := by simp [State.rebuiltLog]

@[simp] theorem State.loadTrim_base (s : State) (b : BootIn) : (State.loadTrim s b).base = s.base := by simp [State.loadTrim]

@[simp] theorem State.releaseRest_base (s : State) : (State.releaseRest s).base = s.base := by simp [State.releaseRest]

@[simp] theorem State.bootReady_base (s : State) (b : BootIn) (verified : Bool) (reason : Nat) :
    (State.bootReady s b verified reason).base = s.base := by simp [State.bootReady]

@[simp] theorem State.fallBack_base (s : State) (r : Nat) : (State.fallBack s r).base = s.base := by simp [State.fallBack]

@[simp] theorem State.bootRun_base (s : State) (b : BootIn) (r : Nat) : (State.bootRun s b r).base = s.base := by simp [State.bootRun]

@[simp] theorem State.warmBoot_base (s : State) (b : BootIn) : (State.warmBoot s b).base = s.base := by simp [State.warmBoot]

@[simp] theorem State.setDue_base (s : State) (d : Due) : (State.setDue s d).base = s.base := by simp [State.setDue]

@[simp] theorem resetCmd_tame  : (resetCmd).Tame := ⟨fun _ _ => rfl, fun _ _ _ => by
  unfold resetCmd
  dsimp only
  repeat' (first | (simp; done) | split)⟩

@[simp] theorem bootStatusCmd_tame  : (bootStatusCmd).Tame := ⟨fun _ _ => rfl, fun _ _ _ => by simp [bootStatusCmd]⟩

/-! ### Mgmt.lean -/

@[simp] theorem State.inRow_base (s : State) (k : Nat) (holds : Bool) : (State.inRow s k holds).2.base = s.base := by simp [State.inRow]

@[simp] theorem State.tempCue_base (s : State) (site how reading : Nat) : (State.tempCue s site how reading).base = s.base := by simp [State.tempCue]

@[simp] theorem State.siteWarn_base (s : State) (i : Nat) (raw : Nat) : (State.siteWarn s i raw).base = s.base := by simp [State.siteWarn]

@[simp] theorem State.tempRegs_base (s : State) (temps : List (BitVec 16)) (ref slow : BitVec 16) :
    (State.tempRegs s temps ref slow).base = s.base := by simp [State.tempRegs]

@[simp] theorem State.anySite_base (s : State) (k : Nat) (p : Int → Bool) (temps : List (BitVec 16)) : (s.anySite k p temps).2.base = s.base := by
  have h : ∀ (xs : List (BitVec 16 × Nat)) (x : Bool × State), (xs.foldl (fun (x : Bool × State) t =>
      let (n, s) := x.2.inRow (k + t.2) (p (signed 16 t.1.toNat))
      (x.1 || decide (n ≥ 2), s)) x).2.base = x.2.base := by
    intro xs
    induction xs with
    | nil => exact fun _ => rfl
    | cons t xs ih => intro x; rw [List.foldl_cons, ih]; simp
  exact h _ _

@[simp] theorem State.railCue_base (s : State) (rail how reading : Nat) : (State.railCue s rail how reading).base = s.base := by simp [State.railCue]

@[simp] theorem State.groupWarn_base (s : State) (g rail nominal range mv : Nat) :
    (State.groupWarn s g rail nominal range mv).base = s.base := by simp [State.groupWarn]

@[simp] theorem State.ioRange_base (s : State) (mv : List Nat) : (State.ioRange s mv).base = s.base := by simp [State.ioRange]

@[simp] theorem State.i2cStuck_base (s : State) (bus pulses : Nat) : (State.i2cStuck s bus pulses).base = s.base := by simp [State.i2cStuck]

@[simp] theorem State.i2cAttempt_base (s : State) (bus : Nat) (freed : Bool) (pulses : Nat) :
    (State.i2cAttempt s bus freed pulses).base = s.base := by simp [State.i2cAttempt]

@[simp] theorem State.i2cRecover_base (s : State) (bus : Nat) (freed : Bool) (pulses : Nat) :
    (State.i2cRecover s bus freed pulses).base = s.base := by simp [State.i2cRecover]

@[simp] theorem State.i2cRun_base (s : State) (p : List Byte) (x : I2cEnd) :
    (State.i2cRun s p x).st.base = s.base := by unfold State.i2cRun; split <;> simp

@[simp] theorem i2cXferCmd_tame (x : I2cIn) : (i2cXferCmd x).Tame := ⟨fun _ _ => rfl, fun _ _ _ => by
  unfold i2cXferCmd
  dsimp only
  repeat' (first | (simp; done) | split)⟩

@[simp] theorem State.opticsStale_base (s : State) (ch : Nat) : (State.opticsStale s ch).base = s.base := by simp [State.opticsStale]

@[simp] theorem State.opticsRead_base (s : State) (ch : Nat) (x : OpticsIn) : (State.opticsRead s ch x).base = s.base := by simp [State.opticsRead]

@[simp] theorem State.opticsAsk_base (s : State) (ch : Nat) : (State.opticsAsk s ch).base = s.base := by simp [State.opticsAsk]

@[simp] theorem State.fourth_base (s : State) (kind row : Nat) : (State.fourth s kind row).2.base = s.base := by
  unfold State.fourth
  dsimp only
  repeat' (first | (simp; done) | split)

@[simp] theorem State.keyRow_base (s : State) (slot : Nat) (correctable : Bool) : (State.keyRow s slot correctable).base = s.base := by
  unfold State.keyRow
  try dsimp only
  first
    | (simp; done)
    |(repeat' (first | (simp; done) | split | (refine (foldl_base (fun _ _ => ?_) _ _).trans ?_) | (refine of_snd ‹_ = (_, _)› ?_) | (refine of_fst ‹_ = (_, _)› ?_) | (simp only [*]; done) | (simp_all; done) | simp))

@[simp] theorem State.remapRow_base (s : State) (e kind row : Nat) (correctable : Bool) :
    (State.remapRow s e kind row correctable).base = s.base := by simp [State.remapRow]

@[simp] theorem State.arrayRow_base (s : State) (e kind row : Nat) (correctable : Bool) (lose : State → State) (h : ∀ u, (lose u).base = u.base) :
    (s.arrayRow e kind row correctable lose).base = s.base := by
  unfold State.arrayRow
  have k := s.fourth_base kind row
  split
  · split <;> rename_i e <;> rw [e] at k
    · exact k
    · simpa using k
  · simp [h]

@[simp] theorem State.losePage_base (s : State) (p : Nat) : (State.losePage s p).base = s.base := by simp [State.losePage]

@[simp] theorem State.loseCtx_base (s : State) (c : Nat) : (State.loseCtx s c).base = s.base := by
  unfold State.loseCtx
  repeat' (first | (simp; done) | split)

@[simp] theorem spareInventoryCmd_tame  : (spareInventoryCmd).Tame := ⟨fun _ _ => rfl, fun _ _ _ => by simp [spareInventoryCmd]⟩

@[simp] theorem State.restored_base (s : State) (e k left : Nat) (service : Option Nat) :
    (State.restored s e k left service).base = s.base := by unfold State.restored; split <;> simp

@[simp] theorem State.restoreLane_base (s : State) (u l : Nat) : (State.restoreLane s u l).base = s.base := by simp [State.restoreLane]

@[simp] theorem State.restoreCipher_base (s : State) (u l : Nat) : (State.restoreCipher s u l).base = s.base := by simp [State.restoreCipher]

@[simp] theorem unitRestoreCmd_tame (pass : Bool) : (unitRestoreCmd pass).Tame := ⟨fun _ _ => rfl, fun _ _ _ => by
  unfold unitRestoreCmd
  dsimp only
  repeat' (first | (simp; done) | split)⟩

/-! ### Update.lean -/

@[simp] theorem State.abandonUpdate_base (s : State) : (State.abandonUpdate s).base = s.base := by simp [State.abandonUpdate]

@[simp] theorem updateBeginCmd_tame (erased : Bool) : (updateBeginCmd erased).Tame := ⟨fun _ _ => rfl, fun _ _ _ => by
  unfold updateBeginCmd
  dsimp only
  repeat' (first | (simp; done) | split)⟩

@[simp] theorem State.remapBlock_base (s : State) (u : Update) (ls : List Nat) (b : Nat) (prog : Bool) : (s.remapBlock u ls b prog).1.base = s.base := by
  unfold State.remapBlock
  dsimp only
  repeat' (first | (simp; done) | split)

@[simp] theorem State.remapAll_base (s : State) (u : Update) (ls : List Nat) (bs : List (Byte × Bool)) : (s.remapAll u ls bs).1.base = s.base := by
  induction bs generalizing s u with
  | nil => rfl
  | cons b bs ih =>
    have k := s.remapBlock_base u ls b.1.toNat b.2
    unfold State.remapAll
    split <;> rename_i e <;> rw [e] at k
    · exact k
    · rw [ih]; exact k

@[simp] theorem updateDataCmd_tame (bad : List (Byte × Bool)) : (updateDataCmd bad).Tame := by
  refine ⟨fun _ _ => rfl, fun role r s => ?_⟩
  unfold updateDataCmd
  dsimp only
  split
  · simp
  rename_i u _
  have k := s.remapAll_base u (blocksOf u.data.length (r.payload.length - 4)) bad
  split
  · simp
  split
  · simp
  split <;> rename_i e <;> rw [e] at k <;> simpa [Act.say] using k

@[simp] theorem updateEndCmd_tame (readOk : Bool) : (updateEndCmd readOk).Tame := ⟨fun _ _ => rfl, fun _ _ _ => by
  unfold updateEndCmd
  dsimp only
  repeat' (first | (simp; done) | split)⟩

@[simp] theorem reelStatusCmd_tame  : (reelStatusCmd).Tame := ⟨fun _ _ => rfl, fun _ _ _ => by simp [reelStatusCmd]⟩

/-! ### Regs.lean -/

@[simp] theorem State.macLatch_base (s : State) (l i : Nat) : (State.macLatch s l i).base = s.base := by simp [State.macLatch]

@[simp] theorem State.blocksLatch_base (s : State) (u : Nat) : (State.blocksLatch s u).base = s.base := by simp [State.blocksLatch]

@[simp] theorem State.sfcLatch_base (s : State) (ch : Nat) : (State.sfcLatch s ch).base = s.base := by simp [State.sfcLatch]

@[simp] theorem State.nowLatch_base (s : State) : (State.nowLatch s).base = s.base := by simp [State.nowLatch]

@[simp] theorem State.countLatch_base (s : State) : (State.countLatch s).base = s.base := by simp [State.countLatch]

@[simp] theorem State.fieldLatch_base (s : State) (e : Nat) (f : Fld) :
    (State.fieldLatch s e f).base = s.base := by unfold State.fieldLatch; split <;> simp

@[simp] theorem State.fieldAfter_base (s : State) (e : Nat) (f : Fld) : (State.fieldAfter s e f).base = s.base := by simp [State.fieldAfter]

@[simp] theorem State.readWord_base (s : State) (e o : Nat) : (State.readWord s e o).2.base = s.base := by unfold State.readWord; split <;> simp

@[simp] theorem State.fieldStore_base (s : State) (e : Nat) (f : Fld) (v : Nat) :
    (State.fieldStore s e f v).base = s.base := by unfold State.fieldStore; split <;> simp

@[simp] theorem State.setModel_base (s : State) (m : Nat) : (State.setModel s m).base = s.base := by
  unfold State.setModel
  dsimp only
  repeat' (first | (simp; done) | split)

@[simp] theorem State.writePfc_base (s : State) (e v : Nat) : (State.writePfc s e v).base = s.base := by simp [State.writePfc]

@[simp] theorem State.writePmd_base (s : State) (e o v : Nat) (store : State → State) (h : ∀ u, (store u).base = u.base) : (s.writePmd e o v store).base = s.base := by
  unfold State.writePmd
  dsimp only
  repeat' (first | exact h s | (simp [h]; done) | split)

@[simp] theorem State.writeVs_base (s : State) (o v : Nat) (store : State → State) (h : ∀ u, (store u).base = u.base) : (s.writeVs o v store).base = s.base := by
  unfold State.writeVs
  dsimp only
  repeat' (first | exact h s | (simp [h]; done) | split)

@[simp] theorem State.writeWord_base (s : State) (e o v : Nat) : (State.writeWord s e o v).base = s.base := by
  unfold State.writeWord
  dsimp only
  repeat' (first | (simp; done) | split)

/-! ### Object.lean -/

@[simp] theorem State.readBlock_base (s : State) (e o n : Nat) : (s.readBlock e o n).2.base = s.base := by
  induction n generalizing s o with
  | zero => rfl
  | succ n ih => simp [State.readBlock, ih]

@[simp] theorem objReadCmd_tame  : (objReadCmd).Tame := ⟨fun _ _ => rfl, fun _ _ _ => by
  unfold objReadCmd
  dsimp only
  repeat' (first | (simp; done) | split)⟩

@[simp] theorem State.writeWords_base (s : State) (e : Nat) (ws : Words) : (State.writeWords s e ws).base = s.base := by simp [State.writeWords]

@[simp] theorem State.blockWrite_base (s : State) (e : Nat) (ws : Words) (payload : List Byte) :
    (State.blockWrite s e ws payload).st.base = s.base := by
  unfold State.blockWrite
  dsimp only
  repeat' (first | (simp; done) | split)

@[simp] theorem State.blockRest_base (s : State) (e : Nat) (ws : Words) (payload : List Byte) :
    (State.blockRest s e ws payload).st.base = s.base := by
  unfold State.blockRest
  dsimp only
  repeat' (first | (simp; done) | split)

@[simp] theorem objWriteCmd_tame  : (objWriteCmd).Tame := ⟨fun _ _ => rfl, fun _ _ _ => by simp [objWriteCmd]⟩

@[simp] theorem objModifyCmd_tame  : (objModifyCmd).Tame := ⟨fun _ _ => rfl, fun _ _ _ => by
  unfold objModifyCmd
  dsimp only
  repeat' (first | (simp; done) | split)⟩

@[simp] theorem State.restAct_base (s : State) (t : Taken) : (State.restAct s t).st.base = s.base := by unfold State.restAct; split <;> simp

@[simp] theorem State.settleRest_base (s : State) (w : Wait) : (s.settleRest w).base = s.base := by
  unfold State.settleRest
  split
  · split
    · rfl
    split
    · simp
    · exact State.retry_base _ _ _ fun _ => by simp
  · rfl

@[simp] theorem State.settleRests_base (s : State) : (State.settleRests s).base = s.base := by simp [State.settleRests]

/-! ### Unpark.lean -/

@[simp] theorem State.unparkWith_base (s : State) (ch : Nat) (how : ParkStep) : (State.unparkWith s ch how).base = s.base := by simp [State.unparkWith]

@[simp] theorem State.startPark_base (s : State) (ch : Nat) (park : Bool) : (State.startPark s ch park).st.base = s.base := by
  unfold State.startPark
  dsimp only
  repeat' (first | (simp; done) | split)

@[simp] theorem channelParkCmd_tame  : (channelParkCmd).Tame := ⟨fun _ _ => rfl, fun _ _ _ => by simp [channelParkCmd]⟩

@[simp] theorem anchorSetCmd_tame  : (anchorSetCmd).Tame := ⟨fun _ _ => rfl, fun _ _ _ => by
  unfold anchorSetCmd
  dsimp only
  repeat' (first | (simp; done) | split)⟩

/-! ### Txn.lean -/

theorem cmdOf_tame {op : Nat} {c : Cmd} (h : cmdOf op = some c) : c.Tame := by
  unfold cmdOf at h
  split at h
  · unfold cmdOf0 at h
    split at h <;> cases h <;> simp
  split at h
  · unfold cmdOf1 at h
    split at h <;> cases h <;> simp
  split at h
  · unfold cmdOf2 at h
    split at h <;> cases h <;> simp
  · unfold cmdOf3 at h
    split at h <;> cases h <;> simp

theorem stagedParentMap_tame : stagedParentMap.Tame := by
  refine ⟨(parentMapCmd_tame 0).refused, fun role r s => ?_⟩
  have h := (parentMapCmd_tame (BitVec.ofNat 4 (s.draw 4).1)).act role r (s.draw 4).2
  rw [State.draw_base] at h
  exact h

theorem stagedCmd_tame {rel : Release} {op : Nat} {c : Cmd} (h : stagedCmd rel op = some c) : c.Tame := by
  unfold stagedCmd at h
  split at h
  · cases h; exact stagedParentMap_tame
  · cases h; exact ⟨tableConfigCmd_tame.refused, fun _ _ _ => by simp⟩
  · cases h; exact ⟨flowAddCmd_tame.refused, fun _ _ _ => by simp⟩
  · cases h; exact ⟨flowDelCmd_tame.refused, fun _ _ _ => by simp⟩
  · cases h; exact ⟨ruleSetCmd_tame.refused, fun _ _ _ => by simp⟩
  · cases h; simp
  · exact cmdOf_tame h

@[simp] theorem State.gather_base (s : State) : (State.gather s).base = s.base := by simp [State.gather]

@[simp] theorem State.ungather_base (s : State) : (State.ungather s).base = s.base := by simp [State.ungather]

theorem Deed.run_base {x : Txn} {rel : Release} {d : Deed} {s t : State} {cs : List LateCue} (h : d.run x rel s = .done t cs) : t.base = s.base := by
  unfold Deed.run at h
  dsimp only at h
  split at h
  · cases h
    exact State.swapPages_base _ _ _ fun _ => rfl
  · cases h
    rw [foldl_base fun _ _ => by simp]
    rfl
  · split at h
    · cases h; rfl
    · rename_i c hc
      have k := fun role r => Cmd.run_base c role r s.gather (stagedCmd_tame hc)
      split at h
      · cases h; exact k _ _
      · cases h
      · split at h
        · cases h; exact k _ _
        · cases h

theorem runPlan_base {x : Txn} {rel : Release} {ds : List Deed} {s t : State} {a b : List LateCue} (h : runPlan x rel ds s a = .done t b) :
    t.base = s.base := by
  induction ds generalizing s a with
  | nil => cases h; rfl
  | cons d ds ih =>
    unfold runPlan at h
    split at h
    · rename_i e
      exact (ih h).trans (Deed.run_base e)
    · rename_i e
      exact absurd h (e _ _)

@[simp] theorem switchOn_base (x : Txn) (rel : Release) (ds : List Deed) (s : State) (cues : List LateCue) :
    (switchOn x rel ds s cues).1.base = s.base := by
  induction ds generalizing s cues with
  | nil => rfl
  | cons d ds ih =>
    unfold switchOn
    split
    · rename_i e
      rw [ih, Deed.run_base e]
    · exact ih s cues

@[simp] theorem State.raiseLate_base (s : State) (n : Nat) (cues : List LateCue) :
    (State.raiseLate s n cues).base = s.base := by simp [State.raiseLate]

@[simp] theorem State.endTxn_base (s : State) (n : Nat) : (State.endTxn s n).base = s.base := by simp [State.endTxn]

@[simp] theorem State.txnJob_base (s : State) (n : Nat) (x : Txn) : (State.txnJob s n x).2.2.base = s.base := by
  unfold State.txnJob
  try dsimp only
  first
    | (simp; done)
    | (repeat' (first | (simp; done) | (refine (State.rngGate_base _ _ _ _ _ fun _ _ => ?_).trans ?_) | (refine (issueTable_base _ _ fun _ => ?_).trans ?_) | split | (refine (foldl_base (fun _ _ => ?_) _ _).trans ?_) | (refine of_snd ‹_ = (_, _)› ?_) | (refine of_fst ‹_ = (_, _)› ?_) | (simp only [*]; done) | (refine of_snd ‹_ = _› ?_) | (refine of_fst ‹_ = _› ?_) | (simp_all; done) | simp))

@[simp] theorem State.reopen_base (s : State) (n : Nat) (x : Txn) : (State.reopen s n x).base = s.base := by simp [State.reopen]

@[simp] theorem State.keepRefusal_base (s refused : State) : (State.keepRefusal s refused).base = s.base := by simp [State.keepRefusal]

@[simp] theorem Act.aborted_base (s : State) (f : TxnFail) (holds : Nat := 0) : (Act.aborted s f holds).st.base = s.base := by simp [Act.aborted]

@[simp] theorem commitDone_base (n : Nat) (x : Txn) (s : State) (cues : List LateCue) : (commitDone n x s cues).st.base = s.base := by simp [commitDone]

@[simp] theorem commitHold_base (n : Nat) (x : Txn) (s : State) (y : Why) : (commitHold n x s y).st.base = s.base := by simp [commitHold]

@[simp] theorem commitRng_base (n i : Nat) (x : Txn) (rel : Release) (s : State) : (commitRng n i x rel s).st.base = s.base := by
  unfold commitRng
  dsimp only
  split
  · simp
  · split
    · simp [State.generate_base ‹_›]
    · simp

@[simp] theorem prepareTxn_base (n : Nat) (x : Txn) (rel : Release) (s : State) : (prepareTxn n x rel s).st.base = s.base := by
  unfold prepareTxn
  dsimp only
  split
  · simp
  split
  · simp
  · simp
  · simp
  · rename_i e
    have k := runPlan_base e
    split
    · simp
    · split
      · simp [runPlan_base ‹_›]
      · simp [k]

@[simp] theorem commitTxn_base (n : Nat) (boundary : Bool) (rel : Release) (s : State) : (commitTxn n boundary rel s).st.base = s.base := by
  unfold commitTxn
  dsimp only
  split
  · simp
  split
  · simp
  split
  · simp
  · have k := State.txnJob_base s n ‹_›
    split <;> rename_i e <;> rw [e] at k
    · simpa using k
    · simpa using k

@[simp] theorem txnBeginCmd_tame  : (txnBeginCmd).Tame := ⟨fun _ _ => rfl, fun _ _ _ => by
  unfold txnBeginCmd
  dsimp only
  repeat' (first | (simp; done) | split)⟩

@[simp] theorem txnCommitCmd_tame  : (txnCommitCmd).Tame := ⟨fun _ _ => rfl, fun _ _ _ => by
  unfold txnCommitCmd
  dsimp only
  repeat' (first | (simp; done) | split)⟩

@[simp] theorem txnAbortCmd_tame  : (txnAbortCmd).Tame := ⟨fun _ _ => rfl, fun _ _ _ => by simp [txnAbortCmd]⟩

theorem heldCmd_tame {op : Nat} {c : Cmd} (h : heldCmd op = some c) : c.Tame := by
  unfold heldCmd at h
  split at h
  · cases h; simp
  · cases h; simp
  · cases h; simp
  · exact cmdOf_tame h

@[simp] theorem State.resume_base (s : State) : s.resume.base = s.base := by
  unfold State.resume
  refine foldl_base (fun u t => ?_) _ _
  split
  · exact runCmd_base _ _ _ (heldCmd_tame ‹_›)
  · rfl

@[simp] theorem State.commitAgain_base (s : State) (w : Wait) (boundary : Bool) (rel : Release) : (s.commitAgain w boundary rel).base = s.base :=
  State.retry_base _ _ _ fun _ => commitTxn_base _ _ _ _

@[simp] theorem State.afterCommit_base (s : State) : (State.afterCommit s).base = s.base := by simp [State.afterCommit]

theorem State.rerun_base (s : State) (w : Wait) (cmd : Nat → Option Cmd) (rel : Release) (h : ∀ op c, cmd op = some c → c.Tame) :
    (s.rerun w cmd rel).base = s.base := by
  unfold State.rerun
  split
  · simp
  split
  · exact State.retry_base _ _ _ fun u => Cmd.run_base _ _ _ _ (h _ _ ‹_›)
  · rfl

@[simp] theorem State.rerunUnit_base (s : State) (e : Nat) : (s.rerunUnit e).base = s.base := by
  unfold State.rerunUnit
  rw [State.afterCommit_base]
  exact foldl_base (fun u w => State.rerun_base u w cmdOf _ fun _ _ => cmdOf_tame) _ _

@[simp] theorem State.answerSplice_base (s : State) : (State.answerSplice s).base = s.base := by simp [State.answerSplice]

theorem rngCmd_tame {pct : Bool} {rel : Release} {op : Nat} {c : Cmd} (h : rngCmd pct rel op = some c) : c.Tame := by
  unfold rngCmd at h
  split at h <;> cases h <;> simp

@[simp] theorem State.handOut_base (s : State) (pct : Bool) (w : Wait) : (s.handOut pct w).base = s.base := by
  unfold State.handOut
  split
  · exact State.rerun_base _ _ _ _ fun _ _ => rngCmd_tame
  · rfl

/-! ### EngineRows.lean -/

@[simp] theorem State.goOn_base (s : State) : (State.goOn s).base = s.base := by simp [State.goOn]

@[simp] theorem State.recoverCut_base (s : State) (e : Nat) (freed : Bool) (pulses : Nat) :
    (State.recoverCut s e freed pulses).base = s.base := by simp [State.recoverCut]

@[simp] theorem State.answerSoft_base (s : State) (e order : Nat) : (State.answerSoft s e order).base = s.base := by simp [State.answerSoft]

@[simp] theorem State.faultEnds_base (s : State) (e : Nat) : (State.faultEnds s e).base = s.base := by simp [State.faultEnds]

@[simp] theorem State.failHeld_base (s : State) (es : List Nat) : (State.failHeld s es).base = s.base := by simp [State.failHeld]

/-! ### Fetch.lean -/

theorem takeCmd_refused {op : Nat} {c : Cmd} (h : takeCmd op = some c) (st : Nat) (u : State) : (c.refused st u).base = u.base := by
  unfold takeCmd at h
  split at h
  · cases h; exact (heldCmd_tame ‹_›).refused st u
  · unfold outcomeCmd at h
    split at h <;> cases h <;> first | rfl | exact Cmd.Tame.refused (by simp) st u

@[simp] theorem State.takePacket_base (s : State) (k : Carrier) (src : BitVec 48) (b : List Byte) : (s.takePacket k src b).base = s.base := by
  unfold State.takePacket
  dsimp only
  split
  · exact State.take_base _ _ _ (takeCmd_refused ‹_›)
  split
  · exact State.takeTag_base _ _ _ _ _ (fun _ _ => rfl) fun _ => by simp
  · rfl

@[simp] theorem State.haltReply_base (s : State) (p : Fin 4) (b : List Byte) (cause : Nat) :
    (State.haltReply s p b cause).base = s.base := by simp [State.haltReply]

@[simp] theorem State.haltRing_base (s : State) (p : Fin 4) (b : List Byte) (cause : Nat) :
    (State.haltRing s p b cause).base = s.base := by simp [State.haltRing]

@[simp] theorem State.mgmtTake_base (s : State) (b : List Byte) (at_ : Nat) : (State.mgmtTake s b at_).base = s.base := by simp [State.mgmtTake]

@[simp] theorem State.macFrame_base (s : State) (l : Nat) (frame : List Byte) (bad : Bool) (at_ : Nat) :
    (State.macFrame s l frame bad at_).base = s.base := by
  unfold State.macFrame
  dsimp only
  repeat' (first | (simp; done) | split)

@[simp] theorem State.codeErrors_base (s : State) (l : Nat) (errs : List Nat) : (State.codeErrors s l errs).base = s.base := by simp [State.codeErrors]

end Sys2Proof.Machine
end

