-- ==== Sys2Proof/Laws/Map.lean ====
section
/-! SUPPORT. Laws of sparse contents: reading after a write, and the canonical form. -/
namespace Sys2Proof.Machine

variable {α : Type}

@[simp] theorem SMap.look_put_self (m : SMap α) (k : Nat) (v : α) : (m.put k v).look k = some v := by
  induction m with
  | nil => simp [SMap.put, SMap.look]
  | cons x m ih =>
    obtain ⟨a, b⟩ := x
    simp only [SMap.put]
    split
    · simp [SMap.look]
    · split
      · simp [SMap.look]
      · rename_i h1 h2
        simp [SMap.look, h1, h2, ih]

theorem SMap.look_put_ne (m : SMap α) {k j : Nat} (v : α) (h : j ≠ k) : (m.put k v).look j = m.look j := by
  induction m with
  | nil =>
    simp only [SMap.put, SMap.look, h, if_false]
  | cons x m ih =>
    obtain ⟨a, b⟩ := x
    simp only [SMap.put]
    split
    · rename_i e
      subst e
      simp [SMap.look, h]
    · split
      · simp only [SMap.look, h, if_false]
      · simp only [SMap.look, ih]

@[simp] theorem SMap.get_put_self (m : SMap α) (k : Nat) (v d : α) : (m.put k v).get k d = v := by simp [SMap.get]

theorem SMap.get_put_ne (m : SMap α) {k j : Nat} (v d : α) (h : j ≠ k) : (m.put k v).get j d = m.get j d := by
  simp [SMap.get, SMap.look_put_ne m v h]

/-- Every number of a sorted list's tail is above its head's. -/
theorem SMap.sorted_head {x : Nat × α} {m : SMap α} (h : SMap.sorted (x :: m) = true) : ∀ y ∈ m, x.1 < y.1 := by
  induction m generalizing x with
  | nil => simp
  | cons z m ih =>
    obtain ⟨a, v⟩ := x
    obtain ⟨b, w⟩ := z
    simp only [SMap.sorted, Bool.and_eq_true, decide_eq_true_eq] at h
    intro y hy
    cases hy with
    | head => exact h.1
    | tail _ hy => exact Nat.lt_trans h.1 (ih h.2 y hy)

theorem SMap.sorted_tail {x : Nat × α} {m : SMap α} (h : SMap.sorted (x :: m) = true) : SMap.sorted m = true := by
  cases m with
  | nil => rfl
  | cons z m =>
    obtain ⟨a, v⟩ := x
    obtain ⟨b, w⟩ := z
    simp only [SMap.sorted, Bool.and_eq_true] at h
    exact h.2

theorem SMap.sorted_cons {x : Nat × α} {m : SMap α} (h : SMap.sorted m = true) (hx : ∀ y ∈ m, x.1 < y.1) : SMap.sorted (x :: m) = true := by
  cases m with
  | nil => rfl
  | cons z m =>
    obtain ⟨a, v⟩ := x
    obtain ⟨b, w⟩ := z
    simp only [SMap.sorted, Bool.and_eq_true, decide_eq_true_eq]
    exact ⟨hx (b, w) (List.mem_cons_self ..), h⟩

theorem SMap.mem_put {m : SMap α} {k : Nat} {v : α} {y : Nat × α} (h : y ∈ m.put k v) : y = (k, v) ∨ y ∈ m := by
  induction m with
  | nil => simpa [SMap.put] using h
  | cons x m ih =>
    obtain ⟨a, b⟩ := x
    simp only [SMap.put] at h
    split at h
    · rcases List.mem_cons.mp h with h | h
      · exact .inl h
      · exact .inr (List.mem_cons_of_mem _ h)
    · split at h
      · rcases List.mem_cons.mp h with h | h
        · exact .inl h
        · exact .inr h
      · rcases List.mem_cons.mp h with h | h
        · exact .inr (h ▸ List.mem_cons_self ..)
        · rcases ih h with h | h
          · exact .inl h
          · exact .inr (List.mem_cons_of_mem _ h)

/-- A write keeps the canonical form. -/
theorem SMap.sorted_put {m : SMap α} (h : m.sorted = true) (k : Nat) (v : α) : (m.put k v).sorted = true := by
  induction m with
  | nil => rfl
  | cons x m ih =>
    obtain ⟨a, b⟩ := x
    simp only [SMap.put]
    split
    · rename_i e
      subst e
      exact sorted_cons (sorted_tail h) fun y hy => sorted_head h y hy
    · split
      · rename_i h1 h2
        refine sorted_cons h fun y hy => ?_
        rcases List.mem_cons.mp hy with hy | hy
        · subst hy
          exact h2
        · exact Nat.lt_trans h2 (sorted_head h y hy)
      · refine sorted_cons (ih (sorted_tail h)) fun y hy => ?_
        rcases mem_put hy with hy | hy
        · subst hy
          show a < k
          omega
        · exact sorted_head h y hy

@[simp] theorem SMap.look_del_self (m : SMap α) (k : Nat) : (m.del k).look k = none := by
  induction m with
  | nil => rfl
  | cons x m ih =>
    obtain ⟨a, b⟩ := x
    simp only [SMap.del, List.filter_cons] at ih ⊢
    split
    · rename_i h
      have : k ≠ a := by
        rintro rfl
        simp at h
      simpa only [SMap.look, this, if_false] using ih
    · exact ih

theorem SMap.look_del_ne (m : SMap α) {k j : Nat} (hj : j ≠ k) : (m.del k).look j = m.look j := by
  induction m with
  | nil => rfl
  | cons x m ih =>
    obtain ⟨a, b⟩ := x
    simp only [SMap.del, List.filter_cons] at ih ⊢
    split
    · simp only [SMap.look, ih]
    · rename_i h
      have : a = k := by simpa using h
      subst this
      simpa only [SMap.look, hj, if_false] using ih

/-- A selection keeps the canonical form. -/
theorem SMap.sorted_keep {m : SMap α} (h : m.sorted = true) (p : Nat → α → Bool) : (m.keep p).sorted = true := by
  induction m with
  | nil => rfl
  | cons x m ih =>
    have ih := ih (sorted_tail h)
    simp only [SMap.keep, List.filter_cons] at ih ⊢
    split
    · exact sorted_cons ih fun y hy => sorted_head h y ((List.mem_filter.mp hy).1)
    · exact ih

/-- A removal keeps the canonical form. -/
theorem SMap.sorted_del {m : SMap α} (h : m.sorted = true) (k : Nat) : (m.del k).sorted = true := sorted_keep h fun j _ => j != k

/-- A change of values keeps the canonical form. -/
theorem SMap.sorted_each {β : Type} {m : SMap α} (h : m.sorted = true) (f : Nat → α → β) : SMap.sorted (m.each f) = true := by
  induction m with
  | nil => rfl
  | cons x m ih =>
    have ih := ih (sorted_tail h)
    simp only [SMap.each, List.map_cons] at ih ⊢
    refine sorted_cons ih fun y hy => ?_
    obtain ⟨z, hz, rfl⟩ := List.mem_map.mp hy
    exact sorted_head h z hz

end Sys2Proof.Machine
end

