-- ==== Sys2Proof/Laws/Ops.lean ====
section
/-! SUPPORT. Laws of the register fields, of cues, of log records and of replies: what each leaves as it was. -/
namespace Sys2Proof.Machine

/-! ### Register fields -/

@[simp] theorem State.rf_wf_self (s : State) (e : Nat) (f : Fld) (v : Nat) : (s.wf e f v).rf e f = v % 2 ^ f.width := by
  simp [State.rf, State.wf]

theorem State.rf_wf_ne (s : State) {e e' : Nat} {f f' : Fld} (v : Nat) (h : fldKey e' f' ≠ fldKey e f) :
    (s.wf e f v).rf e' f' = s.rf e' f' := by
  simp [State.rf, State.wf, SMap.look_put_ne _ _ h]

/-- A write as a read sees it. -/
theorem State.rf_wf (s : State) (e e' : Nat) (f f' : Fld) (v : Nat) :
    (s.wf e f v).rf e' f' = if fldKey e' f' = fldKey e f then v % 2 ^ f.width else s.rf e' f' := by
  split
  · rename_i h
    simp [State.rf, State.wf, h]
  · rename_i h
    exact State.rf_wf_ne s v h

@[simp] theorem State.wf_pending (s : State) (e : Nat) (f : Fld) (v : Nat) : (s.wf e f v).pending = s.pending := rfl
@[simp] theorem State.wf_elapsed (s : State) (e : Nat) (f : Fld) (v : Nat) : (s.wf e f v).elapsed = s.elapsed := rfl
@[simp] theorem State.wf_engx (s : State) (e : Nat) (f : Fld) (v : Nat) : (s.wf e f v).engx = s.engx := rfl
@[simp] theorem State.wf_chan (s : State) (e : Nat) (f : Fld) (v : Nat) : (s.wf e f v).chan = s.chan := rfl
@[simp] theorem State.wf_clk (s : State) (e : Nat) (f : Fld) (v : Nat) : (s.wf e f v).clk = s.clk := rfl
@[simp] theorem State.wf_log (s : State) (e : Nat) (f : Fld) (v : Nat) : (s.wf e f v).log = s.log := rfl
@[simp] theorem State.wf_pages (s : State) (e : Nat) (f : Fld) (v : Nat) : (s.wf e f v).pages = s.pages := rfl
@[simp] theorem State.wf_disp (s : State) (e : Nat) (f : Fld) (v : Nat) : (s.wf e f v).disp = s.disp := rfl
@[simp] theorem State.wf_sched (s : State) (e : Nat) (f : Fld) (v : Nat) : (s.wf e f v).sched = s.sched := rfl
@[simp] theorem State.wf_pon (s : State) (e : Nat) (f : Fld) (v : Nat) : (s.wf e f v).pon = s.pon := rfl
@[simp] theorem State.wf_opt (s : State) (e : Nat) (f : Fld) (v : Nat) : (s.wf e f v).opt = s.opt := rfl
@[simp] theorem State.wf_boot (s : State) (e : Nat) (f : Fld) (v : Nat) : (s.wf e f v).boot = s.boot := rfl
@[simp] theorem State.wf_cry (s : State) (e : Nat) (f : Fld) (v : Nat) : (s.wf e f v).cry = s.cry := rfl
@[simp] theorem State.wf_tdm (s : State) (e : Nat) (f : Fld) (v : Nat) : (s.wf e f v).tdm = s.tdm := rfl
@[simp] theorem State.wf_cls (s : State) (e : Nat) (f : Fld) (v : Nat) : (s.wf e f v).cls = s.cls := rfl
@[simp] theorem State.wf_client (s : State) (e : Nat) (f : Fld) (v : Nat) : (s.wf e f v).client = s.client := rfl
@[simp] theorem State.wf_freeCtr (s : State) (e : Nat) (f : Fld) (v : Nat) : (s.wf e f v).freeCtr = s.freeCtr := rfl
@[simp] theorem State.wf_emitted (s : State) (e : Nat) (f : Fld) (v : Nat) : (s.wf e f v).emitted = s.emitted := rfl

/-- Two fields of one engine stand in one place when offset and bit agree. -/
@[simp] theorem fldKey_same (e : Nat) (f g : Fld) : fldKey e f = fldKey e g ↔ f.off * 32 + f.lo = g.off * 32 + g.lo := by
  simp only [fldKey]
  omega

/-- Fields of different engines stand in different places. -/
theorem fldKey_ne {e e' : Nat} {f g : Fld} (h : e ≠ e') (hf : f.off < 2 ^ 20) (hg : g.off < 2 ^ 20) (hf' : f.lo < 32) (hg' : g.lo < 32) :
    fldKey e f ≠ fldKey e' g := by
  simp only [fldKey]
  omega

end Sys2Proof.Machine
end

