-- ==== Sys2Proof/Laws/Command.lean ====
section
/-! SUPPORT. Laws of the request pipeline: what a host command does once it may start. -/
namespace Sys2Proof.Machine

theorem State.findTaken_some {s : State} {op : Nat} {r : Req} {k : Taken} (h : s.findTaken op r = some k) : k.op = op ∧ k.req = r := by
  have := List.find?_some h
  simpa using this

/-- A ready command is carried out: it is answered, or waits. -/
theorem runCmd_ready {c : Cmd} {r : Req} {k : Taken} {s : State} (h : Ready c r k s) :
    runCmd c r s =
      match (c.act k.role r (s.starting k)).wait with
      | some w =>
        (c.act k.role r (s.starting k)).st.awaits s.chan.order w k
      | none =>
        (c.act k.role r (s.starting k)).st.reply k s.chan.order (c.act k.role r (s.starting k)).status
          (c.act k.role r (s.starting k)).detail (c.act k.role r (s.starting k)).payload true none (c.act k.role r (s.starting k)).holds := by
  obtain ⟨hf, hn, hd, hh, hr, h1⟩ := h
  have hk := State.findTaken_some hf
  have hn' : (!k.started && !s.isNext k) = false := by
    rcases hn with hn | hn <;> simp [hn]
  have hd' : (s.boot.fwDead && !hwOp c.op) = false := by
    rcases hd with hd | hd <;> simp [hd]
  have h1' : c.first r (s.starting k) = none := h1
  have hrun : c.run k.role k.req (s.starting k) = c.act k.role r (s.starting k) := by
    rw [hk.2]
    simp [Cmd.run, h1']
  simp only [runCmd, hf, hn', hd', hh, hr, Bool.false_eq_true, if_false, State.start]
  have : ({ s with chan := { s.chan with order := s.chan.order + 1, taken := s.chan.taken.filter fun u => !(u == k) } } : State) =
      s.starting k := rfl
  simp only [this, hrun] <;> cases (c.act k.role r (s.starting k)).wait <;> rfl

/-- A ready command that answers at once. -/
theorem answers_of_ready {c : Cmd} {r : Req} {k : Taken} {s : State} {i : Instr} {st d : Nat} {p : State → List Byte}
    {post : State → State → Prop} {n : Nat} {f : State → State}
    (h : Ready c r k s) (hi : exec i s = .next (f (runCmd c r s))) (hw : (c.act k.role r (s.starting k)).wait = none)
    (hs : (c.act k.role r (s.starting k)).status = st) (hd : (c.act k.role r (s.starting k)).detail = d)
    (hp : (c.act k.role r (s.starting k)).payload = p (c.act k.role r (s.starting k)).st)
    (hn : (c.act k.role r (s.starting k)).holds = n)
    (hq : post (s.starting k) (c.act k.role r (s.starting k)).st) : Answers i s k st d p post n f := by
  refine ⟨(c.act k.role r (s.starting k)).st, ?_, hq⟩
  rw [hi, runCmd_ready h, hw, hs, hd, hp, hn]

/-- A ready command that waits. -/
theorem waits_of_ready {c : Cmd} {r : Req} {k : Taken} {s : State} {i : Instr} {why : Why} {post : State → State → Prop}
    {f : State → State} (h : Ready c r k s) (hi : exec i s = .next (f (runCmd c r s))) (hw : (c.act k.role r (s.starting k)).wait = some why)
    (hq : post (s.starting k) (c.act k.role r (s.starting k)).st) : Waits i s k why post f := by
  refine ⟨(c.act k.role r (s.starting k)).st, ?_, hq⟩
  rw [hi, runCmd_ready h, hw]

@[simp] theorem State.starting_rf (s : State) (k : Taken) (e : Nat) (f : Fld) : (s.starting k).rf e f = s.rf e f := rfl
@[simp] theorem State.starting_on (s : State) (k : Taken) (e : Nat) (f : Fld) : (s.starting k).on e f = s.on e f := rfl
@[simp] theorem State.starting_engState (s : State) (k : Taken) (e : Nat) : (s.starting k).engState e = s.engState e := rfl

end Sys2Proof.Machine
end

