-- ==== Sys2Proof/Laws/State.lean ====
section
/-! SUPPORT. Laws of the named updates of State: one per field per update, each true by definition, so that no proof unfolds a record update. (Those of
`State.wf` stand in Laws/Ops.lean.) -/
namespace Sys2Proof.Machine


/-! #### `State.clearFld` -/

@[simp] theorem State.clearFld_pending (s : State) (e : Nat) (f : Fld) : (s.clearFld e f).pending = s.pending := rfl
@[simp] theorem State.clearFld_flds (s : State) (e : Nat) (f : Fld) : (s.clearFld e f).flds = s.flds.del (fldKey e f) := rfl
@[simp] theorem State.clearFld_engx (s : State) (e : Nat) (f : Fld) : (s.clearFld e f).engx = s.engx := rfl
@[simp] theorem State.clearFld_chan (s : State) (e : Nat) (f : Fld) : (s.clearFld e f).chan = s.chan := rfl
@[simp] theorem State.clearFld_clk (s : State) (e : Nat) (f : Fld) : (s.clearFld e f).clk = s.clk := rfl
@[simp] theorem State.clearFld_log (s : State) (e : Nat) (f : Fld) : (s.clearFld e f).log = s.log := rfl
@[simp] theorem State.clearFld_pages (s : State) (e : Nat) (f : Fld) : (s.clearFld e f).pages = s.pages := rfl
@[simp] theorem State.clearFld_disp (s : State) (e : Nat) (f : Fld) : (s.clearFld e f).disp = s.disp := rfl
@[simp] theorem State.clearFld_sched (s : State) (e : Nat) (f : Fld) : (s.clearFld e f).sched = s.sched := rfl
@[simp] theorem State.clearFld_pon (s : State) (e : Nat) (f : Fld) : (s.clearFld e f).pon = s.pon := rfl
@[simp] theorem State.clearFld_opt (s : State) (e : Nat) (f : Fld) : (s.clearFld e f).opt = s.opt := rfl
@[simp] theorem State.clearFld_boot (s : State) (e : Nat) (f : Fld) : (s.clearFld e f).boot = s.boot := rfl
@[simp] theorem State.clearFld_cry (s : State) (e : Nat) (f : Fld) : (s.clearFld e f).cry = s.cry := rfl
@[simp] theorem State.clearFld_tdm (s : State) (e : Nat) (f : Fld) : (s.clearFld e f).tdm = s.tdm := rfl
@[simp] theorem State.clearFld_cls (s : State) (e : Nat) (f : Fld) : (s.clearFld e f).cls = s.cls := rfl
@[simp] theorem State.clearFld_client (s : State) (e : Nat) (f : Fld) : (s.clearFld e f).client = s.client := rfl
@[simp] theorem State.clearFld_elapsed (s : State) (e : Nat) (f : Fld) : (s.clearFld e f).elapsed = s.elapsed := rfl
@[simp] theorem State.clearFld_freeCtr (s : State) (e : Nat) (f : Fld) : (s.clearFld e f).freeCtr = s.freeCtr := rfl
@[simp] theorem State.clearFld_emitted (s : State) (e : Nat) (f : Fld) : (s.clearFld e f).emitted = s.emitted := rfl

/-! #### `State.bumpN` -/

@[simp] theorem State.bumpN_pending (s : State) (e : Nat) (f : Fld) (n : Nat) : (s.bumpN e f n).pending = s.pending := rfl
@[simp] theorem State.bumpN_engx (s : State) (e : Nat) (f : Fld) (n : Nat) : (s.bumpN e f n).engx = s.engx := rfl
@[simp] theorem State.bumpN_chan (s : State) (e : Nat) (f : Fld) (n : Nat) : (s.bumpN e f n).chan = s.chan := rfl
@[simp] theorem State.bumpN_clk (s : State) (e : Nat) (f : Fld) (n : Nat) : (s.bumpN e f n).clk = s.clk := rfl
@[simp] theorem State.bumpN_log (s : State) (e : Nat) (f : Fld) (n : Nat) : (s.bumpN e f n).log = s.log := rfl
@[simp] theorem State.bumpN_pages (s : State) (e : Nat) (f : Fld) (n : Nat) : (s.bumpN e f n).pages = s.pages := rfl
@[simp] theorem State.bumpN_disp (s : State) (e : Nat) (f : Fld) (n : Nat) : (s.bumpN e f n).disp = s.disp := rfl
@[simp] theorem State.bumpN_sched (s : State) (e : Nat) (f : Fld) (n : Nat) : (s.bumpN e f n).sched = s.sched := rfl
@[simp] theorem State.bumpN_pon (s : State) (e : Nat) (f : Fld) (n : Nat) : (s.bumpN e f n).pon = s.pon := rfl
@[simp] theorem State.bumpN_opt (s : State) (e : Nat) (f : Fld) (n : Nat) : (s.bumpN e f n).opt = s.opt := rfl
@[simp] theorem State.bumpN_boot (s : State) (e : Nat) (f : Fld) (n : Nat) : (s.bumpN e f n).boot = s.boot := rfl
@[simp] theorem State.bumpN_cry (s : State) (e : Nat) (f : Fld) (n : Nat) : (s.bumpN e f n).cry = s.cry := rfl
@[simp] theorem State.bumpN_tdm (s : State) (e : Nat) (f : Fld) (n : Nat) : (s.bumpN e f n).tdm = s.tdm := rfl
@[simp] theorem State.bumpN_cls (s : State) (e : Nat) (f : Fld) (n : Nat) : (s.bumpN e f n).cls = s.cls := rfl
@[simp] theorem State.bumpN_client (s : State) (e : Nat) (f : Fld) (n : Nat) : (s.bumpN e f n).client = s.client := rfl
@[simp] theorem State.bumpN_elapsed (s : State) (e : Nat) (f : Fld) (n : Nat) : (s.bumpN e f n).elapsed = s.elapsed := rfl
@[simp] theorem State.bumpN_freeCtr (s : State) (e : Nat) (f : Fld) (n : Nat) : (s.bumpN e f n).freeCtr = s.freeCtr := rfl
@[simp] theorem State.bumpN_emitted (s : State) (e : Nat) (f : Fld) (n : Nat) : (s.bumpN e f n).emitted = s.emitted := rfl

/-! #### `State.bump` -/

@[simp] theorem State.bump_pending (s : State) (e : Nat) (f : Fld) : (s.bump e f).pending = s.pending := rfl
@[simp] theorem State.bump_engx (s : State) (e : Nat) (f : Fld) : (s.bump e f).engx = s.engx := rfl
@[simp] theorem State.bump_chan (s : State) (e : Nat) (f : Fld) : (s.bump e f).chan = s.chan := rfl
@[simp] theorem State.bump_clk (s : State) (e : Nat) (f : Fld) : (s.bump e f).clk = s.clk := rfl
@[simp] theorem State.bump_log (s : State) (e : Nat) (f : Fld) : (s.bump e f).log = s.log := rfl
@[simp] theorem State.bump_pages (s : State) (e : Nat) (f : Fld) : (s.bump e f).pages = s.pages := rfl
@[simp] theorem State.bump_disp (s : State) (e : Nat) (f : Fld) : (s.bump e f).disp = s.disp := rfl
@[simp] theorem State.bump_sched (s : State) (e : Nat) (f : Fld) : (s.bump e f).sched = s.sched := rfl
@[simp] theorem State.bump_pon (s : State) (e : Nat) (f : Fld) : (s.bump e f).pon = s.pon := rfl
@[simp] theorem State.bump_opt (s : State) (e : Nat) (f : Fld) : (s.bump e f).opt = s.opt := rfl
@[simp] theorem State.bump_boot (s : State) (e : Nat) (f : Fld) : (s.bump e f).boot = s.boot := rfl
@[simp] theorem State.bump_cry (s : State) (e : Nat) (f : Fld) : (s.bump e f).cry = s.cry := rfl
@[simp] theorem State.bump_tdm (s : State) (e : Nat) (f : Fld) : (s.bump e f).tdm = s.tdm := rfl
@[simp] theorem State.bump_cls (s : State) (e : Nat) (f : Fld) : (s.bump e f).cls = s.cls := rfl
@[simp] theorem State.bump_client (s : State) (e : Nat) (f : Fld) : (s.bump e f).client = s.client := rfl
@[simp] theorem State.bump_elapsed (s : State) (e : Nat) (f : Fld) : (s.bump e f).elapsed = s.elapsed := rfl
@[simp] theorem State.bump_freeCtr (s : State) (e : Nat) (f : Fld) : (s.bump e f).freeCtr = s.freeCtr := rfl
@[simp] theorem State.bump_emitted (s : State) (e : Nat) (f : Fld) : (s.bump e f).emitted = s.emitted := rfl

/-! #### `State.modEx` -/

@[simp] theorem State.modEx_pending (s : State) (e : Nat) (g : EngX → EngX) : (s.modEx e g).pending = s.pending := rfl
@[simp] theorem State.modEx_flds (s : State) (e : Nat) (g : EngX → EngX) : (s.modEx e g).flds = s.flds := rfl
@[simp] theorem State.modEx_engx (s : State) (e : Nat) (g : EngX → EngX) : (s.modEx e g).engx = s.engx.upd e {} g := rfl
@[simp] theorem State.modEx_chan (s : State) (e : Nat) (g : EngX → EngX) : (s.modEx e g).chan = s.chan := rfl
@[simp] theorem State.modEx_clk (s : State) (e : Nat) (g : EngX → EngX) : (s.modEx e g).clk = s.clk := rfl
@[simp] theorem State.modEx_log (s : State) (e : Nat) (g : EngX → EngX) : (s.modEx e g).log = s.log := rfl
@[simp] theorem State.modEx_pages (s : State) (e : Nat) (g : EngX → EngX) : (s.modEx e g).pages = s.pages := rfl
@[simp] theorem State.modEx_disp (s : State) (e : Nat) (g : EngX → EngX) : (s.modEx e g).disp = s.disp := rfl
@[simp] theorem State.modEx_sched (s : State) (e : Nat) (g : EngX → EngX) : (s.modEx e g).sched = s.sched := rfl
@[simp] theorem State.modEx_pon (s : State) (e : Nat) (g : EngX → EngX) : (s.modEx e g).pon = s.pon := rfl
@[simp] theorem State.modEx_opt (s : State) (e : Nat) (g : EngX → EngX) : (s.modEx e g).opt = s.opt := rfl
@[simp] theorem State.modEx_boot (s : State) (e : Nat) (g : EngX → EngX) : (s.modEx e g).boot = s.boot := rfl
@[simp] theorem State.modEx_cry (s : State) (e : Nat) (g : EngX → EngX) : (s.modEx e g).cry = s.cry := rfl
@[simp] theorem State.modEx_tdm (s : State) (e : Nat) (g : EngX → EngX) : (s.modEx e g).tdm = s.tdm := rfl
@[simp] theorem State.modEx_cls (s : State) (e : Nat) (g : EngX → EngX) : (s.modEx e g).cls = s.cls := rfl
@[simp] theorem State.modEx_client (s : State) (e : Nat) (g : EngX → EngX) : (s.modEx e g).client = s.client := rfl
@[simp] theorem State.modEx_elapsed (s : State) (e : Nat) (g : EngX → EngX) : (s.modEx e g).elapsed = s.elapsed := rfl
@[simp] theorem State.modEx_freeCtr (s : State) (e : Nat) (g : EngX → EngX) : (s.modEx e g).freeCtr = s.freeCtr := rfl
@[simp] theorem State.modEx_emitted (s : State) (e : Nat) (g : EngX → EngX) : (s.modEx e g).emitted = s.emitted := rfl
@[simp] theorem State.modEx_rf (s : State) (e₁ : Nat) (g : EngX → EngX) (e : Nat) (f : Fld) : (s.modEx e₁ g).rf e f = s.rf e f := rfl

/-! #### `State.modVt` -/

@[simp] theorem State.modVt_pending (s : State) (v : Nat) (g : Vt → Vt) : (s.modVt v g).pending = s.pending := rfl
@[simp] theorem State.modVt_flds (s : State) (v : Nat) (g : Vt → Vt) : (s.modVt v g).flds = s.flds := rfl
@[simp] theorem State.modVt_engx (s : State) (v : Nat) (g : Vt → Vt) : (s.modVt v g).engx = s.engx := rfl
@[simp] theorem State.modVt_chan (s : State) (v : Nat) (g : Vt → Vt) : (s.modVt v g).chan = s.chan := rfl
@[simp] theorem State.modVt_clk (s : State) (v : Nat) (g : Vt → Vt) : (s.modVt v g).clk = s.clk := rfl
@[simp] theorem State.modVt_log (s : State) (v : Nat) (g : Vt → Vt) : (s.modVt v g).log = s.log := rfl
@[simp] theorem State.modVt_pages (s : State) (v : Nat) (g : Vt → Vt) : (s.modVt v g).pages = s.pages := rfl
@[simp] theorem State.modVt_disp (s : State) (v : Nat) (g : Vt → Vt) : (s.modVt v g).disp = s.disp := rfl
@[simp] theorem State.modVt_sched (s : State) (v : Nat) (g : Vt → Vt) : (s.modVt v g).sched = s.sched := rfl
@[simp] theorem State.modVt_opt (s : State) (v : Nat) (g : Vt → Vt) : (s.modVt v g).opt = s.opt := rfl
@[simp] theorem State.modVt_boot (s : State) (v : Nat) (g : Vt → Vt) : (s.modVt v g).boot = s.boot := rfl
@[simp] theorem State.modVt_cry (s : State) (v : Nat) (g : Vt → Vt) : (s.modVt v g).cry = s.cry := rfl
@[simp] theorem State.modVt_tdm (s : State) (v : Nat) (g : Vt → Vt) : (s.modVt v g).tdm = s.tdm := rfl
@[simp] theorem State.modVt_cls (s : State) (v : Nat) (g : Vt → Vt) : (s.modVt v g).cls = s.cls := rfl
@[simp] theorem State.modVt_client (s : State) (v : Nat) (g : Vt → Vt) : (s.modVt v g).client = s.client := rfl
@[simp] theorem State.modVt_elapsed (s : State) (v : Nat) (g : Vt → Vt) : (s.modVt v g).elapsed = s.elapsed := rfl
@[simp] theorem State.modVt_freeCtr (s : State) (v : Nat) (g : Vt → Vt) : (s.modVt v g).freeCtr = s.freeCtr := rfl
@[simp] theorem State.modVt_emitted (s : State) (v : Nat) (g : Vt → Vt) : (s.modVt v g).emitted = s.emitted := rfl
@[simp] theorem State.modVt_rf (s : State) (v : Nat) (g : Vt → Vt) (e : Nat) (f : Fld) : (s.modVt v g).rf e f = s.rf e f := rfl

/-! #### `State.modCh` -/

@[simp] theorem State.modCh_pending (s : State) (c : Nat) (g : PonCh → PonCh) : (s.modCh c g).pending = s.pending := rfl
@[simp] theorem State.modCh_flds (s : State) (c : Nat) (g : PonCh → PonCh) : (s.modCh c g).flds = s.flds := rfl
@[simp] theorem State.modCh_engx (s : State) (c : Nat) (g : PonCh → PonCh) : (s.modCh c g).engx = s.engx := rfl
@[simp] theorem State.modCh_chan (s : State) (c : Nat) (g : PonCh → PonCh) : (s.modCh c g).chan = s.chan := rfl
@[simp] theorem State.modCh_clk (s : State) (c : Nat) (g : PonCh → PonCh) : (s.modCh c g).clk = s.clk := rfl
@[simp] theorem State.modCh_log (s : State) (c : Nat) (g : PonCh → PonCh) : (s.modCh c g).log = s.log := rfl
@[simp] theorem State.modCh_pages (s : State) (c : Nat) (g : PonCh → PonCh) : (s.modCh c g).pages = s.pages := rfl
@[simp] theorem State.modCh_disp (s : State) (c : Nat) (g : PonCh → PonCh) : (s.modCh c g).disp = s.disp := rfl
@[simp] theorem State.modCh_sched (s : State) (c : Nat) (g : PonCh → PonCh) : (s.modCh c g).sched = s.sched := rfl
@[simp] theorem State.modCh_opt (s : State) (c : Nat) (g : PonCh → PonCh) : (s.modCh c g).opt = s.opt := rfl
@[simp] theorem State.modCh_boot (s : State) (c : Nat) (g : PonCh → PonCh) : (s.modCh c g).boot = s.boot := rfl
@[simp] theorem State.modCh_cry (s : State) (c : Nat) (g : PonCh → PonCh) : (s.modCh c g).cry = s.cry := rfl
@[simp] theorem State.modCh_tdm (s : State) (c : Nat) (g : PonCh → PonCh) : (s.modCh c g).tdm = s.tdm := rfl
@[simp] theorem State.modCh_cls (s : State) (c : Nat) (g : PonCh → PonCh) : (s.modCh c g).cls = s.cls := rfl
@[simp] theorem State.modCh_client (s : State) (c : Nat) (g : PonCh → PonCh) : (s.modCh c g).client = s.client := rfl
@[simp] theorem State.modCh_elapsed (s : State) (c : Nat) (g : PonCh → PonCh) : (s.modCh c g).elapsed = s.elapsed := rfl
@[simp] theorem State.modCh_freeCtr (s : State) (c : Nat) (g : PonCh → PonCh) : (s.modCh c g).freeCtr = s.freeCtr := rfl
@[simp] theorem State.modCh_emitted (s : State) (c : Nat) (g : PonCh → PonCh) : (s.modCh c g).emitted = s.emitted := rfl
@[simp] theorem State.modCh_rf (s : State) (c : Nat) (g : PonCh → PonCh) (e : Nat) (f : Fld) : (s.modCh c g).rf e f = s.rf e f := rfl

/-! #### `State.modGroup` -/

@[simp] theorem State.modGroup_pending (s : State) (n : Nat) (g : Group → Group) : (s.modGroup n g).pending = s.pending := rfl
@[simp] theorem State.modGroup_flds (s : State) (n : Nat) (g : Group → Group) : (s.modGroup n g).flds = s.flds := rfl
@[simp] theorem State.modGroup_engx (s : State) (n : Nat) (g : Group → Group) : (s.modGroup n g).engx = s.engx := rfl
@[simp] theorem State.modGroup_chan (s : State) (n : Nat) (g : Group → Group) : (s.modGroup n g).chan = s.chan := rfl
@[simp] theorem State.modGroup_clk (s : State) (n : Nat) (g : Group → Group) : (s.modGroup n g).clk = s.clk := rfl
@[simp] theorem State.modGroup_log (s : State) (n : Nat) (g : Group → Group) : (s.modGroup n g).log = s.log := rfl
@[simp] theorem State.modGroup_pages (s : State) (n : Nat) (g : Group → Group) : (s.modGroup n g).pages = s.pages := rfl
@[simp] theorem State.modGroup_disp (s : State) (n : Nat) (g : Group → Group) : (s.modGroup n g).disp = s.disp := rfl
@[simp] theorem State.modGroup_sched (s : State) (n : Nat) (g : Group → Group) : (s.modGroup n g).sched = s.sched := rfl
@[simp] theorem State.modGroup_opt (s : State) (n : Nat) (g : Group → Group) : (s.modGroup n g).opt = s.opt := rfl
@[simp] theorem State.modGroup_boot (s : State) (n : Nat) (g : Group → Group) : (s.modGroup n g).boot = s.boot := rfl
@[simp] theorem State.modGroup_cry (s : State) (n : Nat) (g : Group → Group) : (s.modGroup n g).cry = s.cry := rfl
@[simp] theorem State.modGroup_tdm (s : State) (n : Nat) (g : Group → Group) : (s.modGroup n g).tdm = s.tdm := rfl
@[simp] theorem State.modGroup_cls (s : State) (n : Nat) (g : Group → Group) : (s.modGroup n g).cls = s.cls := rfl
@[simp] theorem State.modGroup_client (s : State) (n : Nat) (g : Group → Group) : (s.modGroup n g).client = s.client := rfl
@[simp] theorem State.modGroup_elapsed (s : State) (n : Nat) (g : Group → Group) : (s.modGroup n g).elapsed = s.elapsed := rfl
@[simp] theorem State.modGroup_freeCtr (s : State) (n : Nat) (g : Group → Group) : (s.modGroup n g).freeCtr = s.freeCtr := rfl
@[simp] theorem State.modGroup_emitted (s : State) (n : Nat) (g : Group → Group) : (s.modGroup n g).emitted = s.emitted := rfl
@[simp] theorem State.modGroup_rf (s : State) (n : Nat) (g : Group → Group) (e : Nat) (f : Fld) : (s.modGroup n g).rf e f = s.rf e f := rfl

/-! #### `State.modPair` -/

@[simp] theorem State.modPair_pending (s : State) (g : Pair → Pair) : (s.modPair g).pending = s.pending := rfl
@[simp] theorem State.modPair_flds (s : State) (g : Pair → Pair) : (s.modPair g).flds = s.flds := rfl
@[simp] theorem State.modPair_engx (s : State) (g : Pair → Pair) : (s.modPair g).engx = s.engx := rfl
@[simp] theorem State.modPair_chan (s : State) (g : Pair → Pair) : (s.modPair g).chan = s.chan := rfl
@[simp] theorem State.modPair_clk (s : State) (g : Pair → Pair) : (s.modPair g).clk = s.clk := rfl
@[simp] theorem State.modPair_log (s : State) (g : Pair → Pair) : (s.modPair g).log = s.log := rfl
@[simp] theorem State.modPair_pages (s : State) (g : Pair → Pair) : (s.modPair g).pages = s.pages := rfl
@[simp] theorem State.modPair_disp (s : State) (g : Pair → Pair) : (s.modPair g).disp = s.disp := rfl
@[simp] theorem State.modPair_sched (s : State) (g : Pair → Pair) : (s.modPair g).sched = s.sched := rfl
@[simp] theorem State.modPair_opt (s : State) (g : Pair → Pair) : (s.modPair g).opt = s.opt := rfl
@[simp] theorem State.modPair_boot (s : State) (g : Pair → Pair) : (s.modPair g).boot = s.boot := rfl
@[simp] theorem State.modPair_cry (s : State) (g : Pair → Pair) : (s.modPair g).cry = s.cry := rfl
@[simp] theorem State.modPair_tdm (s : State) (g : Pair → Pair) : (s.modPair g).tdm = s.tdm := rfl
@[simp] theorem State.modPair_cls (s : State) (g : Pair → Pair) : (s.modPair g).cls = s.cls := rfl
@[simp] theorem State.modPair_client (s : State) (g : Pair → Pair) : (s.modPair g).client = s.client := rfl
@[simp] theorem State.modPair_elapsed (s : State) (g : Pair → Pair) : (s.modPair g).elapsed = s.elapsed := rfl
@[simp] theorem State.modPair_freeCtr (s : State) (g : Pair → Pair) : (s.modPair g).freeCtr = s.freeCtr := rfl
@[simp] theorem State.modPair_emitted (s : State) (g : Pair → Pair) : (s.modPair g).emitted = s.emitted := rfl
@[simp] theorem State.modPair_rf (s : State) (g : Pair → Pair) (e : Nat) (f : Fld) : (s.modPair g).rf e f = s.rf e f := rfl

/-! #### `State.modCry` -/

@[simp] theorem State.modCry_pending (s : State) (g : Crypto → Crypto) : (s.modCry g).pending = s.pending := rfl
@[simp] theorem State.modCry_flds (s : State) (g : Crypto → Crypto) : (s.modCry g).flds = s.flds := rfl
@[simp] theorem State.modCry_engx (s : State) (g : Crypto → Crypto) : (s.modCry g).engx = s.engx := rfl
@[simp] theorem State.modCry_chan (s : State) (g : Crypto → Crypto) : (s.modCry g).chan = s.chan := rfl
@[simp] theorem State.modCry_clk (s : State) (g : Crypto → Crypto) : (s.modCry g).clk = s.clk := rfl
@[simp] theorem State.modCry_log (s : State) (g : Crypto → Crypto) : (s.modCry g).log = s.log := rfl
@[simp] theorem State.modCry_pages (s : State) (g : Crypto → Crypto) : (s.modCry g).pages = s.pages := rfl
@[simp] theorem State.modCry_disp (s : State) (g : Crypto → Crypto) : (s.modCry g).disp = s.disp := rfl
@[simp] theorem State.modCry_sched (s : State) (g : Crypto → Crypto) : (s.modCry g).sched = s.sched := rfl
@[simp] theorem State.modCry_pon (s : State) (g : Crypto → Crypto) : (s.modCry g).pon = s.pon := rfl
@[simp] theorem State.modCry_opt (s : State) (g : Crypto → Crypto) : (s.modCry g).opt = s.opt := rfl
@[simp] theorem State.modCry_boot (s : State) (g : Crypto → Crypto) : (s.modCry g).boot = s.boot := rfl
@[simp] theorem State.modCry_cry (s : State) (g : Crypto → Crypto) : (s.modCry g).cry = g s.cry := rfl
@[simp] theorem State.modCry_tdm (s : State) (g : Crypto → Crypto) : (s.modCry g).tdm = s.tdm := rfl
@[simp] theorem State.modCry_cls (s : State) (g : Crypto → Crypto) : (s.modCry g).cls = s.cls := rfl
@[simp] theorem State.modCry_client (s : State) (g : Crypto → Crypto) : (s.modCry g).client = s.client := rfl
@[simp] theorem State.modCry_elapsed (s : State) (g : Crypto → Crypto) : (s.modCry g).elapsed = s.elapsed := rfl
@[simp] theorem State.modCry_freeCtr (s : State) (g : Crypto → Crypto) : (s.modCry g).freeCtr = s.freeCtr := rfl
@[simp] theorem State.modCry_emitted (s : State) (g : Crypto → Crypto) : (s.modCry g).emitted = s.emitted := rfl
@[simp] theorem State.modCry_rf (s : State) (g : Crypto → Crypto) (e : Nat) (f : Fld) : (s.modCry g).rf e f = s.rf e f := rfl

/-! #### `State.modSlot` -/

@[simp] theorem State.modSlot_pending (s : State) (n : Nat) (g : Slot → Slot) : (s.modSlot n g).pending = s.pending := rfl
@[simp] theorem State.modSlot_flds (s : State) (n : Nat) (g : Slot → Slot) : (s.modSlot n g).flds = s.flds := rfl
@[simp] theorem State.modSlot_engx (s : State) (n : Nat) (g : Slot → Slot) : (s.modSlot n g).engx = s.engx := rfl
@[simp] theorem State.modSlot_chan (s : State) (n : Nat) (g : Slot → Slot) : (s.modSlot n g).chan = s.chan := rfl
@[simp] theorem State.modSlot_clk (s : State) (n : Nat) (g : Slot → Slot) : (s.modSlot n g).clk = s.clk := rfl
@[simp] theorem State.modSlot_log (s : State) (n : Nat) (g : Slot → Slot) : (s.modSlot n g).log = s.log := rfl
@[simp] theorem State.modSlot_pages (s : State) (n : Nat) (g : Slot → Slot) : (s.modSlot n g).pages = s.pages := rfl
@[simp] theorem State.modSlot_disp (s : State) (n : Nat) (g : Slot → Slot) : (s.modSlot n g).disp = s.disp := rfl
@[simp] theorem State.modSlot_sched (s : State) (n : Nat) (g : Slot → Slot) : (s.modSlot n g).sched = s.sched := rfl
@[simp] theorem State.modSlot_pon (s : State) (n : Nat) (g : Slot → Slot) : (s.modSlot n g).pon = s.pon := rfl
@[simp] theorem State.modSlot_opt (s : State) (n : Nat) (g : Slot → Slot) : (s.modSlot n g).opt = s.opt := rfl
@[simp] theorem State.modSlot_boot (s : State) (n : Nat) (g : Slot → Slot) : (s.modSlot n g).boot = s.boot := rfl
@[simp] theorem State.modSlot_tdm (s : State) (n : Nat) (g : Slot → Slot) : (s.modSlot n g).tdm = s.tdm := rfl
@[simp] theorem State.modSlot_cls (s : State) (n : Nat) (g : Slot → Slot) : (s.modSlot n g).cls = s.cls := rfl
@[simp] theorem State.modSlot_client (s : State) (n : Nat) (g : Slot → Slot) : (s.modSlot n g).client = s.client := rfl
@[simp] theorem State.modSlot_elapsed (s : State) (n : Nat) (g : Slot → Slot) : (s.modSlot n g).elapsed = s.elapsed := rfl
@[simp] theorem State.modSlot_freeCtr (s : State) (n : Nat) (g : Slot → Slot) : (s.modSlot n g).freeCtr = s.freeCtr := rfl
@[simp] theorem State.modSlot_emitted (s : State) (n : Nat) (g : Slot → Slot) : (s.modSlot n g).emitted = s.emitted := rfl
@[simp] theorem State.modSlot_rf (s : State) (n : Nat) (g : Slot → Slot) (e : Nat) (f : Fld) : (s.modSlot n g).rf e f = s.rf e f := rfl

/-! #### `State.modSa` -/

@[simp] theorem State.modSa_pending (s : State) (n : Nat) (g : Sa → Sa) : (s.modSa n g).pending = s.pending := rfl
@[simp] theorem State.modSa_flds (s : State) (n : Nat) (g : Sa → Sa) : (s.modSa n g).flds = s.flds := rfl
@[simp] theorem State.modSa_engx (s : State) (n : Nat) (g : Sa → Sa) : (s.modSa n g).engx = s.engx := rfl
@[simp] theorem State.modSa_chan (s : State) (n : Nat) (g : Sa → Sa) : (s.modSa n g).chan = s.chan := rfl
@[simp] theorem State.modSa_clk (s : State) (n : Nat) (g : Sa → Sa) : (s.modSa n g).clk = s.clk := rfl
@[simp] theorem State.modSa_log (s : State) (n : Nat) (g : Sa → Sa) : (s.modSa n g).log = s.log := rfl
@[simp] theorem State.modSa_pages (s : State) (n : Nat) (g : Sa → Sa) : (s.modSa n g).pages = s.pages := rfl
@[simp] theorem State.modSa_disp (s : State) (n : Nat) (g : Sa → Sa) : (s.modSa n g).disp = s.disp := rfl
@[simp] theorem State.modSa_sched (s : State) (n : Nat) (g : Sa → Sa) : (s.modSa n g).sched = s.sched := rfl
@[simp] theorem State.modSa_pon (s : State) (n : Nat) (g : Sa → Sa) : (s.modSa n g).pon = s.pon := rfl
@[simp] theorem State.modSa_opt (s : State) (n : Nat) (g : Sa → Sa) : (s.modSa n g).opt = s.opt := rfl
@[simp] theorem State.modSa_boot (s : State) (n : Nat) (g : Sa → Sa) : (s.modSa n g).boot = s.boot := rfl
@[simp] theorem State.modSa_tdm (s : State) (n : Nat) (g : Sa → Sa) : (s.modSa n g).tdm = s.tdm := rfl
@[simp] theorem State.modSa_cls (s : State) (n : Nat) (g : Sa → Sa) : (s.modSa n g).cls = s.cls := rfl
@[simp] theorem State.modSa_client (s : State) (n : Nat) (g : Sa → Sa) : (s.modSa n g).client = s.client := rfl
@[simp] theorem State.modSa_elapsed (s : State) (n : Nat) (g : Sa → Sa) : (s.modSa n g).elapsed = s.elapsed := rfl
@[simp] theorem State.modSa_freeCtr (s : State) (n : Nat) (g : Sa → Sa) : (s.modSa n g).freeCtr = s.freeCtr := rfl
@[simp] theorem State.modSa_emitted (s : State) (n : Nat) (g : Sa → Sa) : (s.modSa n g).emitted = s.emitted := rfl
@[simp] theorem State.modSa_rf (s : State) (n : Nat) (g : Sa → Sa) (e : Nat) (f : Fld) : (s.modSa n g).rf e f = s.rf e f := rfl

/-! #### `State.modTdm` -/

@[simp] theorem State.modTdm_pending (s : State) (g : Tdm → Tdm) : (s.modTdm g).pending = s.pending := rfl
@[simp] theorem State.modTdm_flds (s : State) (g : Tdm → Tdm) : (s.modTdm g).flds = s.flds := rfl
@[simp] theorem State.modTdm_engx (s : State) (g : Tdm → Tdm) : (s.modTdm g).engx = s.engx := rfl
@[simp] theorem State.modTdm_chan (s : State) (g : Tdm → Tdm) : (s.modTdm g).chan = s.chan := rfl
@[simp] theorem State.modTdm_clk (s : State) (g : Tdm → Tdm) : (s.modTdm g).clk = s.clk := rfl
@[simp] theorem State.modTdm_log (s : State) (g : Tdm → Tdm) : (s.modTdm g).log = s.log := rfl
@[simp] theorem State.modTdm_pages (s : State) (g : Tdm → Tdm) : (s.modTdm g).pages = s.pages := rfl
@[simp] theorem State.modTdm_disp (s : State) (g : Tdm → Tdm) : (s.modTdm g).disp = s.disp := rfl
@[simp] theorem State.modTdm_sched (s : State) (g : Tdm → Tdm) : (s.modTdm g).sched = s.sched := rfl
@[simp] theorem State.modTdm_pon (s : State) (g : Tdm → Tdm) : (s.modTdm g).pon = s.pon := rfl
@[simp] theorem State.modTdm_opt (s : State) (g : Tdm → Tdm) : (s.modTdm g).opt = s.opt := rfl
@[simp] theorem State.modTdm_boot (s : State) (g : Tdm → Tdm) : (s.modTdm g).boot = s.boot := rfl
@[simp] theorem State.modTdm_cry (s : State) (g : Tdm → Tdm) : (s.modTdm g).cry = s.cry := rfl
@[simp] theorem State.modTdm_tdm (s : State) (g : Tdm → Tdm) : (s.modTdm g).tdm = g s.tdm := rfl
@[simp] theorem State.modTdm_cls (s : State) (g : Tdm → Tdm) : (s.modTdm g).cls = s.cls := rfl
@[simp] theorem State.modTdm_client (s : State) (g : Tdm → Tdm) : (s.modTdm g).client = s.client := rfl
@[simp] theorem State.modTdm_elapsed (s : State) (g : Tdm → Tdm) : (s.modTdm g).elapsed = s.elapsed := rfl
@[simp] theorem State.modTdm_freeCtr (s : State) (g : Tdm → Tdm) : (s.modTdm g).freeCtr = s.freeCtr := rfl
@[simp] theorem State.modTdm_emitted (s : State) (g : Tdm → Tdm) : (s.modTdm g).emitted = s.emitted := rfl
@[simp] theorem State.modTdm_rf (s : State) (g : Tdm → Tdm) (e : Nat) (f : Fld) : (s.modTdm g).rf e f = s.rf e f := rfl

/-! #### `State.modCls` -/

@[simp] theorem State.modCls_pending (s : State) (g : Cls → Cls) : (s.modCls g).pending = s.pending := rfl
@[simp] theorem State.modCls_flds (s : State) (g : Cls → Cls) : (s.modCls g).flds = s.flds := rfl
@[simp] theorem State.modCls_engx (s : State) (g : Cls → Cls) : (s.modCls g).engx = s.engx := rfl
@[simp] theorem State.modCls_chan (s : State) (g : Cls → Cls) : (s.modCls g).chan = s.chan := rfl
@[simp] theorem State.modCls_clk (s : State) (g : Cls → Cls) : (s.modCls g).clk = s.clk := rfl
@[simp] theorem State.modCls_log (s : State) (g : Cls → Cls) : (s.modCls g).log = s.log := rfl
@[simp] theorem State.modCls_pages (s : State) (g : Cls → Cls) : (s.modCls g).pages = s.pages := rfl
@[simp] theorem State.modCls_disp (s : State) (g : Cls → Cls) : (s.modCls g).disp = s.disp := rfl
@[simp] theorem State.modCls_sched (s : State) (g : Cls → Cls) : (s.modCls g).sched = s.sched := rfl
@[simp] theorem State.modCls_pon (s : State) (g : Cls → Cls) : (s.modCls g).pon = s.pon := rfl
@[simp] theorem State.modCls_opt (s : State) (g : Cls → Cls) : (s.modCls g).opt = s.opt := rfl
@[simp] theorem State.modCls_boot (s : State) (g : Cls → Cls) : (s.modCls g).boot = s.boot := rfl
@[simp] theorem State.modCls_cry (s : State) (g : Cls → Cls) : (s.modCls g).cry = s.cry := rfl
@[simp] theorem State.modCls_tdm (s : State) (g : Cls → Cls) : (s.modCls g).tdm = s.tdm := rfl
@[simp] theorem State.modCls_cls (s : State) (g : Cls → Cls) : (s.modCls g).cls = g s.cls := rfl
@[simp] theorem State.modCls_client (s : State) (g : Cls → Cls) : (s.modCls g).client = s.client := rfl
@[simp] theorem State.modCls_elapsed (s : State) (g : Cls → Cls) : (s.modCls g).elapsed = s.elapsed := rfl
@[simp] theorem State.modCls_freeCtr (s : State) (g : Cls → Cls) : (s.modCls g).freeCtr = s.freeCtr := rfl
@[simp] theorem State.modCls_emitted (s : State) (g : Cls → Cls) : (s.modCls g).emitted = s.emitted := rfl
@[simp] theorem State.modCls_rf (s : State) (g : Cls → Cls) (e : Nat) (f : Fld) : (s.modCls g).rf e f = s.rf e f := rfl

/-! #### `State.modSched` -/

@[simp] theorem State.modSched_pending (s : State) (g : Sched → Sched) : (s.modSched g).pending = s.pending := rfl
@[simp] theorem State.modSched_flds (s : State) (g : Sched → Sched) : (s.modSched g).flds = s.flds := rfl
@[simp] theorem State.modSched_engx (s : State) (g : Sched → Sched) : (s.modSched g).engx = s.engx := rfl
@[simp] theorem State.modSched_chan (s : State) (g : Sched → Sched) : (s.modSched g).chan = s.chan := rfl
@[simp] theorem State.modSched_clk (s : State) (g : Sched → Sched) : (s.modSched g).clk = s.clk := rfl
@[simp] theorem State.modSched_log (s : State) (g : Sched → Sched) : (s.modSched g).log = s.log := rfl
@[simp] theorem State.modSched_pages (s : State) (g : Sched → Sched) : (s.modSched g).pages = s.pages := rfl
@[simp] theorem State.modSched_disp (s : State) (g : Sched → Sched) : (s.modSched g).disp = s.disp := rfl
@[simp] theorem State.modSched_sched (s : State) (g : Sched → Sched) : (s.modSched g).sched = g s.sched := rfl
@[simp] theorem State.modSched_pon (s : State) (g : Sched → Sched) : (s.modSched g).pon = s.pon := rfl
@[simp] theorem State.modSched_opt (s : State) (g : Sched → Sched) : (s.modSched g).opt = s.opt := rfl
@[simp] theorem State.modSched_boot (s : State) (g : Sched → Sched) : (s.modSched g).boot = s.boot := rfl
@[simp] theorem State.modSched_cry (s : State) (g : Sched → Sched) : (s.modSched g).cry = s.cry := rfl
@[simp] theorem State.modSched_tdm (s : State) (g : Sched → Sched) : (s.modSched g).tdm = s.tdm := rfl
@[simp] theorem State.modSched_cls (s : State) (g : Sched → Sched) : (s.modSched g).cls = s.cls := rfl
@[simp] theorem State.modSched_client (s : State) (g : Sched → Sched) : (s.modSched g).client = s.client := rfl
@[simp] theorem State.modSched_elapsed (s : State) (g : Sched → Sched) : (s.modSched g).elapsed = s.elapsed := rfl
@[simp] theorem State.modSched_freeCtr (s : State) (g : Sched → Sched) : (s.modSched g).freeCtr = s.freeCtr := rfl
@[simp] theorem State.modSched_emitted (s : State) (g : Sched → Sched) : (s.modSched g).emitted = s.emitted := rfl
@[simp] theorem State.modSched_rf (s : State) (g : Sched → Sched) (e : Nat) (f : Fld) : (s.modSched g).rf e f = s.rf e f := rfl

/-! #### `State.modLane` -/

@[simp] theorem State.modLane_pending (s : State) (l : Nat) (g : LaneSt → LaneSt) : (s.modLane l g).pending = s.pending := rfl
@[simp] theorem State.modLane_flds (s : State) (l : Nat) (g : LaneSt → LaneSt) : (s.modLane l g).flds = s.flds := rfl
@[simp] theorem State.modLane_engx (s : State) (l : Nat) (g : LaneSt → LaneSt) : (s.modLane l g).engx = s.engx := rfl
@[simp] theorem State.modLane_chan (s : State) (l : Nat) (g : LaneSt → LaneSt) : (s.modLane l g).chan = s.chan := rfl
@[simp] theorem State.modLane_clk (s : State) (l : Nat) (g : LaneSt → LaneSt) : (s.modLane l g).clk = s.clk := rfl
@[simp] theorem State.modLane_log (s : State) (l : Nat) (g : LaneSt → LaneSt) : (s.modLane l g).log = s.log := rfl
@[simp] theorem State.modLane_pages (s : State) (l : Nat) (g : LaneSt → LaneSt) : (s.modLane l g).pages = s.pages := rfl
@[simp] theorem State.modLane_disp (s : State) (l : Nat) (g : LaneSt → LaneSt) : (s.modLane l g).disp = s.disp := rfl
@[simp] theorem State.modLane_sched (s : State) (l : Nat) (g : LaneSt → LaneSt) : (s.modLane l g).sched = s.sched := rfl
@[simp] theorem State.modLane_pon (s : State) (l : Nat) (g : LaneSt → LaneSt) : (s.modLane l g).pon = s.pon := rfl
@[simp] theorem State.modLane_opt (s : State) (l : Nat) (g : LaneSt → LaneSt) : (s.modLane l g).opt = s.opt := rfl
@[simp] theorem State.modLane_boot (s : State) (l : Nat) (g : LaneSt → LaneSt) : (s.modLane l g).boot = s.boot := rfl
@[simp] theorem State.modLane_cry (s : State) (l : Nat) (g : LaneSt → LaneSt) : (s.modLane l g).cry = s.cry := rfl
@[simp] theorem State.modLane_tdm (s : State) (l : Nat) (g : LaneSt → LaneSt) : (s.modLane l g).tdm = s.tdm := rfl
@[simp] theorem State.modLane_cls (s : State) (l : Nat) (g : LaneSt → LaneSt) : (s.modLane l g).cls = s.cls := rfl
@[simp] theorem State.modLane_elapsed (s : State) (l : Nat) (g : LaneSt → LaneSt) : (s.modLane l g).elapsed = s.elapsed := rfl
@[simp] theorem State.modLane_freeCtr (s : State) (l : Nat) (g : LaneSt → LaneSt) : (s.modLane l g).freeCtr = s.freeCtr := rfl
@[simp] theorem State.modLane_emitted (s : State) (l : Nat) (g : LaneSt → LaneSt) : (s.modLane l g).emitted = s.emitted := rfl
@[simp] theorem State.modLane_rf (s : State) (l : Nat) (g : LaneSt → LaneSt) (e : Nat) (f : Fld) : (s.modLane l g).rf e f = s.rf e f := rfl

/-! #### `State.modMac` -/

@[simp] theorem State.modMac_pending (s : State) (l : Nat) (g : MacSt → MacSt) : (s.modMac l g).pending = s.pending := rfl
@[simp] theorem State.modMac_flds (s : State) (l : Nat) (g : MacSt → MacSt) : (s.modMac l g).flds = s.flds := rfl
@[simp] theorem State.modMac_engx (s : State) (l : Nat) (g : MacSt → MacSt) : (s.modMac l g).engx = s.engx := rfl
@[simp] theorem State.modMac_chan (s : State) (l : Nat) (g : MacSt → MacSt) : (s.modMac l g).chan = s.chan := rfl
@[simp] theorem State.modMac_clk (s : State) (l : Nat) (g : MacSt → MacSt) : (s.modMac l g).clk = s.clk := rfl
@[simp] theorem State.modMac_log (s : State) (l : Nat) (g : MacSt → MacSt) : (s.modMac l g).log = s.log := rfl
@[simp] theorem State.modMac_pages (s : State) (l : Nat) (g : MacSt → MacSt) : (s.modMac l g).pages = s.pages := rfl
@[simp] theorem State.modMac_disp (s : State) (l : Nat) (g : MacSt → MacSt) : (s.modMac l g).disp = s.disp := rfl
@[simp] theorem State.modMac_sched (s : State) (l : Nat) (g : MacSt → MacSt) : (s.modMac l g).sched = s.sched := rfl
@[simp] theorem State.modMac_pon (s : State) (l : Nat) (g : MacSt → MacSt) : (s.modMac l g).pon = s.pon := rfl
@[simp] theorem State.modMac_opt (s : State) (l : Nat) (g : MacSt → MacSt) : (s.modMac l g).opt = s.opt := rfl
@[simp] theorem State.modMac_boot (s : State) (l : Nat) (g : MacSt → MacSt) : (s.modMac l g).boot = s.boot := rfl
@[simp] theorem State.modMac_cry (s : State) (l : Nat) (g : MacSt → MacSt) : (s.modMac l g).cry = s.cry := rfl
@[simp] theorem State.modMac_tdm (s : State) (l : Nat) (g : MacSt → MacSt) : (s.modMac l g).tdm = s.tdm := rfl
@[simp] theorem State.modMac_cls (s : State) (l : Nat) (g : MacSt → MacSt) : (s.modMac l g).cls = s.cls := rfl
@[simp] theorem State.modMac_elapsed (s : State) (l : Nat) (g : MacSt → MacSt) : (s.modMac l g).elapsed = s.elapsed := rfl
@[simp] theorem State.modMac_freeCtr (s : State) (l : Nat) (g : MacSt → MacSt) : (s.modMac l g).freeCtr = s.freeCtr := rfl
@[simp] theorem State.modMac_emitted (s : State) (l : Nat) (g : MacSt → MacSt) : (s.modMac l g).emitted = s.emitted := rfl
@[simp] theorem State.modMac_rf (s : State) (l : Nat) (g : MacSt → MacSt) (e : Nat) (f : Fld) : (s.modMac l g).rf e f = s.rf e f := rfl

/-! #### `State.setReel` -/

@[simp] theorem State.setReel_pending (s : State) (n : Nat) (x : Reel) : (s.setReel n x).pending = s.pending := rfl
@[simp] theorem State.setReel_flds (s : State) (n : Nat) (x : Reel) : (s.setReel n x).flds = s.flds := rfl
@[simp] theorem State.setReel_engx (s : State) (n : Nat) (x : Reel) : (s.setReel n x).engx = s.engx := rfl
@[simp] theorem State.setReel_chan (s : State) (n : Nat) (x : Reel) : (s.setReel n x).chan = s.chan := rfl
@[simp] theorem State.setReel_clk (s : State) (n : Nat) (x : Reel) : (s.setReel n x).clk = s.clk := rfl
@[simp] theorem State.setReel_log (s : State) (n : Nat) (x : Reel) : (s.setReel n x).log = s.log := rfl
@[simp] theorem State.setReel_pages (s : State) (n : Nat) (x : Reel) : (s.setReel n x).pages = s.pages := rfl
@[simp] theorem State.setReel_disp (s : State) (n : Nat) (x : Reel) : (s.setReel n x).disp = s.disp := rfl
@[simp] theorem State.setReel_sched (s : State) (n : Nat) (x : Reel) : (s.setReel n x).sched = s.sched := rfl
@[simp] theorem State.setReel_pon (s : State) (n : Nat) (x : Reel) : (s.setReel n x).pon = s.pon := rfl
@[simp] theorem State.setReel_opt (s : State) (n : Nat) (x : Reel) : (s.setReel n x).opt = s.opt := rfl
@[simp] theorem State.setReel_cry (s : State) (n : Nat) (x : Reel) : (s.setReel n x).cry = s.cry := rfl
@[simp] theorem State.setReel_tdm (s : State) (n : Nat) (x : Reel) : (s.setReel n x).tdm = s.tdm := rfl
@[simp] theorem State.setReel_cls (s : State) (n : Nat) (x : Reel) : (s.setReel n x).cls = s.cls := rfl
@[simp] theorem State.setReel_client (s : State) (n : Nat) (x : Reel) : (s.setReel n x).client = s.client := rfl
@[simp] theorem State.setReel_elapsed (s : State) (n : Nat) (x : Reel) : (s.setReel n x).elapsed = s.elapsed := rfl
@[simp] theorem State.setReel_freeCtr (s : State) (n : Nat) (x : Reel) : (s.setReel n x).freeCtr = s.freeCtr := rfl
@[simp] theorem State.setReel_emitted (s : State) (n : Nat) (x : Reel) : (s.setReel n x).emitted = s.emitted := rfl
@[simp] theorem State.setReel_rf (s : State) (n : Nat) (x : Reel) (e : Nat) (f : Fld) : (s.setReel n x).rf e f = s.rf e f := rfl

/-! #### `State.modRng` -/

@[simp] theorem State.modRng_pending (s : State) (g : Rng → Rng) : (s.modRng g).pending = s.pending := rfl
@[simp] theorem State.modRng_flds (s : State) (g : Rng → Rng) : (s.modRng g).flds = s.flds := rfl
@[simp] theorem State.modRng_engx (s : State) (g : Rng → Rng) : (s.modRng g).engx = s.engx := rfl
@[simp] theorem State.modRng_chan (s : State) (g : Rng → Rng) : (s.modRng g).chan = s.chan := rfl
@[simp] theorem State.modRng_clk (s : State) (g : Rng → Rng) : (s.modRng g).clk = s.clk := rfl
@[simp] theorem State.modRng_log (s : State) (g : Rng → Rng) : (s.modRng g).log = s.log := rfl
@[simp] theorem State.modRng_pages (s : State) (g : Rng → Rng) : (s.modRng g).pages = s.pages := rfl
@[simp] theorem State.modRng_disp (s : State) (g : Rng → Rng) : (s.modRng g).disp = s.disp := rfl
@[simp] theorem State.modRng_sched (s : State) (g : Rng → Rng) : (s.modRng g).sched = s.sched := rfl
@[simp] theorem State.modRng_pon (s : State) (g : Rng → Rng) : (s.modRng g).pon = s.pon := rfl
@[simp] theorem State.modRng_opt (s : State) (g : Rng → Rng) : (s.modRng g).opt = s.opt := rfl
@[simp] theorem State.modRng_boot (s : State) (g : Rng → Rng) : (s.modRng g).boot = s.boot := rfl
@[simp] theorem State.modRng_tdm (s : State) (g : Rng → Rng) : (s.modRng g).tdm = s.tdm := rfl
@[simp] theorem State.modRng_cls (s : State) (g : Rng → Rng) : (s.modRng g).cls = s.cls := rfl
@[simp] theorem State.modRng_client (s : State) (g : Rng → Rng) : (s.modRng g).client = s.client := rfl
@[simp] theorem State.modRng_elapsed (s : State) (g : Rng → Rng) : (s.modRng g).elapsed = s.elapsed := rfl
@[simp] theorem State.modRng_freeCtr (s : State) (g : Rng → Rng) : (s.modRng g).freeCtr = s.freeCtr := rfl
@[simp] theorem State.modRng_emitted (s : State) (g : Rng → Rng) : (s.modRng g).emitted = s.emitted := rfl
@[simp] theorem State.modRng_rf (s : State) (g : Rng → Rng) (e : Nat) (f : Fld) : (s.modRng g).rf e f = s.rf e f := rfl

/-! #### `State.modCirc` -/

@[simp] theorem State.modCirc_pending (s : State) (c : Nat) (g : CircRt → CircRt) : (s.modCirc c g).pending = s.pending := rfl
@[simp] theorem State.modCirc_flds (s : State) (c : Nat) (g : CircRt → CircRt) : (s.modCirc c g).flds = s.flds := rfl
@[simp] theorem State.modCirc_engx (s : State) (c : Nat) (g : CircRt → CircRt) : (s.modCirc c g).engx = s.engx := rfl
@[simp] theorem State.modCirc_chan (s : State) (c : Nat) (g : CircRt → CircRt) : (s.modCirc c g).chan = s.chan := rfl
@[simp] theorem State.modCirc_clk (s : State) (c : Nat) (g : CircRt → CircRt) : (s.modCirc c g).clk = s.clk := rfl
@[simp] theorem State.modCirc_log (s : State) (c : Nat) (g : CircRt → CircRt) : (s.modCirc c g).log = s.log := rfl
@[simp] theorem State.modCirc_pages (s : State) (c : Nat) (g : CircRt → CircRt) : (s.modCirc c g).pages = s.pages := rfl
@[simp] theorem State.modCirc_disp (s : State) (c : Nat) (g : CircRt → CircRt) : (s.modCirc c g).disp = s.disp := rfl
@[simp] theorem State.modCirc_sched (s : State) (c : Nat) (g : CircRt → CircRt) : (s.modCirc c g).sched = s.sched := rfl
@[simp] theorem State.modCirc_pon (s : State) (c : Nat) (g : CircRt → CircRt) : (s.modCirc c g).pon = s.pon := rfl
@[simp] theorem State.modCirc_opt (s : State) (c : Nat) (g : CircRt → CircRt) : (s.modCirc c g).opt = s.opt := rfl
@[simp] theorem State.modCirc_boot (s : State) (c : Nat) (g : CircRt → CircRt) : (s.modCirc c g).boot = s.boot := rfl
@[simp] theorem State.modCirc_cry (s : State) (c : Nat) (g : CircRt → CircRt) : (s.modCirc c g).cry = s.cry := rfl
@[simp] theorem State.modCirc_cls (s : State) (c : Nat) (g : CircRt → CircRt) : (s.modCirc c g).cls = s.cls := rfl
@[simp] theorem State.modCirc_client (s : State) (c : Nat) (g : CircRt → CircRt) : (s.modCirc c g).client = s.client := rfl
@[simp] theorem State.modCirc_elapsed (s : State) (c : Nat) (g : CircRt → CircRt) : (s.modCirc c g).elapsed = s.elapsed := rfl
@[simp] theorem State.modCirc_freeCtr (s : State) (c : Nat) (g : CircRt → CircRt) : (s.modCirc c g).freeCtr = s.freeCtr := rfl
@[simp] theorem State.modCirc_emitted (s : State) (c : Nat) (g : CircRt → CircRt) : (s.modCirc c g).emitted = s.emitted := rfl
@[simp] theorem State.modCirc_rf (s : State) (c : Nat) (g : CircRt → CircRt) (e : Nat) (f : Fld) : (s.modCirc c g).rf e f = s.rf e f := rfl

/-! #### `State.emit` -/

@[simp] theorem State.emit_pending (s : State) (x : Emit) : (s.emit x).pending = s.pending := rfl
@[simp] theorem State.emit_flds (s : State) (x : Emit) : (s.emit x).flds = s.flds := rfl
@[simp] theorem State.emit_engx (s : State) (x : Emit) : (s.emit x).engx = s.engx := rfl
@[simp] theorem State.emit_chan (s : State) (x : Emit) : (s.emit x).chan = s.chan := rfl
@[simp] theorem State.emit_clk (s : State) (x : Emit) : (s.emit x).clk = s.clk := rfl
@[simp] theorem State.emit_log (s : State) (x : Emit) : (s.emit x).log = s.log := rfl
@[simp] theorem State.emit_pages (s : State) (x : Emit) : (s.emit x).pages = s.pages := rfl
@[simp] theorem State.emit_disp (s : State) (x : Emit) : (s.emit x).disp = s.disp := rfl
@[simp] theorem State.emit_sched (s : State) (x : Emit) : (s.emit x).sched = s.sched := rfl
@[simp] theorem State.emit_pon (s : State) (x : Emit) : (s.emit x).pon = s.pon := rfl
@[simp] theorem State.emit_opt (s : State) (x : Emit) : (s.emit x).opt = s.opt := rfl
@[simp] theorem State.emit_boot (s : State) (x : Emit) : (s.emit x).boot = s.boot := rfl
@[simp] theorem State.emit_cry (s : State) (x : Emit) : (s.emit x).cry = s.cry := rfl
@[simp] theorem State.emit_tdm (s : State) (x : Emit) : (s.emit x).tdm = s.tdm := rfl
@[simp] theorem State.emit_cls (s : State) (x : Emit) : (s.emit x).cls = s.cls := rfl
@[simp] theorem State.emit_client (s : State) (x : Emit) : (s.emit x).client = s.client := rfl
@[simp] theorem State.emit_elapsed (s : State) (x : Emit) : (s.emit x).elapsed = s.elapsed := rfl
@[simp] theorem State.emit_freeCtr (s : State) (x : Emit) : (s.emit x).freeCtr = s.freeCtr := rfl
@[simp] theorem State.emit_emitted (s : State) (x : Emit) : (s.emit x).emitted = s.emitted ++ [x] := rfl
@[simp] theorem State.emit_rf (s : State) (x : Emit) (e : Nat) (f : Fld) : (s.emit x).rf e f = s.rf e f := rfl

/-! #### `State.starting` -/

@[simp] theorem State.starting_pending (s : State) (k : Taken) : (s.starting k).pending = s.pending := rfl
@[simp] theorem State.starting_flds (s : State) (k : Taken) : (s.starting k).flds = s.flds := rfl
@[simp] theorem State.starting_engx (s : State) (k : Taken) : (s.starting k).engx = s.engx := rfl
@[simp] theorem State.starting_clk (s : State) (k : Taken) : (s.starting k).clk = s.clk := rfl
@[simp] theorem State.starting_log (s : State) (k : Taken) : (s.starting k).log = s.log := rfl
@[simp] theorem State.starting_pages (s : State) (k : Taken) : (s.starting k).pages = s.pages := rfl
@[simp] theorem State.starting_disp (s : State) (k : Taken) : (s.starting k).disp = s.disp := rfl
@[simp] theorem State.starting_sched (s : State) (k : Taken) : (s.starting k).sched = s.sched := rfl
@[simp] theorem State.starting_pon (s : State) (k : Taken) : (s.starting k).pon = s.pon := rfl
@[simp] theorem State.starting_opt (s : State) (k : Taken) : (s.starting k).opt = s.opt := rfl
@[simp] theorem State.starting_boot (s : State) (k : Taken) : (s.starting k).boot = s.boot := rfl
@[simp] theorem State.starting_cry (s : State) (k : Taken) : (s.starting k).cry = s.cry := rfl
@[simp] theorem State.starting_tdm (s : State) (k : Taken) : (s.starting k).tdm = s.tdm := rfl
@[simp] theorem State.starting_cls (s : State) (k : Taken) : (s.starting k).cls = s.cls := rfl
@[simp] theorem State.starting_client (s : State) (k : Taken) : (s.starting k).client = s.client := rfl
@[simp] theorem State.starting_elapsed (s : State) (k : Taken) : (s.starting k).elapsed = s.elapsed := rfl
@[simp] theorem State.starting_freeCtr (s : State) (k : Taken) : (s.starting k).freeCtr = s.freeCtr := rfl
@[simp] theorem State.starting_emitted (s : State) (k : Taken) : (s.starting k).emitted = s.emitted := rfl

/-! #### `State.popped` -/

@[simp] theorem State.popped_pending (s : State) (c : Nat) : (s.popped c).pending = s.pending := rfl
@[simp] theorem State.popped_flds (s : State) (c : Nat) : (s.popped c).flds = s.flds := rfl
@[simp] theorem State.popped_engx (s : State) (c : Nat) : (s.popped c).engx = s.engx := rfl
@[simp] theorem State.popped_chan (s : State) (c : Nat) : (s.popped c).chan = s.chan := rfl
@[simp] theorem State.popped_clk (s : State) (c : Nat) : (s.popped c).clk = s.clk := rfl
@[simp] theorem State.popped_log (s : State) (c : Nat) : (s.popped c).log = s.log := rfl
@[simp] theorem State.popped_pages (s : State) (c : Nat) : (s.popped c).pages = s.pages := rfl
@[simp] theorem State.popped_disp (s : State) (c : Nat) : (s.popped c).disp = s.disp := rfl
@[simp] theorem State.popped_sched (s : State) (c : Nat) : (s.popped c).sched = s.sched := rfl
@[simp] theorem State.popped_opt (s : State) (c : Nat) : (s.popped c).opt = s.opt := rfl
@[simp] theorem State.popped_boot (s : State) (c : Nat) : (s.popped c).boot = s.boot := rfl
@[simp] theorem State.popped_cry (s : State) (c : Nat) : (s.popped c).cry = s.cry := rfl
@[simp] theorem State.popped_tdm (s : State) (c : Nat) : (s.popped c).tdm = s.tdm := rfl
@[simp] theorem State.popped_cls (s : State) (c : Nat) : (s.popped c).cls = s.cls := rfl
@[simp] theorem State.popped_client (s : State) (c : Nat) : (s.popped c).client = s.client := rfl
@[simp] theorem State.popped_elapsed (s : State) (c : Nat) : (s.popped c).elapsed = s.elapsed := rfl
@[simp] theorem State.popped_freeCtr (s : State) (c : Nat) : (s.popped c).freeCtr = s.freeCtr := rfl
@[simp] theorem State.popped_emitted (s : State) (c : Nat) : (s.popped c).emitted = s.emitted := rfl
@[simp] theorem State.popped_rf (s : State) (c : Nat) (e : Nat) (f : Fld) : (s.popped c).rf e f = s.rf e f := rfl

end Sys2Proof.Machine
end

