-- ==== Sys2Proof/Laws/Frames.lean ====
section
/-! SUPPORT. Laws of `Keeps`: how a frame is built from the updates that a row makes, and what counters, cues and log records can do. -/
namespace Sys2Proof.Machine

theorem Part.same_refl (p : Part) (s : State) : p.same s s := by cases p <;> rfl

theorem Part.same_trans {p : Part} {s t u : State} (h : p.same s t) (h' : p.same t u) : p.same s u := by
  cases p <;> simp_all [Part.same]

theorem Keeps.refl (s : State) (parts : List Part) (fs : List (Nat × Fld)) : Keeps s s parts fs :=
  ⟨rfl, rfl, fun p _ => p.same_refl s, fun _ _ _ => rfl⟩

theorem Keeps.trans {s t u : State} {parts : List Part} {fs : List (Nat × Fld)} (h : Keeps s t parts fs) (h' : Keeps t u parts fs) :
    Keeps s u parts fs :=
  ⟨h'.1.trans h.1, h'.2.1.trans h.2.1, fun p hp => Part.same_trans (h.2.2.1 p hp) (h'.2.2.1 p hp),
    fun e f hf => (h'.2.2.2 e f hf).trans (h.2.2.2 e f hf)⟩

/-- A frame may be widened. -/
theorem Keeps.weaken {s t : State} {ps qs : List Part} {fs gs : List (Nat × Fld)} (h : Keeps s t ps fs) (hp : ∀ p ∈ ps, p ∈ qs)
    (hf : ∀ x ∈ fs, x ∈ gs) : Keeps s t qs gs := by
  refine ⟨h.1, h.2.1, fun p hn => h.2.2.1 p fun hm => hn (hp p hm), fun e f hn => h.2.2.2 e f fun hm => hn ?_⟩
  obtain ⟨x, hx, e⟩ := List.mem_map.mp hm
  exact List.mem_map.mpr ⟨x, hf x hx, e⟩

theorem Keeps.ite {s t u : State} {parts : List Part} {fs : List (Nat × Fld)} {c : Prop} [Decidable c] (h : Keeps s t parts fs)
    (h' : Keeps s u parts fs) : Keeps s (if c then t else u) parts fs := by
  split <;> assumption

/-- A change of parts that the frame lets change, with the register fields as they were. -/
theorem Keeps.part {s t u : State} {parts : List Part} {fs : List (Nat × Fld)} (h : Keeps s t parts fs) (h1 : u.pending = t.pending)
    (h2 : u.elapsed = t.elapsed) (h3 : ∀ p, p ∉ parts → p.same t u) (h4 : u.flds = t.flds) : Keeps s u parts fs :=
  h.trans ⟨h1, h2, h3, fun e f _ => by simp [State.rf, h4]⟩

/-- A write of a field that the frame lets change. -/
theorem Keeps.wf {s t : State} {parts : List Part} {fs : List (Nat × Fld)} (h : Keeps s t parts fs) {e : Nat} {f : Fld} {v : Nat}
    (hm : (e, f) ∈ fs) : Keeps s (t.wf e f v) parts fs := by
  refine h.trans ⟨rfl, rfl, fun p _ => by cases p <;> rfl, fun e' f' hn => State.rf_wf_ne t v ?_⟩
  intro heq
  rw [heq] at hn
  exact hn (List.mem_map.mpr ⟨(e, f), hm, rfl⟩)

theorem Keeps.bumpN {s t : State} {parts : List Part} {fs : List (Nat × Fld)} (h : Keeps s t parts fs) {e : Nat} {f : Fld} {n : Nat}
    (hm : (e, f) ∈ fs) : Keeps s (t.bumpN e f n) parts fs := h.wf hm

theorem Keeps.bump {s t : State} {parts : List Part} {fs : List (Nat × Fld)} (h : Keeps s t parts fs) {e : Nat} {f : Fld}
    (hm : (e, f) ∈ fs) : Keeps s (t.bump e f) parts fs := h.wf hm

/-! ### Counters -/

/-- A counter that is raised is raised as far as its field goes. -/
theorem State.bumpN_counts (s : State) (e : Nat) (f : Fld) (n : Nat) : Counts s (s.bumpN e f n) e f n := by
  have h := Nat.two_pow_pos f.width
  show (s.wf e f (satAdd (2 ^ f.width - 1) (s.rf e f) n)).rf e f = _
  rw [State.rf_wf_self, Nat.mod_eq_of_lt (by simp only [satAdd]; omega)]
  rfl

theorem State.bump_counts (s : State) (e : Nat) (f : Fld) : Counts s (s.bump e f) e f 1 := s.bumpN_counts e f 1

/-- Another field reads as before. -/
theorem State.rf_bumpN_ne (s : State) {e e' : Nat} {f f' : Fld} (n : Nat) (h : fldKey e' f' ≠ fldKey e f) :
    (s.bumpN e f n).rf e' f' = s.rf e' f' := State.rf_wf_ne s _ h

/-! ### Cues -/

/-- A cue changes the command channel and VS_CUE_LOST only. -/
theorem Keeps.cue {s t : State} {parts : List Part} {fs : List (Nat × Fld)} (h : Keeps s t parts fs) (h1 : Part.chan ∈ parts) (h2 : cueFld ∈ fs)
    (code : Nat) (payload : List Byte) : Keeps s (t.cue code payload) parts fs := by
  have hc : ∀ c, Keeps s { t with chan := c } parts fs := fun c =>
    h.part rfl rfl (by intro p hp; cases p <;> first | rfl | exact absurd h1 hp) rfl
  unfold State.cue
  split
  · exact hc _
  · unfold State.raiseCue
    simp only []
    split
    · exact (hc _).wf h2
    · exact hc _

theorem State.rf_cue (s : State) (code : Nat) (payload : List Byte) {e : Nat} {f : Fld} (h : fldKey e f ≠ fldKey engCmd VS.CUE_LOST) :
    (s.cue code payload).rf e f = s.rf e f :=
  ((Keeps.refl s [.chan] [cueFld]).cue (by simp) (by simp) code payload).2.2.2 e f (by simpa [cueFld] using h)

/-- A part other than the channel is as it was after a cue. -/
theorem State.cue_same (s : State) (code : Nat) (payload : List Byte) {p : Part} (h : p ≠ .chan) : p.same s (s.cue code payload) :=
  ((Keeps.refl s [.chan] [cueFld]).cue (by simp) (by simp) code payload).2.2.1 p (by simpa using h)

@[simp] theorem State.cue_pon (s : State) (code : Nat) (payload : List Byte) : (s.cue code payload).pon = s.pon := s.cue_same code payload (p := .pon) (by simp)
@[simp] theorem State.cue_log (s : State) (code : Nat) (payload : List Byte) : (s.cue code payload).log = s.log := s.cue_same code payload (p := .log) (by simp)
@[simp] theorem State.cue_clk (s : State) (code : Nat) (payload : List Byte) : (s.cue code payload).clk = s.clk := s.cue_same code payload (p := .clk) (by simp)
@[simp] theorem State.cue_boot (s : State) (code : Nat) (payload : List Byte) : (s.cue code payload).boot = s.boot := s.cue_same code payload (p := .boot) (by simp)
@[simp] theorem State.cue_cry (s : State) (code : Nat) (payload : List Byte) : (s.cue code payload).cry = s.cry := s.cue_same code payload (p := .cry) (by simp)
@[simp] theorem State.cue_tdm (s : State) (code : Nat) (payload : List Byte) : (s.cue code payload).tdm = s.tdm := s.cue_same code payload (p := .tdm) (by simp)
@[simp] theorem State.cue_client (s : State) (code : Nat) (payload : List Byte) : (s.cue code payload).client = s.client :=
  s.cue_same code payload (p := .client) (by simp)
@[simp] theorem State.cue_engx (s : State) (code : Nat) (payload : List Byte) : (s.cue code payload).engx = s.engx := s.cue_same code payload (p := .engx) (by simp)

/-- Unless cues are gathered, a cue joins the queue of the PCIe carrier while that has room. -/
theorem State.cue_cued (s : State) (code : Nat) (payload : List Byte) : Cued s (s.cue code payload) code payload := by
  intro hd hl
  have hb : ∀ (c : Chan) (p : Packet), (c.cueBand p).pcieCues = c.pcieCues := by
    intro c p; unfold Chan.cueBand; split
    · split <;> rfl
    · rfl
  have hu : ∀ (c : Chan) (p : Packet), (c.cueUart p).pcieCues = c.pcieCues := by
    intro c p; unfold Chan.cueUart; split
    · split <;> rfl
    · rfl
  unfold State.cue State.raiseCue
  simp only [hd, Chan.cuePcie, hl, decide_true, Bool.or_true, if_true, Bool.false_eq_true, if_false, hb, hu]
  exact ⟨_, rfl, rfl⟩

/-! ### The continuity log -/

/-- A record changes the log only. -/
theorem State.logAt_eq (s : State) (event domain loc : Nat) (data : List Byte) :
    s.logAt event domain loc data = { s with log := (s.logAt event domain loc data).log } := by
  unfold State.logAt
  dsimp only
  split
  · split <;> rfl
  · rfl

theorem Keeps.logEng {s t : State} {parts : List Part} {fs : List (Nat × Fld)} (h : Keeps s t parts fs) (h1 : Part.log ∈ parts) (event e : Nat)
    (data : List Byte) : Keeps s (t.logEng event e data) parts fs := by
  unfold State.logEng
  rw [State.logAt_eq]
  exact h.part rfl rfl (by intro p hp; cases p <;> first | rfl | exact absurd h1 hp) rfl

theorem Keeps.logPart {s t : State} {parts : List Part} {fs : List (Nat × Fld)} (h : Keeps s t parts fs) (h1 : Part.log ∈ parts) (event : Nat)
    (data : List Byte) : Keeps s (t.logPart event data) parts fs := by
  unfold State.logPart
  rw [State.logAt_eq]
  exact h.part rfl rfl (by intro p hp; cases p <;> first | rfl | exact absurd h1 hp) rfl

/-! ### PON channels and virtual terminals -/

@[simp] theorem State.chn_modCh (s : State) (c : Nat) (g : PonCh → PonCh) : (s.modCh c g).chn c = g (s.chn c) := by
  simp [State.chn, State.modCh, SMap.upd]
@[simp] theorem State.vt_modVt (s : State) (v : Nat) (g : Vt → Vt) : (s.modVt v g).vt v = g (s.vt v) := by
  simp [State.vt, State.modVt, SMap.upd]
@[simp] theorem State.vt_modCh (s : State) (c : Nat) (g : PonCh → PonCh) (v : Nat) : (s.modCh c g).vt v = s.vt v := rfl
@[simp] theorem State.chn_modVt (s : State) (v : Nat) (g : Vt → Vt) (c : Nat) : (s.modVt v g).chn c = s.chn c := rfl
theorem State.chn_modCh_ne (s : State) {c d : Nat} (g : PonCh → PonCh) (h : d ≠ c) : (s.modCh c g).chn d = s.chn d := by
  simp [State.chn, State.modCh, SMap.upd, SMap.get_put_ne _ _ _ h]
theorem State.vt_modVt_ne (s : State) {v w : Nat} (g : Vt → Vt) (h : w ≠ v) : (s.modVt v g).vt w = s.vt w := by
  simp [State.vt, State.modVt, SMap.upd, SMap.get_put_ne _ _ _ h]
@[simp] theorem State.cue_chn (s : State) (code : Nat) (payload : List Byte) (c : Nat) : (s.cue code payload).chn c = s.chn c := by simp [State.chn]
@[simp] theorem State.cue_vt (s : State) (code : Nat) (payload : List Byte) (v : Nat) : (s.cue code payload).vt v = s.vt v := by simp [State.vt]

end Sys2Proof.Machine
end

