-- ==== Sys2Proof/WellFormed.lean ====
section
/-! DEFINITION. Which commands are well formed: operands that the spec gives a range that their types do not carry. -/
namespace Sys2Proof.Machine

/-- A request packet (R46 to R48): at most 4,096 bytes of payload; a trailer only with OFFICER; a source address only in-band. -/
def Req.wf (r : Req) : Bool :=
  decide (r.payload.length ≤ 4096) && (r.flags.getLsbD 2 || r.trailer == 0) && (r.carrier == .inband || r.src == 0)

/-- A cause of its own kind sets bits 8 to 10 of ENG_FAULT (R250). -/
def FaultCause.wf (c : FaultCause) : Bool :=
  match c with
  | .kindSpecific b => b &&& 0xF8#8 == 0 && b != 0
  | _ => true

/-- A downstream PLOAM message (R100, R103): 40 bytes before its MIC; 36 content bytes of type 0xF0. -/
def PloamMsg.wf (m : PloamMsg) : Bool :=
  m.bytes.length == 40 && (match m.body with
    | .fennath content => content.length == 36
    | _ => true)

/-- DFE taps run from −31 to +31 (R366). -/
def tapsOk (v : BitVec 30) : Bool := (List.range 5).all fun i => v.toNat / 64 ^ i % 64 ≠ 32

/-- Each setting is tried one step up and one step down (R366). -/
def triesOk (ts : List (Fin 6 × Bool)) : Bool :=
  ts.length = 12 && (List.range 6).all fun k => [true, false].all fun u => ts.any fun t => t.1.val = k && t.2 = u

/-- Rail groups that RAIL_SAMPLE gives (R470). -/
def railSites : Nat := 14

end Sys2Proof.Machine

namespace Sys2Proof

open Machine

/-- Whether a command is well formed. -/
def Instr.wf (i : Instr) : Bool :=
  match i with
  | .engineSet r | .identify r | .echo r | .cueRoute r | .sessionOpen r _ _ | .sessionAuth r _ | .sessionClose r
  | .roleAuthSet r | .objRead r | .objWrite r | .objModify r | .txnBegin r | .txnCommit r | .txnAbort r | .vtConfig r
  | .vtQuery r | .omciSend r | .portSet r | .bondGroupSet r | .channelPark r | .allocBind r | .anchorSet r | .parentMap r _
  | .parentEpoch r _ | .parentClear r _ | .pairConfig r | .pairRole r | .tdmStruct r | .tsiConnect r | .tsiSplice r
  | .tsiRead r | .circuitSet r | .circuitQuery r | .pmConfig r | .pmRead r | .ivFixedSet r | .saFormat r | .cipherRun r _
  | .selftestRun r _ _ | .saStats r | .keyCommit r | .keyGenerate r _ | .keyErase r | .saCreate r _ | .saStage r | .saRoll r
  | .saDelete r | .saQuery r | .rngRead r _ | .rngRestart r | .zeroize r _ | .tableConfig r | .flowAdd r | .flowDel r
  | .flowRead r | .ruleSet r | .tableSplice r | .progLoad r | .meterSet r | .counterRead r | .excRead r | .queueSet r
  | .nodeSet r | .shaperSet r | .policerSet r | .queueStats r | .nodeQuery r | .laneMode r | .laneLoop r
  | .laneTest r _ _ _ _ | .macSnapshot r | .timeNow r | .timeSource r | .timeSample r | .timeAcquire r | .ptpSend r
  | .stampRead r | .powerState ⟨r, _⟩ | .reset r | .bootStatus r | .optionWrite r _ | .updateBegin r _ | .updateData r _
  | .updateEnd r _ | .reelStatus r | .logClear r | .i2cXfer r _ | .spareInventory r | .unitRestore r _ => r.wf
  | .engCtrlSrstWrite w => present w.e
  | .engCtrlEnableWrite w _ => present w.e
  | .engineInitComplete e _ => present e
  | .engineDrainComplete e => present e
  | .softResetComplete e _ _ => present e
  | .engineFault e c => present e && c.wf
  | .engineWatchdog e => present e
  | .commandFetch bytes _ => decide (bytes.length ≤ 4160)
  | .uartFrameRx line => !line.contains 0x7E
  | .ploamRx _ msg => msg.wf
  | .laneLosClear _ _ _ dfe => tapsOk dfe
  | .adaptationRepeat _ _ _ steps eyes => triesOk steps && eyes.length = steps.length
  | .temperatureSample temps _ _ _ => temps.length == 8
  | .railSample mv => mv.length == railSites
  | .registerWrite _ _ | .rcRegisterRead _ | .sfcLoRead _ | .cxBlocksLoRead _ | .nowShortRead | .countLoRead
  | .macCntLoRead _ _ | .carrierFrameSent _ | .replyRingWrite | .msixHoldoffExpiry _ | .cmdTailWrite _ _ | .rplHeadWrite _
  | .cmdRingEnableWrite _ _ | .rplRingEnableWrite _ | .rplCueEnWrite _ | .sessionIdleTimeout _ | .sessionAuthTimeout _
  | .authLockoutEnd | .txnExpiry _ | .pmdCfgTxEnWrite _ _ | .psyncReceived _ _ _ _ | .ponLosDeclare _ _ _ | .ponLosClear _
  | .bandwidthMap _ _ _ | .burstCommit _ _ | .burstEnd _ | .rogueDetect _ | .burstProfile _ | .assignOnuId _ | .rangingTime _
  | .deactivateOnuId _ | .disableSerialNumber _ | .requestRegistration _ | .assignAllocId _ | .keyControl _ | .sleepAllow _
  | .tuningControl _ | .adjustTxWavelength _ | .ploamUnknownMessage _ | .portAssign _ | .parkAck _ | .epochClaim _ _
  | .omciMessage _ | .fecCodeword _ _ _ | .xgemFrameRx _ _ | .bondFragmentRx | .bondGapTimerExpiry _ | .bondIdleFlush _
  | .to1Expiry _ | .to2Expiry _ | .parkAckTimeout _ | .parkHoldExpiry _ | .wsIawareExpiry _ | .wsIlowpowerExpiry _
  | .parentLostTimer | .heartbeatTimer _ | .heartbeatRx _ | .pairPathTimeout _ | .swapTimeout | .swapDrainComplete
  | .anchorSetTimeout _ | .sdhFrameRx _ _ | .lofTimer _ | .sdhFrameTx _ _ | .multiframeBoundary _ | .tsiCopyComplete
  | .circuitPacketForm _ _ _ | .circuitPacketRx | .playoutTick _ | .pmSecondClassify _ | .pmBinBoundary _ _
  | .cxBindWrite _ _ | .lockClaim _ _ | .lockRelease _ _ | .poolBorrowRetry _ _ _ _ | .sealJobStart _ _ _ _
  | .openJobStart _ _ _ _ | .suspendRestore _ _ | .cipherJobComplete _ | .onlineCheck _ _ | .knownAnswerTest _ _
  | .keDataWrite _ _ | .keClearWrite _ | .keBufferTimeout | .rxOverlapExpiry _ | .entropyWindow _ _ | .drbgReseed
  | .drbgStartupComplete _ | .rngRelease _ | .tamperLoopSample _ _ | .supplyAlarm _ _ | .slowclkAlarm _ | .refclkAlarm _
  | .lockstepAlarm _ | .alarmHoldRelease | .classifyFrame _ | .actionProgram _ _ | .tableCopyComplete _ | .dispatcherTick
  | .jobDue | .classPTimeout | .jobTake _ | .laneLosDeclare _ | .laneSyncLoss _ _ | .laneSpeedExchangeDone _ _
  | .rateStepSwitch _ | .rateStepComplete _ _ _ | .rateStepTimeout _ | .quadRetryTimer _ | .fomTrendUpdate _ _
  | .laneSelfCheck _ _ _ _ _ _ | .spareSelfCheckTimer | .macFrameRx _ _ _ _ | .macFrameTx _ _ | .pfcPauseExpiry _ _
  | .pfcRefreshTimer _ _ | .laneSignalWake _ | .ponTimeSample _ | .ppsInEdge _ | .sourceVanishTimeout | .slewComplete
  | .secondBoundary | .ppsOutFall | .domainSleep _ | .domainWake _ | .domainWakeTimeout _ _ | .standbyWake _ | .porstNLow
  | .resetNPulse | .perstNLow | .mgmtWatchdogExpiry | .pllLockLoss | .warmResetAssert | .resetRelease | .boot _
  | .sramEccError _ | .i2cStretchTimeout _ | .i2cRecoveryRetry _ _ _ _ | .opticsMonitorRead _ _ | .logMirrorWrite _
  | .hourlySlate | .cursorWrite _ | .windowAutoRead | .updateTimeout | .rowEccError _ _ | .laneSyncAcquired _ _
  | .alarmSourcesArmed => true

end Sys2Proof
end

