-- ==== Sys2Proof/Tests/Slice0.lean ====
section
/-! SUPPORT. Tests of single steps on small states, and states that meet the hypotheses of each statement. -/
open Sys2Proof Sys2Proof.Machine
set_option exponentiation.threshold 500
namespace Sys2Proof.Tests

/-- A part that is up, with every domain released and awake and the command engine ready. -/
def up : State :=
  (({ State.reset with boot := { State.reset.boot with phase := .up } }.wf engWake WK.AWAKE 0x7FFF).wf engRst RST.RELEASED 0x7FFF).wf engCmd
    VS.READY 1

/-- Engines that are ON. -/
def withOn (s : State) (es : List Nat) : State := es.foldl (fun s e => s.wf e HDR.STATE 2) s

/-- What a step of row `i` leads to. -/
def runs (i : Instr) (s : State) (p : State → Bool) : Bool :=
  match exec i s with
  | .next t => p t
  | _ => false

/-- A request of a host command with no flags. -/
def req (target : Word) (payload : List Byte) : Req :=
  { carrier := .ring 0, flags := 0, tag := 1, txn := 0, session := 0, target := target, payload := payload, trailer := 0, src := 0 }

/-- A request that has been taken and may start. -/
def tak (op : Nat) (r : Req) (role : Role := .user) : Taken := { op := op, req := r, auth := none, role := role }

/-- A state in which a request waits to start. -/
def withReq (s : State) (op : Nat) (r : Req) (role : Role := .user) : State :=
  { s with chan := { s.chan with taken := s.chan.taken ++ [tak op r role] } }

/-! ### Engines -/

def e4 : Nat := engPmd 0
def st (s : State) (e v : Nat) : State := s.wf e HDR.STATE v

theorem witness_EnableWriteFollowsTheTable :
    (up.ctrlOpen e4 = true ∧ up.engState e4 = 0 ∧ up.idleMember e4 = false) ∧
    ((st up e4 2).ctrlOpen e4 = true ∧ (st up e4 2).engState e4 = 2 ∧ engDomain e4 ≠ 0) ∧
    ((st up e4 1).ctrlOpen e4 = true ∧ (st up e4 1).engState e4 = 1 ∧ (st up e4 1).on e4 HDR.PEND_OFF = false) ∧
    ((st up e4 3).ctrlOpen e4 = true ∧ (st up e4 3).engState e4 = 3 ∧ (st up e4 3).on e4 HDR.REARM = false) ∧
    (guarded engKeys = true ∧ guarded e4 = false ∧ up.ctrlOpen engKeys = true) := by decide

def reqEng (a : Byte) : Req := req (BitVec.ofNat 32 (locOf e4)) [a, 0, 0, 0]
def takEng (a : Byte) : Taken := tak 0x0010 (reqEng a)
def sEng (st' : Nat) (a : Byte) : State := withReq (st up e4 st') 0x0010 (reqEng a)

theorem witness_EngineSetAnswersByState :
    (Ready engineSetCmd (reqEng 1) (takEng 1) (sEng 0 1) ∧ fld (reqEng 1).payload 0 1 = 1 ∧ (sEng 0 1).engState (reqEng 1).eng = 0) ∧
    (Ready engineSetCmd (reqEng 1) (takEng 1) (sEng 2 1) ∧ (sEng 2 1).engState (reqEng 1).eng = 2) ∧
    (Ready engineSetCmd (reqEng 1) (takEng 1) (sEng 3 1) ∧ (sEng 3 1).engState (reqEng 1).eng = 3) ∧
    (Ready engineSetCmd (reqEng 0) (takEng 0) (sEng 2 0) ∧ fld (reqEng 0).payload 0 1 = 0) ∧
    (Ready engineSetCmd (reqEng 2) (takEng 2) (sEng 2 2) ∧ fld (reqEng 2).payload 0 1 = 2) := by decide

theorem witness_SoftResetRunsBetweenItsRows :
    up.ctrlOpen e4 = true ∧
    (present e4 = true ∧ kind e4 ≠ 0x72 ∧ (up.wf e4 HDR.SRST 1).on e4 HDR.SRST = true ∧ (up.ex e4).enableAfter = none ∧ up.engState e4 = 0) ∧
    ((st up e4 4).engState e4 = 4 ∧ ((st up e4 4).wf e4 HDR.ENABLE 1).on e4 HDR.ENABLE = true) := by decide

theorem witness_EngineComesToRest :
    (((st up e4 1).wf e4 HDR.ENABLE 1).initialises e4 = true ∧ isCipher e4 = false ∧ ((st up e4 1).wf e4 HDR.ENABLE 1).on e4 HDR.ENABLE = true) ∧
    (((st up e4 1).wf e4 HDR.ENABLE 1).wf e4 HDR.PEND_OFF 1).initialises e4 = true ∧
    ((st up e4 3).engState e4 = 3 ∧ (st up e4 3).drained e4 = true ∧ ((st up e4 3).quit e4).on e4 HDR.REARM = false) := by decide

theorem witness_FaultMakesAnEngineFailed :
    present e4 = true ∧ (st up e4 2).sleeping e4 = false ∧ (st up e4 2).engState e4 ≠ 4 ∧ (st up e4 2).engState e4 ≠ 5 ∧
      isLane e4 = false ∧ isCipher e4 = false ∧ causeOn e4 .eccUe = true ∧ isCipher (engCipher 0) = true := by decide

/-! ### Register accesses -/

def locOpt : Word := BitVec.ofNat 32 (locOf (engOpt 0) + 0x100)
def locFec : Word := BitVec.ofNat 32 (locOf (engPloam 0) + 0x104)

theorem witness_RegisterWriteFollowsAccess :
    locOff locOpt.toNat % 4 = 0 ∧ 0x100 ≤ locOff locOpt.toNat ∧ plainWord up (locEng locOpt.toNat) (locOff locOpt.toNat) = true ∧
      up.writable (locEng locOpt.toNat) = true := by decide

theorem witness_RegisterReadClearsReadToClear :
    up.reaches (locEng locFec.toNat) = true ∧ locOff locFec.toNat % 4 = 0 ∧ isSpareWin (locEng locFec.toNat) = false ∧
      kind (locEng locFec.toNat) ∉ [0x02, 0x11, 0x40, 0x60, 0x83] := by decide

theorem witness_LowWordReadsLatch :
    up.reaches (engFramer 3) = true ∧ up.reaches engClk = true ∧ up.reaches (engCipher 9) = true ∧ up.rf (engCipher 9) HDR.LUNIT = 0xFF ∧
      up.reaches (engMac 67) = true ∧ up.rf (engMac 67) HDR.LUNIT = 0xFF := by decide

/-! ### PON, downstream -/

def pon : State := withOn up [engPmd 0, engFramer 0, engFec 0, engXgem 0, engPloam 0]
def sync (s : State) (v : Nat) : State := (s.wf (engFramer 0) FR.LOS 0).wf (engFramer 0) FR.SYNC v
def missed (n : Nat) : State := (sync pon 2).modCh 0 fun c => { c with misses := n }

theorem witness_FramerFollowsPsync :
    ((sync pon 0).works (engFramer 0) = true ∧ (sync pon 0).on (engFramer 0) FR.LOS = false ∧ (sync pon 0).rf (engFramer 0) FR.SYNC = 0) ∧
    ((sync pon 2).rf (engFramer 0) FR.SYNC = 2) ∧
    ((sync pon 1).works (engFramer 0) = true ∧ (sync pon 1).rf (engFramer 0) FR.SYNC = 1) ∧
    ((missed 2).works (engFramer 0) = true ∧ (missed 2).rf (engFramer 0) FR.SYNC = 2 ∧ (∀ v ∈ (missed 2).vtsOn 0, ((missed 2).vt v).disable = none) ∧
      ((missed 2).chn 0).misses < 3) ∧ ((missed 3).chn 0).misses = 3 := by decide

theorem witness_LosIsDeclaredAndCleared :
    ((sync pon 2).asleep 4 = false ∧ (sync pon 2).on (engFramer 0) FR.LOS = false) ∧
    (pon.works (engPmd 0) = true ∧ pon.on (engFramer 0) FR.LOS = true) := by decide

theorem witness_FecCountsCodewords : pon.works (engFec 0) = true := by decide

def vtIn (st' : Nat) : Vt := { enabled := true, channel := 0, state := st', onuId := if st' = 2 then none else some 23 }
def ponVt (st' : Nat) : State := { sync pon 2 with pon := { (sync pon 2).pon with vts := [(7, vtIn st')] } }
def msg (b : PloamBody) : PloamMsg := { onuId := 23, seq := 1, body := b, bytes := [], mic := 0 }
def ponMsg (st' : Nat) (b : PloamBody) : State := (ponVt st').modCh 0 fun c => { c with rxq := [(0, msg b)] }

theorem witness_PloamReceptionKeepsOrCounts :
    pon.chWorks 0 = true ∧ (pon.chn 0).watch ≠ .sleep ∧ pon.targets 0 (msg .enableAll) = [] ∧ (msg .enableAll).onuId ≠ 0x3FF ∧
      (ponVt 5).targets 0 (msg .enableAll) ≠ [] ∧ ((ponVt 5).chn 0).rxq.length < 64 ∧
      64 ≤ ((pon.modCh 0 fun c => { c with rxq := List.replicate 64 (0, msg .enableAll) }).chn 0).rxq.length := by decide

/-- A message's MIC may hold or fail. -/
theorem witness_PloamMic (m : PloamMsg) (x : BitVec 64) : ∃ n : PloamMsg, n.onuId = m.onuId ∧ x = n.mic := ⟨{ m with mic := x }, rfl, rfl⟩

def serial7 : BitVec 64 := BitVec.ofNat 64 ((ponVt 2).serial 7)
def toNobody : State := ponMsg 2 (.assignOnuId serial7 0x3FF)
def clash : State := (ponMsg 2 (.assignOnuId serial7 23)).modVt 8 fun t => { t with onuId := some 23 }

theorem witness_ActivationMessagesMoveTerminals :
    Heads (ponMsg 5 (.burstProfile 1 2 [])) 0 (msg (.burstProfile 1 2 [])) ∧
    (Heads (ponMsg 2 (.assignOnuId serial7 23)) 0 (msg (.assignOnuId serial7 23)) ∧
      (((ponMsg 2 (.assignOnuId serial7 23)).vtsOn 0).find? fun v => (ponVt 2).serial v = serial7.toNat) = some 7 ∧
      ((ponMsg 2 (.assignOnuId serial7 23)).vt 7).state = 2) ∧
    ((clash.vtsOn 0).find? (fun v => clash.serial v = serial7.toNat) = some 7 ∧ 8 ∈ clash.vtsOn 0 ∧ (clash.vt 8).onuId = some 23) ∧
    ((ponMsg 4 (.rangingTime false 5)).targets 0 (msg (.rangingTime false 5)) = [7] ∧ ((ponMsg 4 (.rangingTime false 5)).vt 7).state = 4 ∧
      7 ∈ (ponMsg 4 (.rangingTime false 5)).vtsOn 0) ∧
    (ponMsg 4 (.rangingTime true (-1))).targets 0 (msg (.rangingTime true (-1))) ≠ [] ∧
    Heads toNobody 0 (msg (.assignOnuId serial7 0x3FF)) := by decide

theorem witness_DeactivationReleasesTerminals :
    (Heads (ponMsg 4 .deactivateOnuId) 0 (msg .deactivateOnuId) ∧ (ponMsg 4 .deactivateOnuId).targets 0 (msg .deactivateOnuId) = [7] ∧
      ((ponMsg 4 .deactivateOnuId).vt 7).state = 4) ∧
    (((ponMsg 5 (.disableSerial serial7)).vtsOn 0).find? fun v =>
      (ponMsg 5 (.disableSerial serial7)).serial v = serial7.toNat && ((ponMsg 5 (.disableSerial serial7)).vt v).enabled) = some 7 ∧
    ((ponMsg 7 (.enableSerial serial7)).vtsOn 0).filter (fun v => (ponMsg 7 (.enableSerial serial7)).serial v = serial7.toNat) = [7] ∧
    ((ponMsg 7 .enableAll).vtsOn 0 = [7] ∧ ((ponMsg 7 .enableAll).vt 7).state = 7) := by decide

theorem witness_OtherMessagesAreAnswered :
    Heads (ponMsg 5 .tuningControl) 0 (msg .tuningControl) ∧ isFennath [0x46, 0x4E, 0x20] = true ∧ subType [0x46, 0x4E, 0x20] ∉ [1, 3, 0x10, 0x13] := by
  decide

def portMsg : List Byte := [0x46, 0x4E, 1, 0, 1, 0x08, 0x98, 1]

def othersAlloc : State :=
  let s := ponMsg 5 (.assignAllocId 1100 true)
  { s with pon := { s.pon with allocs := s.pon.allocs.put (allocKey 0 1100) { vt := 8, dflt := false } } }

theorem witness_TablesFillAndFree_held :
    Heads othersAlloc 0 (msg (.assignAllocId 1100 true)) ∧ othersAlloc.targets 0 (msg (.assignAllocId 1100 true)) = [7] ∧
      (othersAlloc.pon.allocs.look (allocKey 0 1100)).map Alloc.vt = some 8 := by decide

theorem witness_TablesFillAndFree :
    (Heads (ponMsg 5 (.assignAllocId 1100 true)) 0 (msg (.assignAllocId 1100 true)) ∧
      (ponMsg 5 (.assignAllocId 1100 true)).targets 0 (msg (.assignAllocId 1100 true)) = [7] ∧
      (ponMsg 5 (.assignAllocId 1100 true)).pon.allocs.look (allocKey 0 1100) = none ∧ (ponMsg 5 (.assignAllocId 1100 true)).allocExplicit < 960) ∧
    (isFennath portMsg = true ∧ subType portMsg = 1 ∧ portMsg.getD 4 0 = 1 ∧ (portMsg.getD 7 0).toNat ≤ 1 ∧ beVal (part portMsg 5 2) ≠ 0xFFFF) := by
  decide

theorem witness_KeySleepAndParkMessages :
    (Heads (ponMsg 5 (.keyControl true 0)) 0 (msg (.keyControl true 0)) ∧ (ponMsg 5 (.keyControl true 0)).targets 0 (msg (.keyControl true 0)) = [7] ∧
      ((ponMsg 5 (.keyControl true 0)).wf engDrbg RNG.STATE 2).rf engDrbg RNG.STATE = 2 ∧
      ((ponMsg 5 (.keyControl true 0)).wf engDrbg RNG.STATE 3).rf engDrbg RNG.STATE = 3) ∧
    (isFennath [0x46, 0x4E, 3, 0, 1, 1] = true ∧ subType [0x46, 0x4E, 3, 0, 1, 1] = 3 ∧
      ((pon.modCh 1 fun c => { c with park := .parkAck }).chn 1).park = .parkAck) := by decide

def portU : Port := { vt := 7, kind := 3, keying := 1 }
def withPort (k : Nat) : State := { ponVt 5 with pon := { (ponVt 5).pon with ports := [(portKey 0 23, { portU with kind := k })] } }

theorem witness_DownstreamFramesAreSorted :
    (((ponVt 5).modCh 0 fun c => { c with omciIn := [(7, [1, 2, 3, 4, 5])] }).chn 0).omciIn = [(7, [1, 2, 3, 4, 5])] ∧
    ((withPort 3).chWorks 0 = true ∧ ((withPort 3).chn 0).rest = false ∧ (withPort 3).rf (engFramer 0) FR.SYNC = 2 ∧ ((withPort 3).chn 0).watch = .active ∧
      (withPort 3).pon.ports.look (portKey 0 23) = some portU ∧ (withPort 3).pon.ports.look (portKey 0 24) = none ∧
      (withPort 3).on (engXgem 0) XG.DEC_EN = false ∧ ((withPort 3).chn 0).partials.look 23 = none ∧ (withPort 1).userShut 0 = false ∧
      ((withPort 1).wf engBond BD.ROLE 2).userShut 0 = true) := by decide

/-- A fragment of group 0: SOF, BSEQ 5, 64 bytes. -/
def frag5 : List Byte := [0x60, 0, 0, 0, 5, 0, 0, 64] ++ List.replicate 64 0
def grp (n : Option Nat) (held : List DnFrag) : Group := { members := [some 7, none, none, none], anchor := 0, next := n, held := held, gap := true }
def bond (n : Option Nat) (held : List DnFrag) (b : List Byte) : State :=
  withOn { ponVt 5 with pon := { (ponVt 5).pon with groups := [(0, grp n held)], bondIn := [{ vt := 7, bytes := b }] } } [engBond]
def dn (q : Nat) (sof : Bool) : DnFrag := { bseq := q, sof := sof, eof := false, data := [], pages := [] }

/-- A unicast key of terminal 7 in place, and an engine of owner 0x03 ON. -/
def uniKeyed : State :=
  let s := withOn { withPort 3 with pon := { (withPort 3).pon with keys := [(uniKey 7 1, 5)] } } [engCipher 1]
  (s.wf (engCipher 1) CX.OWNER 3).wf (engXgem 0) XG.DEC_EN 1

theorem witness_DownstreamFramesAreSorted_keyed :
    (uniKeyed.ponEngine 0).isSome = true ∧ uniKeyed.on (engXgem 0) XG.DEC_EN = true ∧ uniKeyed.dnKey 0 portU 1 = some 5 ∧
      ((uniKeyed.modCh 0 fun c => { c with rest := true }).chn 0).rest = true := by decide

theorem witness_ReassemblyFollowsItsRules :
    ((bond none [] []).works engBond = true ∧ parseFrag [] = none) ∧
    (parseFrag frag5 = some (0, { bseq := 5, sof := true, eof := false, data := List.replicate 64 0, pages := [] }) ∧
      ((bond none [] frag5).allocPages false (List.replicate 64 0)).isSome = true) ∧
    (2 ^ 23 ≤ bseqDist 5 6 ∧ bseqDist 5 4 < 2 ^ 23 ∧ (grp (some 4) [dn 5 true]).held.any fun h => h.bseq = 5) ∧
    ((grp (some 4) [dn 5 true]).gap = true ∧ windowSplit 4 [dn 5 true, dn 6 false] = ([], [dn 5 true, dn 6 false])) := by decide

def aware (w : Watch) : State :=
  (((ponVt 5).modVt 7 fun t => { t with sleepOk := true }).wf (engPloam 0) PL.WS_EN 1).modCh 0 fun c => { c with watch := w }

theorem witness_PonTimersEndTheirWaits :
    (((ponVt 4).modVt 7 fun t => { t with to1 := some 5 }).vt 7).to1.isSome = true ∧ ((ponVt 4).vt 7).state = 4 ∧
    (((ponVt 6).modVt 7 fun t => { t with to2 := some 5 }).vt 7).to2.isSome = true ∧ ((ponVt 6).vt 7).state = 6 ∧
    ((pon.modCh 1 fun c => { c with park := .unparkAck }).chn 1).park = .unparkAck ∧ pon.asleep 5 = false ∧
    (((ponVt 5).modVt 7 fun t => { t with sleepOk := true }).wf (engPloam 0) PL.WS_EN 1).wsHolds 0 = true ∧
    (((ponVt 5).modVt 7 fun t => { t with sleepOk := true }).wf (engPloam 0) PL.WS_EN 1).workFor 0 = false ∧ pon.wsHolds 0 = false ∧
    (aware .leaving).wsHolds 0 = true ∧ (aware .aware).workFor 0 = false ∧ ((aware .aware).chn 0).watch = .aware ∧
    ((pon.modCh 1 fun c => { c with park := .anchorWake }).chn 1).park = .anchorWake ∧
    ((pon.modCh 1 fun c => { c with park := .parkAck }).chn 1).park = .parkAck := by decide

def reqVt : Req := req 0 ([9, 1, 1, 0] ++ List.replicate 36 1)
def reqQ : Req := req 0 [7, 0, 0, 0]
def reqOmci : Req := req 0 [7, 0, 0, 0, 1]
def reqPort : Req := req 0 [1, 7, 0x98, 8, 1, 1, 0, 0]
def reqGrp : Req := req 0 [0, 0, 0, 0, 7, 0xFF, 0xFF, 0xFF]
def reqPark : Req := req 0 [1, 1, 0, 0]
def parkable : State :=
  { ponVt 5 with pon := { (ponVt 5).pon with groups := [(0, { members := [some 7, some 8, none, none], anchor := 0 })] } }

theorem witness_TerminalCommandsAnswer :
    (Ready vtConfigCmd reqVt (tak 0x200 reqVt) (withReq up 0x200 reqVt) ∧ ((withReq up 0x200 reqVt).vt 9).state = 0 ∧
      (withReq up 0x200 reqVt).rf (engFramer 1) FR.SYNC ≠ 2) ∧
    Ready vtQueryCmd reqQ (tak 0x201 reqQ) (withReq up 0x201 reqQ) ∧
    (Ready omciSendCmd reqOmci (tak 0x202 reqOmci) (withReq (ponVt 5) 0x202 reqOmci) ∧ ((withReq (ponVt 5) 0x202 reqOmci).vt 7).state = 5) ∧
    (Ready portSetCmd reqPort (tak 0x203 reqPort) (withReq (ponVt 5) 0x203 reqPort) ∧ (ponVt 5).portExplicit < 8128) ∧
    (Ready bondGroupSetCmd reqGrp (tak 0x204 reqGrp) (withReq (ponVt 5) 0x204 reqGrp) ∧ groupChecks reqGrp.payload (withReq (ponVt 5) 0x204 reqGrp) = none ∧
      (groupMembers reqGrp.payload).any (·.isSome) = true ∧ (withReq (ponVt 5) 0x204 reqGrp).groupOf 7 = none) ∧
    (Ready channelParkCmd reqPark (tak 0x205 reqPark) (withReq parkable 0x205 reqPark) ∧ ((withReq parkable 0x205 reqPark).chn 1).park = .none ∧
      ((withReq parkable 0x205 reqPark).chn 1).parked = false ∧ (withReq parkable 0x205 reqPark).anchorOf 1 = some 7) := by decide

/-! ### PON, upstream, parents and the pair -/

def grant7 : Grant := { kind := .normal 23, profile := 1, start := 100, ploam := true, allocs := [] }
def upst : State :=
  ((ponVt 5).modCh 0 fun c => { c with profiles := [(1, { rate := 2, shape := [] })] }).wf (engPmd 0) PMD.TX_EN 1

def withSt (n : Nat) : State := upst.modVt 7 fun t => { t with state := n }
def burst7 (c : Bool) : Burst := { vt := 7, grant := grant7, start := 500, committed := c }

theorem witness_GrantsBecomeBursts :
    upst.chWorks 0 = true ∧ upst.rf (engFramer 0) FR.SYNC = 2 ∧ (upst.chn 0).watch = .active ∧ upst.grantVts 0 grant7 = [7] ∧ upst.profileOk 0 1 = true ∧
      upst.txOn 0 = true ∧ (upst.vt 7).state = 5 ∧ (upst.chn 0).bursts = [] ∧ (ponVt 5).txOn 0 = false ∧
      upst.grantVts 0 { grant7 with kind := .normal 24 } = [] ∧
      ((withSt 4).grantVts 0 { grant7 with kind := .ranging 23 } = [7] ∧ ((withSt 4).vt 7).state = 4) ∧
      ((withSt 2).grantVts 0 { grant7 with kind := .serialNumber } = [7] ∧ ((withSt 2).vt 7).state = 2) ∧
      upst.overlap 0 (burst7 false) (upst.burstOf 0 0 7 grant7) = false ∧
      upst.overlap 0 { burst7 false with start := 1741824 } (upst.burstOf 0 0 7 grant7) = true ∧
      upst.overlap 0 { burst7 false with start := 1741974 } (upst.burstOf 0 0 7 grant7) = true := by decide

def granted (c : Bool) : State :=
  (upst.modCh 0 fun x => { x with bursts := [burst7 c] }).modVt 7 fun t => { t with queue := [.ack 1 .ok] }

theorem witness_BurstsCommitEndAndStop :
    ((granted false).nextBurst 0 false = some (burst7 false) ∧ (granted false).lowerFirst 0 (burst7 false) = [] ∧ (granted false).chWorks 0 = true ∧ (granted false).txOn 0 = true ∧ ((granted false).vt 7).state = 5 ∧
      ((granted false).vt 7).queue = [.ack 1 .ok] ∧ ((granted false).chn 0).bursts = [burst7 false]) ∧
    (granted true).nextBurst 0 true = some (burst7 true) ∧
    (upst.on (engPmd 0) PMD.ROGUE = false ∧ bitOf (upst.rf engWake WK.AWAKE) 4 = true ∧ upst.on (engPmd 0) PMD.TX_EN = true ∧ (ponVt 5).on (engPmd 0) PMD.TX_EN = false ∧
      upst.on (engPmd 0) PMD.TX_BURST = false ∧ upst.boot.ioLow = false ∧ (State.reset.chn 0).pben = false) := by decide

def reqBind (a : Byte) : Req := req 0 [0x4C, 4, 7, 0xFF, 16, 0, a, 0]
def bound (v : Nat) : State := { ponVt 5 with pon := { (ponVt 5).pon with allocs := [(allocKey 0 1100, { vt := v, dflt := false })] } }
def bound' (b : Option (Option Nat × Nat)) : State :=
  { ponVt 5 with pon := { (ponVt 5).pon with allocs := [(allocKey 0 1100, { vt := 7, dflt := false, bind := b }), (allocKey 0 1101, { vt := 7, dflt := false, bind := some (none, 16) })] } }
def reqBindG : Req := req 0 [0x4C, 4, 7, 2, 16, 0, 1, 0]
def reqAnch (c : Byte) : Req := req 0 [0, c, 0, 0]
def two (st' : Nat) : State := parkable.modVt 8 fun t => { t with channel := 1, state := st' }

theorem witness_BindingAndAnchorCommands :
    (Ready allocBindCmd (reqBind 1) (tak 0x220 (reqBind 1)) (withReq (bound 7) 0x220 (reqBind 1)) ∧
      ((bound 7).pon.allocs.look (allocKey 0 1100)).map (·.vt) = some 7 ∧ fld (reqBind 1).payload 3 1 = 0xFF ∧ fld (reqBind 1).payload 6 1 = 1) ∧
    Ready allocBindCmd (reqBind 0) (tak 0x220 (reqBind 0)) (withReq (bound 8) 0x220 (reqBind 0)) ∧
    (Ready allocBindCmd (reqBind 0) (tak 0x220 (reqBind 0)) (withReq (bound' (some (none, 16))) 0x220 (reqBind 0)) ∧
      ((bound' (some (none, 16))).pon.allocs.look (allocKey 0 1101)).map (·.bind) = some (some (none, 16))) ∧
    (Ready allocBindCmd reqBindG (tak 0x220 reqBindG) (withReq ((bound 7).wf (engPmd 0) PMD.MODE 1) 0x220 reqBindG) ∧ fld reqBindG.payload 3 1 = 2) := by decide

theorem witness_BindingAndAnchorCommands_anchor :
    (Ready anchorSetCmd (reqAnch 0) (tak 0x221 (reqAnch 0)) (withReq (two 5) 0x221 (reqAnch 0))) ∧
    (Ready anchorSetCmd (reqAnch 1) (tak 0x221 (reqAnch 1)) (withReq (two 5) 0x221 (reqAnch 1)) ∧
      ((two 5).pon.groups.look 0).bind (·.member 1) = some 8 ∧ ((two 5).vt 8).state = 5 ∧ ((two 4).vt 8).state = 4 ∧
      ((two 8).vt 8).state = 8 ∧ (two 8).rf (engFramer 1) FR.SYNC ≠ 2) ∧
    ((pon.modCh 1 fun c => { c with park := .anchorWake }).chn 1).park = .anchorWake := by decide

/-- EPOCH_CLAIM of epoch `e`. -/
def claim (e : Byte) : List Byte := [0x46, 0x4E, 0x10, 0, 0, 0, 0, e]
def claimed (act : Nat) : State := ((ponMsg 5 (.fennath (claim 8))).wf engBond BD.PA_EPOCH 7).wf engBond BD.ACTIVE act

theorem witness_EpochClaimsFollowTheTable :
    Heads (claimed 1) 0 (msg (.fennath (claim 8))) ∧ isFennath (claim 8) = true ∧ subType (claim 8) = 0x10 ∧ (claimed 1).parentOf 0 = 1 ∧
      (claimed 1).rf engBond BD.ACTIVE = 1 ∧ (claimed 1).rf engBond BD.PA_EPOCH = 7 ∧ beVal (part (claim 8) 4 4) = 8 ∧
      beVal (part (claim 7) 4 4) = 7 ∧ (claimed 1).claimAt 0 = some 0 ∧ (∀ d : Fin 4, (claimed 1).claimAt d = if d = 0 then some 0 else none) ∧ (claimed 2).rf engBond BD.ACTIVE = 2 := by decide

def reqMap (m : Byte) : Req := req 0 [m, 0, 0, 0]
def reqEpoch : Req := req 0 [1, 0, 0, 0, 8, 0, 0, 0]
def reqClear : Req := req 0 []

theorem witness_ParentCommandsSetActivity :
    (∀ ch : Fin 4, (withReq up 0x222 (reqMap 0xC)).claimAt ch = none) ∧
    Ready (parentMapCmd 0) (reqMap 0xC) (tak 0x222 (reqMap 0xC)) (withReq up 0x222 (reqMap 0xC)) ∧
    Ready (parentMapCmd 0) (reqMap 0) (tak 0x222 (reqMap 0)) (withReq up 0x222 (reqMap 0)) ∧
    (Ready (parentEpochCmd 0) reqEpoch (tak 0x223 reqEpoch) (withReq (up.wf engBond BD.PA_EPOCH 9) 0x223 reqEpoch) ∧ fld reqEpoch.payload 4 4 = 8) ∧
    Ready (parentClearCmd 0) reqClear (tak 0x224 reqClear) (withReq up 0x224 reqClear) ∧
    (up.rf engBond BD.ACTIVE = 1 ∧ up.on engBond BD.LOST = false ∧ up.parentTalks 1 = none) := by decide

def paired (p : Pair) : State := (up.modPair fun _ => { p with on := true, pairId := 5, keySlot := 3 }).wf engBond BD.ROLE 1
def pairKey : Slot := { key := List.replicate 32 0, salt := [], usage := 4 }
def withKey (s : State) : State := (s.modCry fun c => { c with slots := [(3, pairKey)] }).wf (engLane 5) LN.MODE 4
/-- A heartbeat of pair 5 with an unverified TAG, rank 1 and HB_SEQ 9. -/
def hb : List Byte := [0, 5, 2, 0] ++ be 8 1 ++ be 4 0 ++ be 4 9 ++ be 4 0 ++ zeros 8
/-- The same with the TAG that key `k` gives it. -/
def hbOf (k : List Byte) : List Byte := hb.take 24 ++ hbTag k (hb.take 24)

def hbJobbed : State := ((paired {}).newJob { hbAsk false with due := some 1000, timeout := some 1000 }).2

theorem witness_PairEventsFollowHeartbeats_jobs :
    (∀ x ∈ (paired {}).disp.jobs, x.2.work ≠ .heartbeat true) ∧ ((paired {}).runJob (hbAsk true)).1 = some 8192 ∧
    (hbJobbed.disp.jobs.find? fun x => x.2.work = .heartbeat false).map (fun x => (x.1, x.2.state)) = some (8192, .delayed) := by decide

theorem witness_PairEventsFollowHeartbeats_fields :
    (withKey (paired {})).cry.slots.look 3 = some pairKey ∧ (ponVt 5).parentTalks ((ponVt 5).rf engBond BD.ACTIVE) = some 0 := by decide

theorem witness_PairEventsFollowHeartbeats :
    ((paired {}).pon.pair.on = true ∧ up.pon.pair.on = false ∧ ((paired {}).wf engBond BD.PON_UP 1).on engBond BD.PON_UP = true ∧
      (paired {}).on engBond BD.LINK_UP = false ∧ (paired {}).on engBond BD.ISOLATED = false) ∧
    ((paired { hbIn := [[]] }).pon.pair.hbIn = [[]] ∧ beVal (hb.take 2) = 5 ∧ beVal (part hb 4 8) = 1 ∧ beVal (part hb 16 4) = 9 ∧
      ahead 32 9 8 = true ∧ ahead 32 9 10 = false) ∧
    ((paired { swapReq := true }).pon.pair.swapReq = true ∧ (paired { draining := true }).pon.pair.draining = true ∧ up.cry.msgs = []) := by decide

/-- The heartbeat with its TAG is one that verifies. -/
theorem witness_hbTag (k : List Byte) : (hbOf k).drop 24 = hbTag k ((hbOf k).take 24) := by
  have h : (hb.take 24).length = 24 := by decide
  simp only [hbOf, List.drop_left' h, List.take_left' h]

def reqPair (a : Byte) : Req := { req 0 [a, 1, 0, 5, 1, 0, 0, 0, 3, 0, 0, 0] with session := 1 }
def reqRole (a : Byte) : Req := req 0 [a, 0, 0, 0]

theorem witness_PairCommandsAnswer :
    Ready pairConfigCmd (reqPair 0) (tak 0x225 (reqPair 0) .officer) (withReq up 0x225 (reqPair 0) .officer) ∧
    (Ready pairConfigCmd (reqPair 1) (tak 0x225 (reqPair 1) .officer) (withReq (withKey up) 0x225 (reqPair 1) .officer) ∧
      (withKey up).pairLanes ≠ [] ∧ (withKey up).slotNeed 3 = none ∧ (withKey up).cry.slots.look 3 = some pairKey) ∧
    (Ready pairRoleCmd (reqRole 3) (tak 0x226 (reqRole 3) .officer) (withReq (paired {}) 0x226 (reqRole 3) .officer) ∧ (paired {}).role = 1) ∧
    ((paired {}).on engBond BD.BARRED = false ∧ ((paired {}).wf engBond BD.LINK_UP 1).on engBond BD.LINK_UP = true) := by decide

/-! ### TDM and circuits -/

/-- Lane 9 in SDH mode at STM-4, with the TDM engines ON. -/
def tdm : State := ((withOn up [engSdh 9, engPack, engPlay, engPm]).wf (engLane 9) LN.MODE 3).wf (engLane 9) LN.RATE 0x12
/-- Every field of lane 9's framer that a frame looks at in frame. -/
def lit : State := ((tdm.wf (engLane 9) LN.LOS 0).wf (engSdh 9) SF.OOF 0).wf (engSdh 9) SF.LOF 0
def badFrames (n : Nat) : State := lit.modTdm fun t => { t with lanes := [(9, { badA := n })] }
def sdhIn (ok : Bool) : SdhIn := { a1a2 := ok, b1 := 2, b2 := 3, k2 := 0, s1 := 15, rei := 4, aus := [] }
def tu12 : PathOut := { au := 1, unit := 8, fill := .slip }
def page1 : TdmPage := { structs := [(auKey 9 1, (2, 7))], conns := [(9142, (1, 65719))], circs := [] }
/-- Circuit 1207 feeds the TU-12 at K-L-M 1-3-2 of AU-4 number 2. -/
def fed (st' : Nat) : State := lit.modTdm fun t => { t with act := { page1 with circs := [(1207, circ1207)] }, rt := [(1207, { state := st', aisOut := false })] }
where circ1207 : Circ :=
  { mode := 1, size := 1, payload := 280, txSa := 0x410, rxSa := 0x420, txEcid := 0x4B7, rxEcid := 0x4B7, dst := [2, 0x4E, 0x48, 2, 0, 1],
    src := [2, 0x4E, 0x48, 1, 0, 1], tci := 0, depth := 12, lopsSet := 8, lopsClr := 2, queue := 64 }

theorem witness_SdhFramesFollowTheSection_received :
    (lit.sdhWorks 9 = true ∧ lit.on (engLane 9) LN.LOS = false ∧ lit.on (engSdh 9) SF.OOF = false ∧ lit.reports (entRs 9) = true) ∧
    ((badFrames 3).tdm.lanes.get 9 {}).badA = 3 ∧ (lit.wf (engSdh 9) SF.OOF 1).on (engSdh 9) SF.OOF = true ∧
    (lit.wf (engSdh 9) SF.LOF 1).on (engSdh 9) SF.LOF = true ∧ (lit.wf (engLane 9) LN.LOS 1).on (engLane 9) LN.LOS = true := by decide

/-- The TU-12 fed with AIS (`ptrs 1`) or with data, its generator settled. -/
def settled : State := (fed 2).modTdm fun t => { t with gens := [(genKey 9 1 8, { off := 5, fresh := false, sinceNeg := 4, sincePos := 4 })] }
def grouped : State := lit.modTdm fun t => { t with act := { t.act with structs := [(auKey 9 0, (3, 0)), (auKey 9 1, (5, 0))] } }

theorem witness_SdhFramesFollowTheSection_sent :
    (lit.lineSends 9 = true ∧ (fed 1).outTop 9 tu12 = some 139 ∧ (fed 1).outVc (genSlot (genKey 9 1 8)) = .ais ∧
      (fed 2).outVc (genSlot (genKey 9 1 8)) ≠ .ais) ∧ ((lit.wf (engLane 9) LN.LOOP 1).lineSends 9 = false) ∧
    (settled.outVc (genSlot (genKey 9 1 8)) ≠ .ais ∧ (settled.tdm.gens.look (genKey 9 1 8)).map (fun g => (g.fresh, g.ais, g.off)) = some (false, false, 5)) ∧
    ((fed 2).outTop 9 { tu12 with unit := 0 } = some 782 ∧ ((fed 2).tdm.act.au 9 1).1 = 2) ∧
    (grouped.outTop 9 { tu12 with unit := 0 } = some 782 ∧ (grouped.tdm.act.au 9 1).1 = 5) := by decide

def reqNone : Req := req 0 []
def edited : State := tdm.modTdm fun t => { t with stby := page1 }

theorem witness_SplicesSwapThePages :
    (Ready tsiSpliceCmd reqNone (tak 0x402 reqNone) (withReq edited 0x402 reqNone) ∧ edited.tdm.act ≠ edited.tdm.stby ∧ edited.tdm.splice = none ∧
      edited.on engTsi TSI.COPYING = false) ∧
    Ready tsiSpliceCmd reqNone (tak 0x402 reqNone) (withReq tdm 0x402 reqNone) ∧
    (Ready tsiSpliceCmd reqNone (tak 0x402 reqNone) (withReq (tdm.wf engTsi TSI.COPYING 1) 0x402 reqNone) ∧
      (tdm.wf engTsi TSI.COPYING 1).on engTsi TSI.COPYING = true) ∧
    (bitOf (tdm.rf engWake WK.AWAKE) 10 = true ∧ bitOf (State.reset.rf engWake WK.AWAKE) 10 = false ∧
      (edited.modTdm fun t => { t with splice := some .command }).tdm.splice = some .command) := by decide

/-- The commands of the example that ends the chapter. -/
def reqStruct : Req := req 0 [9, 2, 2, 0, 1, 1, 1, 0]
def reqConn : Req := req 0 [1, 1, 0, 0, 0xB7, 0, 1, 0, 0xB6, 0x23, 0, 0]
def reqUnconn : Req := req 0 [0, 1, 0, 0, 0xB6, 0x23, 0, 0, 0, 0, 0, 0]
def reqTsiRead : Req := req 0 [1, 0, 2, 0, 0xB6, 0x23, 0, 0]
abbrev meets (s : State) (c : Cmd) (r : Req) : Prop := Ready c r (tak c.op r) (withReq s c.op r)
/-- A path monitor on the TU-12. -/
def watched : State := tdm.modTdm fun t => { t with stby := page1, act := page1, mons := [(entLp 9142, {})] }

theorem witness_PageCommandsEditTheStandbyPage :
    (meets tdm tdmStructCmd reqStruct ∧ tdm.sdhLane 9 = true ∧ 1 < tdm.sdhAus 9 ∧ tugBits reqStruct.payload = 7 ∧ tdm.tdm.stby.au 9 1 ≠ (2, 7) ∧
      tdm.slotsUsed tdm.tdm.stby (slotsChanged tdm.tdm.stby (tdm.tdm.stby.restruct 9 1 2 7) 9) = false) ∧
    (meets up tdmStructCmd reqStruct ∧ up.sdhLane 9 = false) ∧ (meets edited tdmStructCmd reqStruct ∧ edited.tdm.stby.au 9 1 = (2, 7)) ∧
    (watched.tdm.stby.au 9 1 ≠ (1, 0) ∧ watched.slotsUsed watched.tdm.stby (slotsChanged watched.tdm.stby (watched.tdm.stby.restruct 9 1 1 0) 9) = true) := by decide

theorem witness_PageCommandsEditTheStandbyPage_connections :
    (meets edited tsiConnectCmd reqConn ∧ edited.slotValid edited.tdm.stby 0x100B7 1 = true ∧ edited.slotValid edited.tdm.stby 0x23B6 1 = true ∧
      edited.tdm.stby.conns.look 0x100B7 = none ∧ (edited.tdm.stby.conns.all fun c => !slotsMeet c.1 (sizeSlots c.2.1) 0x100B7 1) = true) ∧
    (meets edited tsiConnectCmd reqUnconn ∧ edited.tdm.stby.conns.look 0x23B6 = some (1, 65719) ∧ tdm.tdm.stby.conns.look 0x23B6 = none) ∧
    meets edited tsiReadCmd reqTsiRead := by decide

def circ1207 : Circ := fed.circ1207
def cirSa (exp : Bool) : Sa :=
  { fmt := { format := 0, dir := 0, sel := 0, sciA := 0, fixedA := 0, sciB := 0, fixedB := 0, window := 0, alarm := 0 }, mgmt := false, cur := 3,
    an := 0, rollAt := 0, overlap := 0, expired := exp }
/-- Circuit 1207 both ways, its playout in state `st'`. -/
def both (st' : Nat) (exp : Bool) (early : Nat) : State :=
  { (fed st') with
    cry := { (fed st').cry with sas := [(0x410, cirSa exp), (0x420, cirSa exp)], slots := [(3, { key := [], salt := [], usage := 1 })] }
    disp := { (fed st').disp with tick := 5190, jobs := [(2, { work := .playout 1207, state := .running, prio := 15, pool := 0, list := 7 })] } }.modTdm
      fun t => { t with
        act := { t.act with conns := [(9142, (1, 65719)), (65719, (1, 9142))] }
        rt := [(1207, { state := st', ctx := some 2, s1 := 0x313, t1 := 3215 * 256000, next := 0x314, earlyRun := early, filled := early })] }
/-- The frame of packet `seq` of circuit 1207, in red pages. -/
def arrived (seq early : Nat) : State :=
  match (both 2 false early).allocPages true (circFrame circ1207 (circHeader 1 false false seq 0) (List.replicate 280 1)) with
  | some (ps, s) => s.modTdm fun t => { t with rx := [{ sa := 0x420, pages := ps, len := 302 }] }
  | none => both 2 false early
/-- The same when packet 0x314's time has come. -/
def due (early : Nat) : State := { both 2 false early with disp := { (both 2 false early).disp with tick := 5800 } }
def frameOf (seq : Nat) : List Byte := circFrame circ1207 (circHeader 1 false false seq 0) (List.replicate 280 1)

set_option maxRecDepth 10000 in
theorem witness_CircuitPacketsAreFormedAndPlayed :
    ((both 2 true 0).tdm.act.circs.look 1207 = some circ1207 ∧ (both 2 true 0).circSource 1207 = some 9142 ∧ (both 2 true 0).works engPack = true ∧
      (both 2 true 0).saExpired 0x410 = true ∧ (both 2 false 0).saExpired 0x410 = false) ∧
    ((both 2 false 0).works engPlay = true ∧ typeOff (frameOf 0x315) = 12 ∧ fbe (frameOf 0x315) 14 4 / 4096 = 0x4B7 ∧
      (both 2 false 0).circFor 0x420 0x4B7 = some (1207, circ1207) ∧ (both 2 false 0).circFor 0x421 0x4B7 = none ∧
      circRead 1 (fbe (frameOf 0x315) 18 4) = (false, false, 0x315, none) ∧ (frameOf 0x315).length = 22 + 280 ∧ ((both 2 false 0).circ 1207).state = 2) ∧
    -- packet 0x315 at tick 5190 is held; 0x312 is late; 0x320 is early
    (playoutAt circ1207 ((both 2 false 0).circ 1207) 0x315 = 6715 ∧ playoutAt circ1207 ((both 2 false 0).circ 1207) 0x312 = 3715 ∧
      playoutAt circ1207 ((both 2 false 0).circ 1207) 0x320 = 17715 ∧ ahead 32 6715 5190 = true ∧ ahead 32 3715 5190 = false) ∧
    (((both 2 false 7).circ 1207).earlyRun = 7 ∧ ((both 2 false 7).circ 1207).ctx = some 2 ∧
      ((both 2 false 7).disp.jobs.look 2).map (·.state) = some .running ∧ ((both 2 false 7).circ 1207).held.look 0x314 = none ∧
      ahead 32 (playoutAt circ1207 ((due 7).circ 1207) 0x314) (due 7).disp.tick = false ∧ ((due 7).circ 1207).next = 0x314) := by decide

/-- The example's CIRCUIT_SET, its removal, and CIRCUIT_QUERY with and without clearing. -/
def reqCirc : Req := req 0 ([1, 1, 1, 0, 0xB7, 4, 0x18, 1, 0x10, 4, 0x20, 4, 0xB7, 4, 0, 0, 0xB7, 4, 0, 0, 2, 0x4E, 0x48, 2, 0, 1, 2, 0x4E, 0x48, 1, 0, 1] ++
  [0, 0, 12, 0, 8, 2, 64, 0])
def reqUncirc : Req := req 0 ([0, 0, 0, 0, 0xB7, 4] ++ zeros 34)
def reqCq (f : Byte) : Req := req 0 [0xB7, 4, f, 0]

set_option maxRecDepth 10000 in
theorem witness_CircuitCommandsAnswer :
    (meets (both 2 false 0) circuitSetCmd reqCirc ∧ circOf reqCirc.payload = circ1207 ∧ (both 2 false 0).on engTsi TSI.COPYING = false ∧
      (both 2 false 0).tdm.stby.circs = [] ∧ (both 2 false 0).saThere 0x410 = true ∧ (both 2 false 0).saKeyed 0x420 = true ∧
      tdm.saThere 0x410 = false ∧ ((both 2 false 0).circCtx 1207).isSome = true ∧ circ1207.blocks = 1 ∧
      { (both 2 false 0).tdm with stby := { (both 2 false 0).tdm.stby with circs := [(1207, circ1207)] } }.blocks = 1) ∧
    Circ.blocks { circ1207 with size := 5, depth := 256, payload := 64 } = 4699 ∧
    meets (both 2 false 0) circuitSetCmd reqUncirc ∧ meets (both 2 false 0) circuitQueryCmd (reqCq 0) ∧ meets (both 2 false 0) circuitQueryCmd (reqCq 1) ∧
    (both 2 false 0).tdm.act.circs.look 1207 = some circ1207 := by decide

def sec10 (eb : Nat) : List PmSec := (List.range 9).map fun i => { sec := 901 + i, eb := eb, defect := false }
/-- A monitor of the TU-12 with ten seconds behind it, the oldest of `e` errored blocks. -/
def aged (e rest : Nat) (un : Bool) : PmMon :=
  { secs := { sec := 900, eb := e, defect := false } :: sec10 rest, bins := [{ start := 900, counts := [1, 2, 3, 4, 5, 6] }], unavail := un }
def monTdm (m : PmMon) : State := (withOn up [engPm, engSdh 9, engLane 9]).modTdm fun t => { t with act := page1, mons := [(entLp 9142, m)] }
def reqPm (a : Byte) : Req := req 0 ([0xB6, 0x23, 0, 0x40, a, 0, 2] ++ zeros 29)
def reqPmRead : Req := req 0 [0xB6, 0x23, 0, 0x40, 0, 0, 2, 0]

set_option maxRecDepth 10000 in
theorem witness_MonitorsClassifyAndReport :
    ((monTdm (aged 4 0 false)).counting (entLp 9142) = true ∧ (monTdm (aged 4 0 false)).entities = [entLp 9142] ∧
      (monTdm (aged 4 0 false)).mon (entLp 9142) = aged 4 0 false ∧ (monTdm (aged 4 0 false)).sesLimit (entLp 9142) = 600) ∧
    (PmSec.ses { sec := 900, eb := 4, defect := false } 600 = false ∧ PmSec.ses { sec := 900, eb := 600, defect := false } 600 = true) ∧
    (aged 4 0 false).tcas = [0, 0, 0, 0] ∧ (aged 600 600 true).unavail = true ∧ (sec10 600).length = 9 ∧
    (meets (monTdm {}) pmConfigCmd (reqPm 0) ∧ (monTdm {}).tdm.mons.has (entLp 9142) = true ∧ fld (reqPm 0).payload 0 4 = entLp 9142) ∧
    (meets edited pmConfigCmd (reqPm 1) ∧ edited.tdm.mons.has (entLp 9142) = false) ∧ meets (monTdm {}) pmReadCmd reqPmRead ∧
    (begunBin 0 1800 (aged 4 0 false).bins = false ∧ quarterStart 1800 = 1800) := by decide

/-! ### The cipher complex -/

def ciph (n st' : Nat) : State := up.wf (engCipher n) HDR.STATE st'
def testing (u : Nat) (t : Option Nat) : State := (ciph u 1).modCry fun c => { c with testing := [(u, t)] }

theorem witness_EnginesAreBoundAndLocked :
    ((ciph 2 2).spareLocked (engCipher 2) = false ∧ (ciph 2 2).rf (engCipher 2) CX.BIND = 2 ∧ (ciph 2 2).rf (engCipher 2) CX.OWNER = 0 ∧
      (ciph 2 2).isOn (engCipher 2) = true ∧ (ciph 2 2).cxIdle 2 = true) ∧
    (up.spareLocked (engCipher 8) = true ∧ ((ciph 2 2).wf (engCipher 2) CX.OWNER 2).rf (engCipher 2) CX.OWNER = 2 ∧
      ((ciph 2 2).wf (engCipher 2) CX.REBIND 1).on (engCipher 2) CX.REBIND = true ∧ (ciph 2 2).on (engCipher 2) CX.REBIND = false ∧
      up.isOn (engCipher 2) = false ∧ up.rf (engCipher 2) CX.OWNER = 0) ∧
    ((2 : Fin 7) ≠ 0 ∧ (∃ w ∈ [((3 : Fin 7), (3 : Byte)), (2, 2)], w.1 = 2 ∧ w.2.toNat = 2) ∧
      ∀ w ∈ [((3 : Fin 7), (3 : Byte)), (2, 2)], w.1 ≠ 0 → w.2.toNat = w.1.val → (2 : Fin 7) ≤ w.1) :=
  ⟨by decide, by decide, by decide, ⟨(2, 2), by decide, by decide⟩,
    fun w h _ _ => by
      rcases List.mem_cons.mp h with rfl | h
      · decide
      · cases List.mem_singleton.mp h
        decide⟩

theorem witness_CipherTestsDecideService :
    ((testing 2 none).cry.testing = [(2, none)] ∧ (testing 2 none).engState (engCipher 2) = 1 ∧
      (testing 2 none).on (engCipher 2) HDR.PEND_OFF = false ∧ ((testing 2 none).wf (engCipher 2) HDR.ENABLE 1).on (engCipher 2) HDR.ENABLE = true) ∧
    ((testing 8 (some 2)).cry.pool = [] ∧ (testing 8 (some 2)).punit (engCipher 2) = 2) ∧
    (ciph 2 2).works (engCipher 2) = true := by decide

def fmtTx (dir : Nat) : Fmt :=
  { format := 1, dir := dir, sel := 0, sciA := 0x1122, fixedA := dir / 2 * 7, sciB := 0, fixedB := 0, window := dir / 2 * 32, alarm := 0 }
def key16 : Slot := { key := List.replicate 16 5, salt := List.replicate 12 6, usage := 1, due := true }
def saIn (dir : Nat) (mgmt : Bool) : Sa := { fmt := fmtTx dir, mgmt := mgmt, cur := 3, an := 1, rollAt := 2 ^ 51, overlap := 0 }
def frame20 : List Byte := (List.range 20).map byte
def waitingMsg (sl : Bool) (ctx cls : Nat) (on : Bool) : Msg :=  { ctx := ctx, unit := 0, cls := cls, isSeal := sl, started := on }
/-- An engine with message 9 waiting and message 8 of class 0 being fed; SA 32 in slot 3. -/
def busy (dir cls : Nat) : State :=
  let s := (up.wf engKeys KS.IV_FIXED 7).wf (engCipher 0) HDR.STATE 2
  { s with
    pages := [(0, { red := true, used := true, data := frame20 })]
    cry := { s.cry with sas := [(32, saIn dir true)], slots := [(3, key16)], msgs := [waitingMsg (dir == 1) 8 0 true, waitingMsg (dir == 1) 9 cls false] }
    disp := { s.disp with jobs := [(9, { work := .crypto (job9 dir), state := .running, prio := 0, pool := 1 })] } }
where job9 (dir : Nat) : CJob := { isSeal := dir == 1, cls := 0, sa := 32, src := [0], len := 20, dest := .queue 5 }

theorem witness_MessagesStartAndYield :
    ((busy 1 3).msgOf 9 true = some (waitingMsg true 9 3 false, busy.job9 1) ∧
      ((busy 1 3).noteFed 0 [8]).mayFeed (waitingMsg true 9 3 false) = true ∧ (busy 1 3).on engBond BD.BARRED = false ∧
      (busy 1 3).readPages [0] 20 = frame20 ∧ (busy 1 3).cry.sas.look 32 = some (saIn 1 true) ∧ (busy 1 3).rf engKeys KS.IV_FIXED = 7 ∧
      ((busy 1 3).noteFed 0 [8]).mayFeed (waitingMsg true 8 0 true) = false ∧ key16.due = true ∧ (fmtTx 1).macsec = true ∧ (fmtTx 1).tx = true ∧
      ((busy 1 3).allocPages false (sealMacsec (fmtTx 1) key16 7 1 1 frame20)).isSome = true) ∧
    ((busy 2 0).msgOf 9 false = some (waitingMsg false 9 0 false, busy.job9 2) ∧ ((busy 2 0).noteFed 0 [8]).mayFeed (waitingMsg false 9 0 false) = true) ∧
    (((busy 1 3).noteFed 0 [8]).cry.msgs.any fun m => m.unit = 0 && 0 < m.cls && !m.done) = true ∧
    (((busy 2 0).noteFed 0 [8]).cry.msgs.all fun m => m.cls = 0) = true := by decide

theorem witness_MessagesStartAndYield_long :
    1000 < (5000 + 2 ^ 32 - (waitingMsg true 9 0 true).suspTick) % 2 ^ 32 ∧ (waitingMsg true 9 0 true).long = false := by decide

/-- Message 9 has run to its end with a status. -/
def ended (dir st' : Nat) : State := (busy dir 0).modCry fun c => { c with msgs := [endMsg dir st'] }
where endMsg (dir st' : Nat) : Msg :=
  { waitingMsg (dir == 1) 9 0 true with sa := some 32, slot := 3, counter := 4, status := st', data := 8, out := frame20 }

theorem witness_CompletionsCountAndAccept :
    ((ended 2 2).cry.msgs.find? fun m => m.ctx = 9) = some (ended.endMsg 2 2) ∧ ((ended 2 2).disp.jobs.look 9).map (·.work) = some (.crypto (busy.job9 2)) ∧
    (ended 2 2).cry.sas.look 32 = some (saIn 2 true) ∧ ((ended 2 0).allocPages true frame20).isSome = true ∧ (ended 2 0).cry.olds = [] ∧
    (key16.rep 0).fresh 32 4 = true ∧ (key16.rep 0).fresh 32 0 = false ∧ (ended 1 0).behindSeal (ended.endMsg 1 0) = false ∧ (busy.job9 1).dest = .queue 5 := by decide

theorem witness_MacsecFramesHaveTheLayout : 12 ≤ frame20.length ∧ 1 < 4 := by decide

theorem witness_OpenReversesSeal :
    ((busy 2 0).cry.sas.find? fun x => x.2.fmt.macsec && !x.2.fmt.tx && (fmtTx 1).sciA ≠ 0 &&
      (x.2.fmt.sciA = (fmtTx 1).sciA || x.2.fmt.sciB = (fmtTx 1).sciA)) = some (32, saIn 2 true) ∧ (saIn 2 true).fmt.sciA = (fmtTx 1).sciA ∧
    (saIn 2 true).fmt.fixedA = 7 ∧ (busy 2 0).slotByAn (saIn 2 true) 1 = some 3 ∧ (key16.rep 0).recover 32 (5 % 2 ^ 32) = 5 ∧
    (key16.rep 0).fresh 32 5 = true ∧ (fmtTx 1).sciA < 2 ^ 64 := by decide

def keyed (s : State) : State := s.wf engKeys HDR.STATE 2
def reqIv : Req := req 0 [1, 0, 2, 13]
def reqFmt (win : Byte) : Req := req 0 ([32, 0, 0, 0, 1, 2, 0, 0] ++ be 8 0x1122 ++ le 4 7 ++ zeros 12 ++ [win, 0, 0, 0])
def reqStats : Req := req 0 [32, 0, 1, 0]
def reqRun : Req := req 0 ([1, 0, 32, 0, 20, 0, 0, 0] ++ frame20)
def reqSelf : Req := req 0 [0, 0, 0, 0]
/-- The pool engine is ON, and free or not. -/
def pooled (free : Bool) : State := keyed (((busy 1 3).wf (engCipher 7) HDR.STATE 2).wf (engCipher 7) CX.OWNER (bit (!free)))
/-- Unit 3 has been restored to SPARE, and unit 8 serves its logical engine. -/
def withPool (s : State) : State := (s.modCry fun c => { c with pool := [3] }).wf (engCipher 3) HDR.PUNIT 8
abbrev offMeets (s : State) (c : Cmd) (r : Req) : Prop := Ready c r (tak c.op r .officer) (withReq s c.op r .officer)
def lone (s : State) (op : Nat) (r : Req) (why : Why) : State := { s with chan := { s.chan with waits := [{ why := why, cmd := tak op r .officer }] } }

theorem witness_CipherCommandsAnswer :
    (offMeets (keyed up) ivFixedSetCmd reqIv ∧ fld reqIv.payload 0 4 ≠ 0 ∧ (keyed up).rf engKeys KS.IV_FIXED = 0) ∧
    (offMeets (keyed (busy 2 0)) saFormatCmd (reqFmt 64) ∧ parseFmt ((reqFmt 64).payload.drop 4) = { fmtTx 2 with window := 64 } ∧
      (busy 2 0).sciTaken 32 { fmtTx 2 with window := 64 } = false) ∧
    parseFmt ((reqFmt 32).payload.drop 4) = fmtTx 2 ∧ meets (keyed (busy 2 0)) saStatsCmd reqStats := by decide

theorem witness_CipherCommandsAnswer_engines :
    (offMeets (pooled true) (cipherRunCmd []) reqRun ∧ (pooled true).borrow = some 7 ∧ (pooled false).borrow = none ∧
      (pooled true).cry.sas.look 32 = some (saIn 1 true) ∧ (reqRun.payload.drop 8).length = 20) ∧
    (meets (pooled true) (selftestRunCmd true 40) reqSelf ∧ (pooled true).unitWindow 0 = some 0 ∧ (pooled true).testable 0 = false ∧
      (pooled true).testable 7 = true ∧ (pooled true).engState (engCipher 0) = 2) ∧
    ((selftestRunCmd true 40).op = 0x603 ∧ (withPool up).unitWindow 3 = none ∧ 3 ∈ (withPool up).cry.pool ∧
      (∀ x ∈ (pooled true).disp.jobs, x.2.work ≠ .kat 7)) ∧
    ((cipherRunCmd []).first reqRun (pooled false) = none ∧ cipherRunChecks reqRun.payload (pooled false) = none) := by decide

/-- A SELFTEST_RUN of unit 7 that waits for it. -/
def reqSelf7 : Req := { reqSelf with payload := [7, 0, 0, 0] }
def borrowing : State :=
  { pooled true with chan := { (pooled true).chan with waits := [{ why := .engineRun 0x0603, cmd := tak 0x0603 reqSelf7 }] } }

theorem witness_CipherCommandsAnswer_retry :
    (∃ w, (borrowing.chan.waits.filter fun w => w.why.borrows)[0]? = some w ∧ w.why = .engineRun 0x0603 ∧ w.cmd.op = 0x0603 ∧ w.cmd.req = reqSelf7) ∧
    (selftestRunCmd true 40).first reqSelf7 borrowing = none ∧ borrowing.unitWindow (fld reqSelf7.payload 0 1) = some 7 ∧
    borrowing.engState (engCipher 7) ≠ 4 ∧ borrowing.engState (engCipher 7) ≠ 5 ∧ borrowing.testable 7 = true ∧
    (borrowing.chan.waits.filter fun w => w.why.borrows)[1]? = none :=
  ⟨⟨_, rfl, rfl, rfl, rfl⟩, by decide⟩

/-! ### Keys, random numbers and alarms -/

theorem witness_EntryBufferFillsAndClears : (0x100 : Word).getLsbD 0 = false ∧ (1 : Word).getLsbD 0 = true := by decide

def rec16 (usage : Byte) : List Byte := List.replicate 16 5 ++ zeros 16 ++ List.replicate 12 6 ++ [0x10, usage, 0, 0]
/-- The entry buffer holds the record of a 16-byte key. -/
def entered (usage : Byte) : State :=
  ((List.range 12).foldl (fun s i => s.writeKeData i (fld (rec16 usage) (4 * i) 4)) (keyed up)).modCry fun c => { c with zeroed := [8] }
/-- The entry buffer holds 56 bytes of a wrapped key, and slot 4 a KEK; there is an engine to borrow, or none. -/
def enteredWrap (free : Bool) : State :=
  ((List.range 14).foldl (fun s i => s.writeKeData i 0x01020304) (pooled free)).wf engWrap HDR.STATE 2 |>.modCry fun c =>
    { c with slots := [(4, { key := List.replicate 32 9, salt := zeros 12, usage := 3 }), (7, key16)] }
/-- KEY_COMMIT of slot 3 with the digest `a` to `d`, plain or wrapped under slot `kek`. -/
def reqCommit (wrap kek a b c d : Byte) : Req := req 0 [3, 0, wrap, 0, kek, 0, 0, 0, a, b, c, d]

theorem findTaken_withReq (s : State) (op : Nat) (r : Req) (role : Role) (h : s.chan.taken = []) :
    (withReq s op r role).findTaken op r = some (tak op r role) := by
  simp [State.findTaken, withReq, tak, h]

theorem isNext_withReq (s : State) (op : Nat) (r : Req) (role : Role) (h : s.chan.taken = [])
    (hw : s.chan.waits = []) : (withReq s op r role).isNext (tak op r role) = true := by
  simp [State.isNext, State.unblocked, withReq, takenBefore, h, hw]

/-- The digest is a value of an opaque hash, so that the request is left open in it. -/
theorem commit_ready (s : State) (wrap kek a b c d : Byte) (ht : s.chan.taken = []) (hw : s.chan.waits = []) (hd : s.boot.fwDead = false)
    (hh : s.heldBy keyCommitCmd (reqCommit wrap kek 0 0 0 0) = none)
    (hf : keyCommitCmd.first (reqCommit wrap kek 0 0 0 0) (withReq s 0x620 (reqCommit wrap kek 0 0 0 0) .officer) = none) :
    offMeets s keyCommitCmd (reqCommit wrap kek a b c d) :=
  ⟨findTaken_withReq _ _ _ _ ht, .inr (isNext_withReq _ _ _ _ ht hw), .inl hd, hh, by simp [State.inSoftReset, reqCommit, req], hf⟩

theorem witness_KeyCommandsFillAndEmptySlots (a b c d : Byte) :
    offMeets (entered 1) keyCommitCmd (reqCommit 0 0 a b c d) ∧ offMeets (keyed up) keyCommitCmd (reqCommit 0 0 a b c d) ∧
    offMeets (enteredWrap true) keyCommitCmd (reqCommit 1 4 a b c d) ∧ offMeets (enteredWrap true) keyCommitCmd (reqCommit 1 7 a b c d) ∧
    offMeets (enteredWrap false) keyCommitCmd (reqCommit 1 4 a b c d) :=
  ⟨commit_ready _ _ _ a b c d (by decide) (by decide) (by decide) (by decide) (by decide),
    commit_ready _ _ _ a b c d (by decide) (by decide) (by decide) (by decide) (by decide),
    commit_ready _ _ _ a b c d (by decide) (by decide) (by decide) (by decide) (by decide),
    commit_ready _ _ _ a b c d (by decide) (by decide) (by decide) (by decide) (by decide),
    commit_ready _ _ _ a b c d (by decide) (by decide) (by decide) (by decide) (by decide)⟩

/-- For some digest the buffer is accepted, for the others it is not. -/
theorem witness_KeyCommandsFillAndEmptySlots_digest (s : State) (wrap kek : Byte) :
    ∃ a b c d, (be 48 (Config.sha384 s.entryBytes).toNat).take 4 = part (reqCommit wrap kek a b c d).payload 8 4 := ⟨_, _, _, _, rfl⟩

theorem witness_KeyCommandsFillAndEmptySlots_buffer :
    ((entered 1).rf engCmd VS.FILLED % 2 ^ 12 = 2 ^ 12 - 1 ∧ (keyed up).rf engCmd VS.FILLED % 2 ^ 12 ≠ 2 ^ 12 - 1 ∧
      firstNonzero (entered 1).entryBytes 48 16 = none ∧ (entered 1).entryBytes.take 48 = rec16 1 ∧ fld (rec16 1) 45 1 ≠ 5 ∧
      recCheck (rec16 1) (((entered 1).namer 3).map fun x => (x.2.fmt, x.2.mgmt)) = none ∧ (entered 1).cry.slots.has 3 = false) ∧
    ((entered 1).cry.retired.contains 3 = false ∧ (entered 1).cry.olds = []) ∧
    ((enteredWrap true).rf engCmd VS.FILLED % 2 ^ 14 = 2 ^ 14 - 1 ∧ firstNonzero (enteredWrap true).entryBytes 56 8 = none ∧
      (enteredWrap true).borrow = some 7 ∧ (enteredWrap false).borrow = none ∧
      (enteredWrap true).cry.slots.has 3 = false ∧ ((enteredWrap true).cry.slots.look 4).map (·.usage) = some 3 ∧
      ((enteredWrap true).cry.slots.look 7).map (·.usage) = some 1) := by decide

/-- A slot with a KEK, and slot 3 with a key. -/
def kekOn (s : State) (state : Nat) : State :=
  ((s.modCry fun c => { c with slots := [(3, key16), (4, { key := List.replicate 32 9, salt := zeros 12, usage := 3 })], zeroed := [8] }).wf engDrbg
    RNG.STATE state).wf engWrap HDR.STATE 2 |>.wf engDrbg HDR.STATE 2
def kekIn (state : Nat) : State := kekOn (keyed up) state
def reqGenerate (kek : Byte) : Req := req 0 [9, 0, 0, 1, 0x10, 0, kek, 0]
def reqErase (slot what : Byte) : Req := req 0 [slot, 0, what, 0]

/-- The same with an engine to borrow, or with pool engines that are all locked. -/
def kekPool (free : Bool) : State := kekOn (pooled free) 2

theorem witness_KeyCommandsFillAndEmptySlots_generate :
    (offMeets (kekIn 1) (keyGenerateCmd .later) (reqGenerate 4) ∧ offMeets (kekIn 3) (keyGenerateCmd .later) (reqGenerate 4) ∧
      offMeets (kekIn 2) (keyGenerateCmd .later) (reqGenerate 4) ∧ (kekIn 2).cry.slots.has 9 = false ∧ (kekIn 2).namer 9 = none ∧
      (kekIn 2).rngLoad + drawLen 1 0x10 ≤ 4096 ∧ (kekIn 2).cry.rng.requests < 65536) ∧
    (offMeets (kekPool true) (keyGenerateCmd .now) (reqGenerate 4) ∧ (kekPool true).borrow = some 7 ∧
      offMeets (kekPool false) (keyGenerateCmd .now) (reqGenerate 4) ∧ (kekPool false).borrow = none) := by decide

theorem witness_KeyCommandsFillAndEmptySlots_kek :
    (offMeets (kekIn 2) (keyGenerateCmd .now) (reqGenerate 8) ∧ (kekIn 2).cry.zeroed.contains 8 = true ∧
      offMeets (kekIn 2) (keyGenerateCmd .now) (reqGenerate 7) ∧ (kekIn 2).cry.zeroed.contains 7 = false) := by decide

/-- Terminal 5 has a master session key. -/
def withMsk (s : State) : State := { s with pon := { s.pon with msk := [(5, 77)] } }

theorem witness_KeyCommandsFillAndEmptySlots_erase :
    (offMeets (kekIn 2) keyEraseCmd (reqErase 3 0) ∧ (kekIn 2).slotBound 3 = false ∧ (kekIn 2).cry.slots.has 3 = true) ∧
    (offMeets (kekIn 2) keyEraseCmd (reqErase 9 0) ∧ (kekIn 2).cry.slots.has 9 = false) ∧
    (offMeets (keyed (busy 1 3)) keyEraseCmd (reqErase 3 0) ∧ (keyed (busy 1 3)).slotBound 3 = true) ∧
    (offMeets (kekIn 2) keyEraseCmd (reqErase 5 1) ∧ (kekIn 2).pon.msk.has 5 = false) ∧
    (offMeets (withMsk (kekIn 2)) keyEraseCmd (reqErase 5 1) ∧ (withMsk (kekIn 2)).pon.msk.has 5 = true) := by decide

/-- SA 32 in slot 3, and slots 4 and 5 with keys for it; a circuit names SA 40. -/
def saFor (dir : Nat) (x : Sa) : State :=
  { keyed up with
    cry := { (keyed up).cry with slots := [(3, key16), (4, key32), (5, key32), (6, { key32 with usage := 3 })], sas := [(32, { x with fmt := fmtTx dir })] } }
where key32 : Slot := { key16 with usage := 2, volume := 0 }
def reqCreate (sa slot : Byte) : Req := req 0 ([sa, 0, slot, 0, 0, 1, 1, 0] ++ zeros 12 ++ [1, 1, 0, 0] ++ be 8 0x3344 ++ zeros 20)
def reqStage (slot : Byte) : Req := req 0 [32, 0, slot, 0, 0, 0, 0, 0]
def reqSa (sa : Byte) : Req := req 0 [sa, 0, 0, 0]

theorem witness_SecurityAssociationsBindAndRoll :
    (offMeets (saFor 1 (saIn 1 true)) (saCreateCmd .later) (reqCreate 32 5) ∧
      offMeets (saFor 1 (saIn 1 true)) (saCreateCmd .later) (reqCreate 33 3) ∧ (saFor 1 (saIn 1 true)).slotBound 3 = true) ∧
    (offMeets (saFor 1 (saIn 1 true)) (saCreateCmd .later) (reqCreate 33 5) ∧ (saFor 1 (saIn 1 true)).slotBound 5 = false ∧
      saFor.key32.suits (parseFmt ((reqCreate 33 5).payload.drop 20)) true = true ∧
      (saFor 1 (saIn 1 true)).sciTaken 33 (parseFmt ((reqCreate 33 5).payload.drop 20)) = false) := by decide

/-- SA 33 with a new key, wrapped under slot 4. -/
def reqCreateKey : Req := req 0 ([33, 0, 0, 0, 1, 1, 1, 0] ++ zeros 8 ++ [4, 0, 0, 0] ++ [1, 1, 0, 0] ++ be 8 0x3344 ++ zeros 20)

theorem witness_SecurityAssociationsBindAndRoll_key :
    offMeets (kekPool true) (saCreateCmd .now) reqCreateKey ∧ (kekPool true).cry.sas.has 33 = false ∧
    (kekPool true).sciTaken 33 (parseFmt (reqCreateKey.payload.drop 20)) = false ∧ (kekPool true).freeSlot 0 65536 = some 0 ∧
    (kekPool true).rngLoad + ((parseFmt (reqCreateKey.payload.drop 20)).keyLen + 12) ≤ 4096 := by decide

theorem witness_SecurityAssociationsBindAndRoll_rolls :
    (offMeets (keyed up) saStageCmd (reqStage 5) ∧ offMeets (saFor 1 (saIn 1 true)) saStageCmd (reqStage 5) ∧
      saFor.key32.suits (fmtTx 1) true = true ∧ (saFor 1 (saIn 1 true)).slotBound 6 = false) ∧
    (offMeets (saFor 1 { saIn 1 true with next := some (5, 0) }) saRollCmd (reqSa 32) ∧
      offMeets (saFor 2 { saIn 2 true with next := some (5, 0) }) saRollCmd (reqSa 32) ∧
      (saFor 1 { saIn 1 true with next := some (5, 0) }).slotInFlight 3 = false) ∧
    (offMeets (saFor 1 (saIn 1 true)) saDeleteCmd (reqSa 32) ∧ offMeets (saFor 1 (saIn 1 true)) saDeleteCmd (reqSa 33) ∧
      (saFor 1 (saIn 1 true)).saInCircuit 32 = false) ∧ meets (saFor 1 (saIn 1 true)) saQueryCmd (reqSa 32) := by decide

/-- Message 9 waits on SA 32, whose current slot has the volume `v`; in MACsec, or in the Ixyel form. -/
def near (v : Nat) (next : Option (Nat × Nat)) (dead mac : Bool) : State :=
  let s := (busy 1 3).modCry fun c =>
    { c with slots := [(3, { key16 with volume := v }), (5, { key16 with counter := 1 })],
             sas := [(32, { saIn 1 true with fmt := nearFmt mac, next := next, expired := dead })] }
  { s with pages := [(0, { red := true, used := true, data := if mac then frame20 else (frame20.take 12) ++ [0x88, 0xD8] ++ zeros 6 })]
           disp := { s.disp with jobs := [(9, { work := .crypto nearJob, state := .running, prio := 0, pool := 1 })] } }
where
  nearFmt (mac : Bool) : Fmt := { fmtTx 1 with format := if mac then 1 else 0x11, sciA := if mac then 0x1122 else 0 }
  nearJob : CJob := { busy.job9 1 with hdr := 12 }

theorem witness_VolumeCeilingSwitchesOrExpires (mac : Bool) :
    ((near (2 ^ 51) (some (5, 0)) false mac).msgOf 9 true = some (waitingMsg true 9 3 false, near.nearJob) ∧
      ((near (2 ^ 51) (some (5, 0)) false mac).noteFed 0 [8]).mayFeed (waitingMsg true 9 3 false) = true ∧
      (near (2 ^ 51) (some (5, 0)) false mac).on engBond BD.BARRED = false ∧
      (near (2 ^ 51) (some (5, 0)) false mac).rf engKeys KS.IV_FIXED ≠ 0 ∧ (near (2 ^ 51) (some (5, 0)) false mac).slotInFlight 3 = false) ∧
    (∀ b, b = (near (2 ^ 51) (some (5, 0)) false mac).readPages [0] 20 → b.length + (near.nearFmt mac).overhead ≤ 9600 ∧
      (mac = true ∧ 8 + 12 = b.length ∨ mac = false ∧ 6 + (12 + 2) = b.length ∧ fbe b 12 2 = 0x88D8) ∧
      ((near (2 ^ 51) (some (5, 0)) false mac).allocPages false
        (sealBytes (near (2 ^ 51) (some (5, 0)) false mac) near.nearJob (near.nearFmt mac) key16 2 b)).isSome = true) ∧
    (2 ^ 52 < (2 ^ 52 - 4) + (if mac then 8 else 6) ∧
      ((near (2 ^ 52 - 4) none false mac).noteFed 0 [8]).mayFeed (waitingMsg true 9 3 false) = true) ∧
    ((near 0 none true mac).noteFed 0 [8]).mayFeed (waitingMsg true 9 3 false) = true := by
  cases mac <;> exact ⟨by decide, fun b hb => by subst hb; decide, by decide, by decide⟩

def rng (n : Nat) : State := (up.wf engDrbg HDR.STATE 2).wf engDrbg RNG.STATE n
def reqRng (n : Byte) : Req := req 0 [n, 0, 0, 0]
/-- One RNG_READ waits, with output in the buffer. -/
def held (out : List Byte) (passed : Bool) : State := lone (rng 2) 0x628 (reqRng 4) (.rng 4 out passed)
/-- A reseed has its samples. -/
def fedRng : State := (rng 2).modRng fun r => { r with samples := 1024 }
/-- The buffer holds 100 bytes for another host. -/
def fullRng : State := lone (rng 2) 0x628 { reqRng 4 with carrier := .ring 1 } (.rng 100 (zeros 100) false)
/-- RNG_READ of 4,000 bytes. -/
def reqRngLong : Req := req 0 [0xA0, 0x0F, 0, 0]

theorem witness_RandomBitsFollowTheDrbgState :
    ((rng 2).rf engDrbg RNG.STATE = 2 ∧ (rng 0).rf engDrbg RNG.STATE = 0 ∧ (41 : Fin 513).val ≤ 41 ∧ 410 ≤ (410 : Fin 513).val ∧
      (40 : Fin 513).val < 41 ∧ (409 : Fin 513).val < 410) ∧
    (fedRng.cry.rng.samples = 1024 ∧ fedRng.rf engDrbg RNG.STATE = 2 ∧ (rng 2).cry.rng.samples ≠ 1024) ∧
    ({ rng 1 with pon := { (rng 1).pon with rankDone := true } }.rf engDrbg RNG.STATE = 1 ∧ (rng 1).cry.rng.inner = []) := by decide

theorem witness_RandomBitsFollowTheDrbgState_release :
    ((held [1, 2, 3, 4] true).rf engDrbg RNG.STATE = 2 ∧ fld (reqRng 4).payload 0 2 = 4 ∧
      (rngReadCmd (.given [1, 2, 3, 4])).first (reqRng 4) (held [1, 2, 3, 4] true).ordered = none) ∧
    (held [1, 2, 3, 4] false).rf engDrbg RNG.STATE = 2 := by decide

theorem witness_RandomBitsFollowTheDrbgState_commands :
    (meets (rng 2) (rngReadCmd .now) (reqRng 4) ∧ meets (rng 2) (rngReadCmd .later) (reqRng 4) ∧ meets (rng 1) (rngReadCmd .later) (reqRng 4) ∧
      meets (rng 3) (rngReadCmd .now) (reqRng 4) ∧ (rng 2).rngLoad + 4 ≤ 4096 ∧ (rng 2).cry.rng.requests < 65536) ∧
    (meets fullRng (rngReadCmd .later) reqRngLong ∧ fullRng.rngLoad ≠ 0 ∧ 4096 < fullRng.rngLoad + 4000) ∧
    (offMeets (rng 2) rngRestartCmd reqNone ∧ offMeets (rng 3) rngRestartCmd reqNone) := by decide

theorem witness_AlarmsEraseAndHold :
    (up.boot.phase = .up ∧ up.boot.hold = false ∧ State.reset.boot.armed = false ∧ up.boot.loopBad = 0) ∧ meets (kekIn 2) (zeroizeCmd true) reqNone := by decide

/-! ### The classifier and the scheduler -/

/-- T1 of the example that ends the classifier's chapter: parse record LANE, then the destination address. -/
def t1Fields : List Byte := [0, 23, 1, 0, 2, 0, 6, 0] ++ zeros 16
def exact1 : TableC := { kind := 1, fields := t1Fields, miss := zeros 16 }
def rule1 : Rule := { key := [1] ++ zeros 39, mask := [255] ++ zeros 39, result := zeros 16 }
def tern2 : TableC := { kind := 2, fields := [0, 23, 1, 0] ++ zeros 20, miss := zeros 16, stby := [(7, rule1)] }
def flow1 (data : List Byte) : FlowE :=
  { table := 1, keyLen := 7, hit := 0, key := [0, 2, 0x4E, 0x48, 2, 0, 0x10] ++ zeros 17,
    result := [0xB7, 0, 0x20, 0, 0xC8, 0, 0, 0, 0, 5, 0, 0, 0, 0, 0, 0], data := data }
/-- T1 is exact, T2 ternary. -/
def tabled (flows stash : SMap FlowE) : State := up.modCls fun c => { c with tables := [(1, exact1), (2, tern2)], flows := flows, stash := stash }
def copying : State := (tabled [] []).wf (engTable 2) TB.COPYING 1
def reqConfig (kind : Byte) (fields : List Byte) : Req := req 0 ([1, kind, 0, 0] ++ fields ++ zeros 16)
def reqRule (act idx mask : Byte) : Req := req 0 ([2, act, idx, 0, 1] ++ zeros 39 ++ [mask] ++ zeros 39 ++ zeros 16)
def reqT2 : Req := req 0 [2, 0, 0, 0]
def reqAdd (flag : Byte) : Req := req 0 ([flag, 0, 0, 0, 3, 7, 0, 0, 0, 0, 0, 0] ++ (flow1 []).key ++ (flow1 []).result ++ zeros 16)
def reqFlow : Req := req 0 ([1, 7, 0, 0] ++ (flow1 []).key)
/-- The bucket of the example's entry: CRC-32C of its 25 bytes, bits 21:0 (computed apart). -/
def bkt : Nat := 1269072
set_option maxRecDepth 100000 in
theorem test_bucket : bucketOf 1 (flow1 []).key = bkt := by decide

theorem witness_ClassifierTablesAreEdited :
    (meets (tabled [] []) tableConfigCmd (reqConfig 1 t1Fields) ∧ (tabled [] []).cls.exactOthers 1 = 0 ∧
      meets (tabled [(5, flow1 [])] []) tableConfigCmd (reqConfig 0 t1Fields) ∧ (tabled [(5, flow1 [])] []).cls.holds 1 = true ∧
      meets (tabled [] []) tableConfigCmd (reqConfig 0 t1Fields) ∧ (tabled [] []).cls.holds 1 = false ∧
      (tabled [] []).linksUsed ≤ 1048576 ∧ ((tabled [] []).pickCtx [1]).isSome = true ∧ (tabled [] []).poolUsed 1 + 1 < 57088 ∧
      (tabled [] []).disp.dry = []) ∧
    (meets (tabled [] []) ruleSetCmd (reqRule 1 7 255) ∧ meets (tabled [] []) ruleSetCmd (reqRule 1 8 255) ∧ meets copying ruleSetCmd (reqRule 1 8 255) ∧
      (tabled [] []).on (engTable 2) TB.COPYING = false ∧ copying.on (engTable 2) TB.COPYING = true ∧ keyLen tern2.fields = 1) := by decide

/-- Jobs that fill the general pool and the class P pool. -/
def fullPools : SMap Job :=
  List.replicate 57088 (8192, { work := .mgmt, state := .running, prio := 8, dep := 0, pool := 1, list := 12, created := 0 }) ++
    List.replicate 256 (65280, { work := .mgmt, state := .running, prio := 8, dep := 0, pool := 2, list := 12, created := 0 })
def packed (s : State) : State := { s with disp := { s.disp with jobs := fullPools } }
theorem packed_pools (s : State) (h : s.disp.jobs = fullPools) : s.poolUsed 1 = 57088 ∧ s.poolUsed 2 = 256 ∧ s.linksUsed = 0 := by
  simp [-List.reduceReplicate, State.poolUsed, State.linksUsed, State.links, h, fullPools, List.filter_append, List.flatMap_append]
/-- Nobody takes a context there. -/
theorem packed_runJob (s : State) (h : s.disp.jobs = fullPools) (a : JobAsk) (ha : a.after = []) (ht : a.timeout = none) (hc : a.cls ≠ .circuit) :
    s.runJob a = (none, s.bump engDisp DP.DP_NOCTX) ∧ s.hasCtx a.cls = false := by
  obtain ⟨p, q, l⟩ := packed_pools s h
  cases hk : a.cls <;> simp_all [State.runJob, State.newJob, State.incomplete, JobAsk.timeoutOk, State.takeSlot, State.pickCtx, JobClass.pools, State.hasCtx, poolRange]

theorem witness_ClassifierTablesAreEdited_packed :
    meets (packed (tabled [] [])) tableConfigCmd (reqConfig 0 t1Fields) ∧ (packed (tabled [] [])).cls.holds 1 = false ∧
      (packed (tabled [] [])).hasCtx .datapath = false ∧ (packed (tabled [] [])).linksUsed ≤ 1048576 :=
  ⟨by decide, by decide, (packed_runJob _ rfl tableAsk rfl rfl (by decide)).2, by simp [(packed_pools (packed (tabled [] [])) rfl).2.2]⟩

theorem witness_ClassifierTablesAreEdited_rules :
    (meets (tabled [] []) ruleSetCmd (reqRule 0 7 0) ∧ meets (tabled [] []) ruleSetCmd (reqRule 0 9 0)) ∧
    (meets (tabled [] []) tableSpliceCmd reqT2 ∧ meets copying tableSpliceCmd reqT2 ∧ (engTable 2 = engTable (1 + 1)) ∧ tern2.act ≠ tern2.stby) := by decide

set_option maxRecDepth 100000 in
theorem witness_ClassifierTablesAreEdited_flows :
    (meets (tabled [] []) flowAddCmd (reqAdd 0) ∧ meets (tabled [] []) flowAddCmd (reqAdd 1) ∧
      (tabled [] []).flowKeyCheck (reqAdd 0).payload 1 4 5 12 = none ∧ (tabled [] []).cls.findFlow 1 (flow1 []).key = none ∧
      (tabled [] []).cls.freeSlot bkt = some (8 * bkt)) ∧
    (meets (tabled [(8 * bkt + 3, flow1 [])] []) flowAddCmd (reqAdd 1) ∧
      (tabled [(8 * bkt + 3, flow1 [])] []).cls.findFlow 1 (flow1 []).key = some (.entry (8 * bkt + 3), flow1 []) ∧
      meets (tabled [(8 * bkt + 3, flow1 [])] []) flowReadCmd reqFlow ∧ meets (tabled [(8 * bkt + 3, flow1 [])] [(0, flow1 [])]) flowDelCmd reqFlow ∧
      (tabled [(8 * bkt + 3, flow1 [])] [(0, flow1 [])]).cls.oldestOf bkt = some (0, flow1 [])) := by decide

/-- An entry of another table: buckets and a stash full of it hold no key of T1. -/
def other : FlowE := { flow1 [] with table := 2 }
def brimming (n : Nat) : State := tabled ((List.range 8).map fun i => (8 * bkt + i, other)) ((List.range n).map fun i => (i, other))

theorem freeFrom_eq_none {α : Type} (m : SMap α) (n : Nat) : ∀ lo, (∀ i, lo ≤ i → i < lo + n → m.has i = true) → m.freeFrom lo n = none := by
  induction n with
  | zero => intros; rfl
  | succ n ih =>
    intro lo h
    rw [SMap.freeFrom, if_pos (h lo (Nat.le_refl _) (by omega))]
    exact ih (lo + 1) fun i h1 h2 => h i (by omega) (by omega)

theorem look_of_mem {α : Type} (m : SMap α) (k : Nat) (v : α) (h : (k, v) ∈ m) : m.has k = true := by
  induction m with
  | nil => cases h
  | cons e m ih =>
    simp only [SMap.has, SMap.look] at ih ⊢
    split
    · rfl
    · rcases List.mem_cons.1 h with h | h
      · exact absurd (congrArg Prod.fst h) (by assumption)
      · exact ih h

theorem brimming_full (n : Nat) : (brimming n).cls.stash.freeFrom 0 n = none :=
  freeFrom_eq_none _ n 0 fun i _ h => look_of_mem _ i other (List.mem_map.2 ⟨i, List.mem_range.2 (by omega), rfl⟩)

theorem brimming_bucket : (((List.range 8).map fun i => 8 * bkt + i).find? fun i =>
    (((brimming 0).cls.flows.look i).map fun x => x.table == 1 && x.key == (flow1 []).key).getD false) = none ∧
    (((List.range 8).map fun i => 8 * bkt + i).find? fun i => !(brimming 0).cls.flows.has i) = none := by decide

theorem brimming_find (n : Nat) : (brimming n).cls.findFlow 1 (flow1 []).key = none := by
  simp only [Cls.findFlow, test_bucket]
  have hf : (brimming n).cls.flows = (brimming 0).cls.flows := rfl
  have hs : (brimming n).cls.stash.find? (fun x => x.2.table == 1 && x.2.key == (flow1 []).key) = none := by
    rw [List.find?_eq_none]
    intro x hx
    obtain ⟨i, _, rfl⟩ := List.mem_map.1 hx
    show ¬((other.table == 1 && other.key == (flow1 []).key) = true)
    decide
  rw [hf, brimming_bucket.1, hs]
  rfl

theorem brimming_free (n : Nat) : (brimming n).cls.freeSlot bkt = none := brimming_bucket.2

theorem witness_ClassifierTablesAreEdited_full :
    (brimming 65536).cls.findFlow 1 (flow1 []).key = none ∧ (brimming 65536).cls.freeSlot bkt = none ∧
      (brimming 65536).cls.stash.freeFrom 0 65536 = none := ⟨brimming_find _, brimming_free _, brimming_full _⟩

/-- The full state meets the conditions of FLOW_ADD too. -/
theorem witness_ClassifierTablesAreEdited_add : meets (brimming 1) flowAddCmd (reqAdd 0) := by decide

def clsIn (down : Bool) : ClsIn := { down := down, lane := 2, bytes := frame20, arrival := 0, pages := if down then [0] else [] }
/-- The parser and action unit 0 work; a frame waits; the initial program is `prog`. -/
def fresh (down : Bool) (prog : Nat) : State :=
  (((withOn up [engParser, engAction 0]).wf engParser PS.DEF_PROG_DN prog).wf engParser PS.DEF_PROG_UP prog).modCls fun c => { c with inq := [clsIn down] }
/-- A program waits for an action unit. -/
def waitingProg (progs : SMap Prog) : State :=
  (fresh true 5).modCls fun c => { c with progs := progs, progq := [{ frame := clsIn true, record := zeros 32, data := metaStart (zeros 32) 5 }],
                                          excq := [zeros 64] }
/-- DIVU r3, r1, 0. -/
def divByZero : Nat := 0x24C4200000000000
/-- ST META[16], r1 and LD r4, META[16], 4 bytes. -/
def stMeta : Nat := 0x6800500000000010
def ldMeta : Nat := 0x6100100000000010
/-- As many programs wait as there are action units. -/
def crowded (n : Nat) : State := (fresh true 5).modCls fun c => { c with progq := List.replicate n { frame := clsIn true, record := zeros 32, data := zeros 32 } }
def busyPool (n : Nat) : State :=
  { fresh false 5 with disp := { (fresh false 5).disp with jobs := (List.range n).map fun i => (8192 + i, { work := .mgmt, state := .running, prio := 0, pool := 1 }) } }

theorem witness_FramesAreClassifiedAndRun :
    ((fresh true 5).works engParser = true ∧ up.works engParser = false ∧ (fresh true 255).rf engParser PS.DEF_PROG_DN = 0xFF ∧
      (fresh true 5).chainRoom = true ∧ (crowded 32).chainRoom = false ∧
      pickOut (fun x => x.down) (fresh true 5).cls.inq = some (clsIn true, []) ∧ (fresh false 5).cls.nextFifo = some (2, 0) ∧
      (fresh false 5).pickCtx [1] = some (8192, 1) ∧ pickOut (fun y => y.inFifo 2 0) (fresh false 5).cls.inq = some (clsIn false, [])) ∧
    ((waitingProg []).works (engAction (0 : Fin 32)) = true ∧ Aw.op divByZero = 9 ∧ Aw.i divByZero = true ∧ Aw.imm divByZero = 0 ∧
      (waitingProg []).cls.progs.look 5 = none ∧ (waitingProg [(5, { trap := true, words := [divByZero] })]).cls.excq ≠ []) ∧
    Aw.sp stMeta = 0 ∧ Aw.sp ldMeta = 0 ∧ Aw.sz stMeta = Aw.sz ldMeta ∧ Aw.op stMeta = 0x1A := by decide

theorem fresh_tables (down : Bool) (prog t : Nat) : (fresh down prog).cls.table t = {} := rfl

theorem busyPool_used (n : Nat) : (busyPool n).poolUsed 1 = n := by
  have : ∀ x ∈ (busyPool n).disp.jobs, (fun j : Nat × Job => j.2.pool == 1) x = true := by
    intro x hx
    obtain ⟨i, _, rfl⟩ := List.mem_map.1 hx
    rfl
  unfold State.poolUsed
  rw [List.filter_eq_self.2 this]
  show ((List.range n).map _).length = n
  rw [List.length_map, List.length_range]

theorem no_ctx (s : State) (h : s.poolUsed 1 = 57088) : s.hasCtx .datapath = false := by
  simp [State.hasCtx, JobClass.pools, h, poolRange]

theorem witness_FramesAreClassifiedAndRun_dry : (busyPool 57088).hasCtx .datapath = false ∧ (busyPool 57088).cls.nextFifo ≠ none :=
  ⟨no_ctx _ (busyPool_used 57088), by decide⟩

/-- TABLE_CONFIG meets no free general context. -/
def dryTables (n : Nat) : State := { tabled [] [] with disp := (busyPool n).disp }

theorem dryTables_links (n : Nat) : (dryTables n).linksUsed ≤ 1048576 := by
  have h : (dryTables n).links = [] := by
    refine List.flatMap_eq_nil_iff.2 fun x hx => ?_
    obtain ⟨i, _, rfl⟩ := List.mem_map.1 hx
    rfl
  rw [State.linksUsed, h]
  exact Nat.zero_le _

theorem dryTables_used (n : Nat) : (dryTables n).poolUsed 1 = n := busyPool_used n

theorem witness_ClassifierTablesAreEdited_dry : (dryTables 57088).hasCtx .datapath = false ∧ (dryTables 57088).linksUsed ≤ 1048576 :=
  ⟨no_ctx _ (dryTables_used 57088), dryTables_links _⟩

def reqProg (n : Nat) : Req := req 0 ([5, byte n, 0, 0] ++ (List.replicate n (le 8 0xFC00000000000000)).flatten)
def reqMeter : Req := req 0 ([20, 0, 0, 0, 0, 16, 0, 0, 0, 4, 0, 0, 0, 0, 0, 0])
def reqCount (clr : Byte) : Req := req 0 [20, 0, 0, 0, 2, 0, clr, 0]
def reqExc : Req := req 0 [4, 0, 0, 0]

theorem witness_FramesAreClassifiedAndRun_commands :
    meets up progLoadCmd (reqProg 0) ∧ meets up progLoadCmd (reqProg 2) ∧ meets up meterSetCmd reqMeter ∧ meets up counterReadCmd (reqCount 1) ∧
      meets up counterReadCmd (reqCount 0) ∧ meets (waitingProg []) excReadCmd reqExc := by decide

def jobOf (w : Work) (st' : JobState) : Job := { work := w, state := st', prio := 8, pool := 1 }
def withJobs (m : SMap Job) : State := { up with disp := { up.disp with jobs := m, tick := 100 } }
/-- A playout job that is READY, and one of a table update. -/
def readyJobs : State := withJobs [(5, jobOf (.playout 3) .ready), (9000, jobOf .table .ready), (9001, jobOf .mgmt .ready)]
def dueJob (d : Nat) : State := withJobs [(5, { jobOf (.playout 3) .delayed with due := some d, list := 3 })]
def timedJob : State := withJobs [(9000, { jobOf (.heartbeat false) .waiting with timed := true, timeoutAt := 99, dep := 1 }), (9001, { jobOf .mgmt .running with waiters := [(0, 9000)] })]
def sealReady (dir : Nat) : State :=
  ({ up with disp := { up.disp with jobs := [(9, { work := .crypto (busy.job9 dir), state := .ready, prio := 0, pool := 1 })] } }.wf
    (engCipher 0) HDR.STATE 2).wf (engCipher 0) CX.OWNER dir
def queue1 : Queue := { circuit := false, parent := 3, prio := 0, weight := 256, qlimit := 65536 }
def held1 : QFrame := { pages := [], bytes := 60, len := 96, sealed := true, job := 9, circuit := false }
/-- Queue 200 under S2 node 3, S3 node 1, S4 node 0 and S5 node 16. -/
def tree (q : SMap Queue) : State :=
  up.modSched fun c => { c with
    queues := q
    nodes := [(nodeKey 2 3, { parent := 1, prio := 0, vt := 0, weight := 1 }), (nodeKey 3 1, { parent := 0, prio := 0, vt := 0, weight := 1 }),
      (nodeKey 4 0, { parent := 16, prio := 0, vt := 0, weight := 1 }), (nodeKey 5 16, { parent := 0, prio := 0, vt := 0, weight := 0 })] }
def reqQueue (act flags par w : Byte) : Req := req 0 [200, 0, act, flags, par, 0, 0, 0, 0, w, 0, 0, 0, 0, 1, 0]
def reqNode (lv act node par vt : Byte) : Req := req 0 [lv, act, node, 0, par, 0, 0, vt, 1, 0, 0, 0]
/-- The SHAPER_SET of the chapter's example. -/
def reqShape (node : Byte) : Req := req 0 [3, 0, node, 0, 0, 0x12, 0x7A, 0, 0, 0, 1, 0]
def reqStat (f : Byte) : Req := req 0 [200, 0, f, 0]
def reqNq : Req := req 0 [3, 0, 1, 0]

theorem witness_JobsAndQueuesFollowTheScheduler :
    (up.asleep 13 = false ∧ (up.wf engWake WK.AWAKE 0x5FFF).asleep 13 = true) ∧
    ((dueJob 99).firstDue (fun j => j.state = .delayed) (fun j => j.due.getD 0) = some (5, { jobOf (.playout 3) .delayed with due := some 99, list := 3 }) ∧
      (dueJob 90).firstDue (fun j => j.state = .delayed) (fun j => j.due.getD 0) = some (5, { jobOf (.playout 3) .delayed with due := some 90, list := 3 }) ∧
      (dueJob 101).firstDue (fun j => j.state = .delayed) (fun j => j.due.getD 0) = none) ∧
    ((timedJob.firstDue (fun j => j.state = .waiting && j.timed && j.timeoutAt != timedJob.disp.tick) (·.timeoutAt)).map (·.1) = some 9000 ∧
      (timedJob.disp.jobs.look 9000).isSome = true) ∧
    (readyJobs.oldestReady (fun _ j => j.work.takenBy .playout) = some (5, jobOf (.playout 3) .ready) ∧
      readyJobs.oldestReady (fun _ j => j.work.takenBy .tables) = some (9000, jobOf .table .ready) ∧
      readyJobs.oldestReady (fun _ j => j.work.takenBy .classP) = some (9001, jobOf .mgmt .ready)) := by decide

theorem witness_JobsAndQueuesFollowTheScheduler_crypto :
    ((sealReady 1).cxTakes = true ∧ (sealReady 1).cry.again = [] ∧ (sealReady 2).cry.again = [] ∧ ((sealReady 1).oldestReady (fun _ j => j.work.isCrypto true)).map (·.1) = some 9 ∧ (sealReady 1).enginesOf 1 = [0] ∧
      ((sealReady 2).oldestReady (fun _ j => j.work.isCrypto false)).map (·.1) = some 9 ∧ (sealReady 2).enginesOf 2 = [0]) ∧
    ((tree [(200, queue1)]).sched.queues.look 200 = some queue1 ∧ (bestChild [(1, 8, 5), (2, 8, 3), (3, 2, 0)] = some 2)) := by decide

theorem witness_JobsAndQueuesFollowTheScheduler_queues :
    (meets (tree []) queueSetCmd (reqQueue 0 0 3 1) ∧ meets (tree []) queueSetCmd (reqQueue 1 0 3 1) ∧ meets (tree []) queueSetCmd (reqQueue 1 0 4 1)) ∧
    (meets (tree [(200, queue1)]) queueSetCmd (reqQueue 0 0 3 1) ∧ (tree [(200, queue1)]).queueNamed 200 = false ∧
      meets (tree [(200, { queue1 with frames := [held1] })]) queueSetCmd (reqQueue 1 1 3 1)) ∧
    (meets (tree [(200, queue1)]) queueStatsCmd (reqStat 1) ∧ meets (tree []) nodeQueryCmd reqNq) := by decide

theorem witness_JobsAndQueuesFollowTheScheduler_nodes :
    (meets (tree []) nodeSetCmd (reqNode 2 0 3 0 0) ∧ (tree []).sched.hasKids 2 3 = false ∧ meets (tree []) nodeSetCmd (reqNode 3 0 1 0 0) ∧
      (tree []).sched.hasKids 3 1 = true ∧ meets (tree []) nodeSetCmd (reqNode 2 1 9 1 0) ∧ (tree []).sched.nodes.has (nodeKey 3 1) = true) ∧
    (meets (tree []) nodeSetCmd (reqNode 4 1 0 16 3) ∧ meets (tree []) nodeSetCmd (reqNode 2 0 8 0 0)) := by decide

theorem witness_JobsAndQueuesFollowTheScheduler_buckets :
    (meets (tree []) shaperSetCmd (reqShape 1) ∧ meets (tree []) shaperSetCmd (reqShape 2) ∧ meets (tree []) policerSetCmd (reqShape 1) ∧
      (tree []).sched.buckets 3 1 = some ({}, {}) ∧ (tree []).sched.buckets 3 2 = none) := by decide

/-! ### Lanes and MACs -/

/-- Lane 2 in Ethernet mode with RATE 0x03, ON and in a step of its bring-up. -/
def laneAt (step : BringUp) : State :=
  ((((withOn up [engLane 2, engMac 2]).wf (engLane 2) LN.RATE 3).wf (engLane 2) LN.LOS 0).wf (engLane 2) LN.RATE_NOW 2).modLane 2 fun x =>
    { x with step := step, checked := true, sampled := true, t256 := 10266 }
def linked : State := (laneAt .done).wf (engLane 2) LN.LINK 1
def quadLane : State := ((laneAt .pages).wf (engLane 2) LN.MODE 2).wf (engLane 2) LN.MEMBER 2
def quadRetry : State := ((withOn up [engLane 8]).wf (engLane 8) LN.MODE 2).modLane 8 fun x => { x with step := .retry }
/-- Quad 0 aligned, and one of which three members have agreed. -/
def quadAligned : State := ((quadLane.wf (engLane 0) LN.ALIGNED 1).modLane 0 fun x => { x with step := .done }).wf (engLane 2) LN.SYNC 1
def allReady : State := [0, 1, 3].foldl (fun s m => s.modLane m fun x => { x with ready := true }) quadLane
/-- A lane in a loop, with a frame that the loop holds. -/
def looping (k : Nat) : State := (linked.wf (engLane 2) LN.LOOP k).modMac 2 fun m => { m with looped := [zeros 60] }
def page4 (n : Nat) : Option (BitVec 11) := some (BitVec.ofNat 11 n)
/-- Spare 64 under check to take over lane 2. -/
def checking : State := (linked.wf (engLane 64) HDR.STATE 6).modLane 2 fun x => { x with subst := some { cause := 0, trend := 39, step := .check 64 } }

theorem witness_LanesComeUpAndStepRates :
    ((laneAt .pages).laneWorks 2 = true ∧ (laneAt .pages).fromLine 2 = true ∧ (laneAt .pages).on (engLane 2) LN.LOS = false ∧
      ((laneAt .pages).wf (engLane 2) LN.LOS 1).on (engLane 2) LN.LOS = true ∧ (laneAt .pages).laneMode 2 = 1) ∧
    ((laneAt .pages).on (engLane 2) LN.AN = true ∧ (laneAt .pages).on (engLane 2) LN.ALIGNED = false ∧
      min (min ((laneAt .pages).rf (engLane 2) LN.RATE - 1) ((laneAt .pages).rf (engLane 2) LN.CAP)) (pageRates (page4 1)) = 1 ∧ pageRates (page4 3) = 0 ∧
      quadLane.laneMode 2 = 2 ∧ (1#11).getLsbD 2 = false ∧ quadLane.laneWorks 2 = true) ∧
    (linked.on (engLane 2) LN.LINK = true ∧ linked.on (engLane 2) LN.AN = true ∧ (linked.wf (engLane 2) LN.AN 0).on (engLane 2) LN.AN = false ∧
      (linked.wf (engLane 2) LN.AN 0).on (engLane 2) LN.LINK = true ∧ linked.rf (engLane 2) LN.RETIRE_FOM = 40 ∧ nextTrend 10266 28 = 10218 ∧ (linked.lane 2).noTrend = false ∧
      linked.laneTesting 2 = false ∧ linked.on (engLane 2) LN.LOS = false ∧ linked.rf (engLane 2) LN.LOOP = 0) := by
  decide

theorem witness_LanesComeUpAndStepRates_spares :
    ((((laneAt (.stepping 2)).lane 2).step = .stepping 2 ∧ (laneAt (.stepping 2)).rf (engLane 2) LN.STEP_FOM = 64 ∧
      (laneAt (.stepping 2)).rf (engLane 2) LN.RATE_NOW < 3 ∧ ((laneAt (.switchDue 2)).lane 2).step = .switchDue 2)) ∧
    (checking.substOf 64 = some (2, { cause := 0, trend := 39, step := .check 64 }) ∧ laneDomain 64 = laneDomain 2 ∧
      ((linked.wf (engLane 64) HDR.STATE 6).laneSpares 2).find? (fun v => !linked.unitsInTest.contains v && linked.spareSuits 2 v) = some 64) ∧
    (linked.unitsInTest = [] ∧ quadAligned.laneMode 2 = 2 ∧ quadAligned.on (engLane (quadAligned.head 2)) LN.ALIGNED = true ∧
      (quadAligned.lane (quadAligned.head 2)).step = .done ∧ quadAligned.laneWorks 2 = true ∧ quadAligned.fromLine 2 = true) ∧
    (∀ m ∈ allReady.members 2, m ≠ 2 → (allReady.lane m).ready = true) ∧ (allReady.laneMode 2 = 2 ∧ (6#11).getLsbD 2 = true ∧
      allReady.rf (engLane 2) LN.RATE - 1 ≤ pageRates (page4 6)) ∧
    (((looping 1).looped 2 = true ∧ (looping 1).rf (engLane 2) LN.LOOP ≠ 0 ∧ ((looping 1).mac 2).looped ≠ [] ∧ (looping 3).laneWorks 2 = true) ∧
      (looping 1).fromLine 2 = false ∧ (looping 3).rf (engLane 2) LN.LOOP = 3) ∧
    (True ∧ quadRetry.laneMode 8 = 2 ∧ quadRetry.bringsUp 8 = true ∧ (quadRetry.lane 8).step = .retry) := by decide

def reqMode (mode rate an : Byte) : Req := req 0 [5, mode, rate, an, 0, 0, 0, 0]
def reqLoop (n : Byte) : Req := req 0 [2, n, 0, 0]
/-- PRBS31 in the near-end serial loop: a self-check. -/
def reqSelfLane : Req := req 0 [2, 3, 1, 0, 10, 0, 0, 0]
def reqTest : Req := req 0 [2, 1, 0, 0, 10, 0, 0, 0]

theorem witness_LanesComeUpAndStepRates_commands :
    (meets up laneModeCmd (reqMode 3 0x12 0) ∧ up.modeChecks 5 3 = none ∧ meets up laneModeCmd (reqMode 1 1 1) ∧ up.substRuns 5 = false) ∧
    (meets linked laneLoopCmd (reqLoop 2) ∧ linked.laneBusy 2 = false ∧ linked.isOn (engLane 2) = true ∧ meets linked laneLoopCmd (reqLoop 0)) := by decide

theorem witness_LanesComeUpAndStepRates_tests :
    meets linked (laneTestCmd { bits := 100, errors := 3, lock := true, eye := { h := 90000, w := 200000 } }) reqTest ∧
    meets linked (laneTestCmd { bits := 100, errors := 3, lock := true, eye := { h := 90000, w := 200000 } }) reqSelfLane ∧
    (meets (looping 1) laneLoopCmd (reqLoop 0) ∧ (looping 1).laneBusy 2 = false ∧ (looping 1).isOn (engLane 2) = true) := by decide

/-- A frame with its FCS: type 0x0800, or PFC for priority 3. -/
def withFcs (b : List Byte) : List Byte := b ++ le 4 (crc32 b).toNat
def ipFrame : List Byte := List.replicate 12 7 ++ [8, 0] ++ zeros 46
def pfc9 : List Byte := be 6 0x0180C2000001 ++ be 6 5 ++ [0x88, 8, 1, 1, 0, 8] ++ zeros 6 ++ [0, 9] ++ zeros 34
/-- Lane 2 with one frame to send at priority 3 and the PFC of priority 3 in force. -/
def macUp (paused : Nat) : State :=
  ((linked.wf (engMac 2) MAC.PFC_EN 8).wf (engMac 2) MAC.RX_PAUSED paused).modMac 2 fun m => { m with txq := [(3, [{ pages := [0], len := 60 }])] }
def xoffSent : State := ((macUp 0).wf (engMac 2) MAC.TX_XOFF 8).wf (engMac 2) MAC.XON 0

theorem witness_MacsReceiveAndTransmit :
    ((macUp 0).works (engMac 2) = true ∧ (macUp 0).on (engLane 2) LN.LINK = true ∧ (macUp 0).opt.inBand = false ∧ (macUp 0).ptpPort 2 = false ∧
      (macUp 0).laneMode 2 = 1 ∧ (macUp 0).rf (engMac 2) MAC.MIN_FRAME = 64 ∧ (macUp 0).rf (engMac 2) MAC.MAX_FRAME = 1522) ∧
    (fbe ipFrame 12 2 = 0x800 ∧ ipFrame.length = 60 ∧ fbe pfc9 12 2 = 0x8808 ∧ fbe pfc9 14 2 = 0x0101 ∧ fbe pfc9 16 2 = 2 ^ 3 ∧
      fbe pfc9 (18 + 2 * 3) 2 = 9 ∧ pfc9.length = 60 ∧ framePcp ipFrame = 0 ∧ (macUp 0).fifoFill 2 0 = 0) ∧
    ((macUp 0).squelched 2 = false ∧ bitOf ((macUp 8).rf (engMac 2) MAC.RX_PAUSED) 3 = true ∧ (macUp 0).rf (engLane 2) LN.LOOP = 0) ∧
    (xoffSent.canSend 2 = true ∧ xoffSent.carries 2 = true ∧ bitOf (xoffSent.rf (engMac 2) MAC.TX_XOFF) 3 = true ∧
      xoffSent.rf (engMac 2) MAC.XON * 256 ≤ xoffSent.fifoFill 2 3) := by decide

theorem witness_MacsReceiveAndTransmit_other :
    (up.wf engWake WK.AWAKE 0x7EFF).asleep (laneDomain 2) = true ∧ up.asleep (laneDomain 2) = false ∧
      meets linked macSnapshotCmd (req 0 [2, 0, 0, 0]) := by decide

/-! ### Part time -/

/-- The clock, the stamp queue and PPS ON, and the clock in a state. -/
def clocked (state source : Nat) (armed : Bool := false) : State :=
  let s := withOn up [engClk, engStq, engPps]
  { s with clk := { s.clk with carried := none, state := state, source := source, armed := armed, firstSample := false, freq := 5, rate := 7, count := 9 } }
/-- A sample of 100 ns or of 2,000 ns ahead or behind. -/
def nearSample : Sample := { o := 100 * 65536, at_ := 3 }
def farSample : Sample := { o := -2000 * 65536, at_ := 3 }
def slewing : State := { clocked 1 2 with clk := { (clocked 1 2).clk with slewLeft := 10 ^ 6 } }

theorem witness_ClockFollowsItsSource_samples :
    ((clocked 1 2).rf engClk CLK.SETTLE = 16 ∧ (clocked 1 2).fwStops = false ∧ (clocked 1 2).clk.barredNs < nearSample.at_ ∧
      nearSample.o.natAbs ≤ (clocked 1 2).rf engClk CLK.STEP_THRESH * 65536 ∧ (clocked 1 2).rf engClk CLK.STEP_THRESH * 65536 < farSample.o.natAbs) ∧
    (Accepts (clocked 3 2 true) farSample ∧ Accepts (clocked 2 2) nearSample) ∧ (0 < slewing.clk.slewLeft ∧ 0 < slewing.periodRated) := by
  unfold Accepts; decide

/-- A virtual terminal in O5 on channel 0, with a superframe at SFC_REF. -/
def ponTimed (sfc : Nat) : State :=
  (((clocked 1 1).wf (engFramer 0) FR.SYNC 2).modVt 0 fun v => { v with state := 5, channel := 0 }).modCh 0 fun c => { c with sfc := sfc, stamp := 50 }
def ppsIn (out : Nat) : State := ((clocked 1 3).wf engPps PPS.IN_EN 1).wf engPps PPS.OUT_EN out
def seconds : State :=
  { ((ppsIn 1).wf engClk CLK.SEC_CUE 1) with clk := { (ppsIn 1).clk with offset := 3 * 10 ^ 9 * 2 ^ 32, secLast := 1, ppsHigh := true } }

theorem witness_ClockFollowsItsSource_events :
    ((ponTimed 8000).clk.source = 1 ∧ (ponTimed 8000).clk.refStale = false ∧ (ponTimed 8000).rf (engFramer 0) FR.SYNC = 2 ∧
      ((ponTimed 8000).talker 0).isSome = true ∧ (ponTimed 8000).fenced 0 = false ∧ ((ponTimed 8000).chn 0).sfc - ((ponTimed 8000).clk.ref.sfc : Int) = 8000) ∧
    ((ppsIn 0).works engPps = true ∧ (ppsIn 0).on engPps PPS.IN_EN = true ∧ true ≠ (ppsIn 0).on engPps PPS.IN_POL ∧ (ppsIn 0).clk.ppsLast = none) ∧
    (seconds.clk.secLast < seconds.nowSec ∧ seconds.works engClk = true ∧ seconds.on engClk CLK.SEC_CUE = true ∧ (clocked 1 2).nowSec ≤ (clocked 1 2).clk.secLast) ∧
    ((ponTimed 8000).clk.state = 1 ∧ ((ponTimed 8000).modCh 0 fun c => { c with misses := 3 }).clk.state = 1) := by
  decide

def reqSource (src : Byte) : Req := req 0 ([src, 0, 0, 0] ++ zeros 8 ++ [9, 0, 0, 0, 0, 0] ++ zeros 6)
def reqSample : Req := req 0 ([0, 0, 100, 0] ++ zeros 4 ++ zeros 8)
def reqStamp : Req := req 0 [2, 0, 0, 0]
def ptpFrame : List Byte := zeros 12 ++ [0x88, 0xF7] ++ zeros 46
def reqPtp : Req := req 0 ([2, 1, 7, 0, 60, 0, 14, 0, 0, 0, 0, 0] ++ ptpFrame)
def ptpUp : State := (withOn linked [engClk, engStq]).wf engStq STQ.PTP_PORT_EN_LO 4

theorem witness_ClockFollowsItsSource_commands :
    (meets (clocked 1 2) timeNowCmd (req 0 []) ∧ meets (clocked 1 2) timeSourceCmd (reqSource 0) ∧ meets (ppsIn 0) timeSourceCmd (reqSource 3) ∧
      ((clocked 1 2).on engPps PPS.IN_EN = false ∧ fld (reqSource 3).payload 0 1 = 3) ∧
      meets (clocked 1 2) timeSampleCmd reqSample ∧ meets (clocked 3 2) timeAcquireCmd (req 0 []) ∧ meets (clocked 1 2) stampReadCmd reqStamp) := by decide

theorem witness_ClockFollowsItsSource_ptp :
    (meets ptpUp ptpSendCmd reqPtp ∧ ptpUp.on (engLane 2) LN.LINK = true ∧ ptpUp.txShut 2 = false ∧ (ptpUp.mac 2).ptp.length < 8 ∧ (ptpUp.wf (engLane 2) LN.LOOP 3).txShut 2 = true) := by decide

/-! ### Resets, boot, power states -/

def inPhase (p : Phase) (scope : Nat) : State := { up with boot := { up.boot with phase := p, scope := scope } }
def heldIn (scope : Nat) : State := inPhase .held scope
def dueTo (d : Due) : State := { up with boot := { up.boot with due := some d } }
def bursting : State := (dueTo (.warm 4)).wf (engPmd 0) PMD.TX_BURST 1
def standing : State := inPhase .standby 0

/-- An option copy on lane 7 with management VID 0x123, with its CRC. -/
def optFields : List Byte := le 4 0x0F1E4864 ++ zeros 4 ++ le 2 1024 ++ [1, 0] ++ zeros 18 ++ [0x23, 1] ++ zeros 6 ++ [7] ++ zeros 985
def optCopy : List Byte := optSeal optFields 5
/-- A reel whose header is right but for its signature, which no test can compute. -/
def reelOne : Reel := { valid := true, seq := 3 }
def norOf (a b : List Byte) (r : Reel) : Nor := { mib := 32, sfdp := true, optA := a, optB := b, reelA := r }
/-- A cold boot that finds a NOR. -/
def bootWith (n : Nor) : State := { inPhase .booting 1 with boot := { (inPhase .booting 1).boot with nor := n } }
def warmBooting : State := { ((inPhase .booting 3).wf engTake TK.REEL_LOADED 1) with boot := { up.boot with phase := .booting, scope := 3 } }

theorem witness_ResetsBootAndPowerStates :
    ((heldIn 1).boot.phase = .held ∧ (heldIn 0).boot.scope < 1 ∧ (inPhase .booting 1).boot.phase.inReset = true ∧ up.boot.phase = .up ∧ up.boot.due = none) ∧
    (bursting.betweenBursts = false ∧ (dueTo (.warm 4)).betweenBursts = true ∧ (dueTo (.standby true)).boot.due = some (.standby true) ∧
      up.relinquishing = false ∧ up.role ≠ 1 ∧ up.boot.waitsFor = none) ∧
    (standing.boot.phase = .standby ∧ bitOf (standing.rf engWake WK.WAKE_SRC) 1 = true ∧ bitOf (standing.rf engWake WK.WAKE_SRC) 2 = false) ∧
    ((heldIn 1).boot.hold = false ∧ (heldIn 1).boot.trip = false ∧ (warmBooting.rf engTake TK.REEL_LOADED ≠ 0)) := by decide

set_option maxRecDepth 100000 in
theorem witness_ResetsBootAndPowerStates_boot :
    (bootWith (norOf [] [] reelOne)).boot.newBoot = true ∧ (norOf [] [] reelOne).candidate 1 = true ∧ (norOf [] [] reelOne).candidate 2 = false ∧
      (norOf [] [] {}).candidate 1 = false ∧ (norOf [] [] {}).firstCopy = 1 ∧ optValid [] = false ∧
      ({ stop := .option } : BootIn).stop = .option ∧ ({} : BootIn).failed = 0 := by decide

set_option maxRecDepth 100000 in
theorem witness_ResetsBootAndPowerStates_order :
    (optMagic (optSeal optFields 5) = true ∧ optMagic (optSeal optFields 6) = true ∧
      (fld (optSeal optFields 6) 4 4 + 2 ^ 32 - fld (optSeal optFields 5) 4 4) % 2 ^ 32 = 1) ∧ optMagic [] = false := by decide

def lightSleep : State := (up.wf engWake WK.SLEEP_SET 0x4000).wf engStq HDR.STATE 2
def timeAsleep : State := ((up.wf engWake WK.AWAKE 0x3FFF).wf engStq HDR.ENABLE 1).wf engStq HDR.STATE 0
def reqPower (st : Byte) (set : Nat) : Req := req 0 ([st, 0] ++ le 2 set)
def reqReset (n : Byte) : Req := req 0 [n, 0, 0, 0]
def reqSoft : Req := req (BitVec.ofNat 32 (locOf engStq)) [0, 0, 0, 0]

theorem witness_ResetsBootAndPowerStates_domains :
    (bitOf (lightSleep.rf engWake WK.SLEEP_SET) 14 = true ∧ lightSleep.asleep 14 = false ∧ bitOf (lightSleep.rf engWake WK.AWAKE) 14 = true ∧
      lightSleep.busyDomain 14 = false ∧ engStq ∈ domainEngines 14 ∧ lightSleep.engState engStq = 2) ∧
    (timeAsleep.asleep 14 = true ∧ present engStq = true ∧ timeAsleep.on engStq HDR.ENABLE = true ∧ engStq = eng 14 1 ∧ isSpareWin engStq = false ∧
      isCipher engStq = false ∧ isLane engStq = false ∧ timeAsleep.engState engStq = 0) := by decide

theorem witness_ResetsBootAndPowerStates_commands :
    (meets up (powerStateCmd true) (reqPower 0 0) ∧ meets up (powerStateCmd true) (reqPower 0 0x4000) ∧ up.askedSet (reqPower 0 0x4000).payload = 0x4000 ∧
      offMeets up (powerStateCmd true) (reqPower 2 0) ∧ up.rf engWake WK.WAKE_SRC = 3 ∧ up.rf engWake WK.PSTATE = 0) ∧
    (meets lightSleep resetCmd reqSoft ∧ reqSoft.eng = engStq ∧ offMeets up resetCmd (reqReset 1) ∧ meets up bootStatusCmd (req 0 [])) := by decide

set_option maxRecDepth 100000 in
theorem witness_ResetsBootAndPowerStates_option :
    offMeets up (optionWriteCmd true) (req 0 optFields) ∧ offMeets up (optionWriteCmd false) (req 0 optFields) ∧ up.boot.update = none := by decide

/-- A header for a 4,096-byte image of zeros, with the image's digest; only the signature check is left open. -/
def signedHeader : List Byte :=
  le 4 0x0F1E0A5E ++ [1, 0, 1, 0] ++ zeros 4 ++ le 4 4096 ++ be 48 (Config.sha384 (zeros 4096)).toNat ++ zeros 192
def goodReel : Reel := { valid := true, seq := 3, header := signedHeader, image := zeros 4096 }

theorem signedHeader_digest : part signedHeader 16 48 = be 48 (Config.sha384 (zeros 4096)).toNat := by
  generalize hd : (Config.sha384 (zeros 4096)).toNat = d
  simp only [signedHeader, hd]; rfl
set_option maxRecDepth 100000 in
theorem witness_ResetsBootAndPowerStates_reel (h : headerSigned signedHeader = true) : goodReel.fault 0 = 0 ∧ goodReel.rejected = false := by
  have h1 : digestOk signedHeader (zeros 4096) = true := by
    unfold digestOk; rw [signedHeader_digest]
    simp only [beq_self_eq_true, Bool.and_true, decide_eq_true_eq]
    have : fld signedHeader 12 4 = 4096 := rfl
    rw [this]; simp [zeros]
  have h2 : headerBad signedHeader = none := rfl
  have h3 : signedHeader.length = 256 := rfl
  have h4 : fld signedHeader 6 1 = 1 := rfl
  refine ⟨?_, by rfl⟩
  simp [Reel.fault, goodReel, h, h1, h2, h3, h4]

/-! ### Management -/

/-- The management engines and an optics monitor ON; counts of consecutive samples as given. -/
def mgt (counts : SMap Nat) : State :=
  let s := (withOn up [engProc, engSens, engI2c 0, engI2c 1, engOpt 2, engSpi]).wf engTake TK.FUSED 0
  { s with boot := { s.boot with counts := counts } }
def recNow : LogRec :=
  { hours := 0, minsec := 0, cycles := 0, reps := 0, seq := 0, event := 7, severity := 3, domain := 12, locator := 0, sec := 0, data := zeros 28, lastAt := 0 }
def logged (n : Nat) : State :=
  { mgt [] with log := { records := (List.range n).map fun i => { recNow with seq := i }, nextSeq := n, mirrorNext := 0 } }

theorem witness_ManagementKeepsThePart_log :
    ((logged 1).log.records = [] ++ [recNow] ∧ (logged 1).elapsed ≤ recNow.lastAt + 10000000000 * 2 ^ 32 ∧ (mgt []).log.records.getLast? = none) ∧
    ((logged 2).log.records.find? (fun r => r.seq = 1) = some { recNow with seq := 1 } ∧ ((logged 2).wf engLog LOG.AUTO 1).on engLog LOG.AUTO = true) ∧
    (offMeets (logged 2) logClearCmd (req 0 []) ∧ (logged 2).boot.update = none) := by decide

set_option maxRecDepth 100000 in
theorem witness_ManagementKeepsThePart_mirror : (logged 65).closedRecs.length = 64 ∧ (logged 65).fwStops = false := by decide

def temp (n : Nat) : BitVec 16 := BitVec.ofNat 16 n
/-- 55 degrees everywhere, but for one site. -/
def sites (n : Nat) : List (BitVec 16) := temp n :: List.replicate 7 (temp 880)
def rails : List (BitVec 16) := [750, 750, 750, 850, 850, 850, 1200, 1200, 1200, 1100, 400, 1800, 800, 1800]
def lowRails : List (BitVec 16) := rails.take 13 ++ [1700]
/-- A trip that holds the part. -/
def tripped : State := { heldIn 1 with boot := { (heldIn 1).boot with trip := true } }

theorem witness_ManagementKeepsThePart_sensors :
    ((mgt []).works engSens = true ∧ signed 16 (temp 880).toNat = 880 ∧ signed 16 ((mgt []).rf engSens SEN.LO_WARN) = -640 ∧
      signed 16 ((mgt []).rf engSens SEN.HI_WARN) = 1600 ∧ (sites 880).length = 8) ∧
    ((mgt [(32, 1)]).boot.trip = false ∧ 1840 < signed 16 ((sites 1900).getD 0 0).toNat ∧ 1 ≤ (mgt [(32, 1)]).boot.counts.get (32 + 0) 0 ∧ tripped.boot.trip = true) ∧
    ((mgt [(48, 1)]).boot.counts.get (48 + 0) 0 = 1 ∧ signed 16 1700 = 1700 ∧ (mgt [(114, 2)]).boot.counts.get (112 + 2) 0 = 2 ∧ 750 * 40 < railOff 750 700 * 1000) ∧
    (lowRails.length = 14 ∧ railOff 800 (lowRails.getD 12 0).toNat ≤ 40 ∧ (lowRails.getD 13 0).toNat < 1710) ∧ (rails.length = 14 ∧ ∀ x ∈ railGroups.zip rails, railOff x.1.2.1 x.2.toNat * 1000 ≤ x.1.2.1 * x.1.2.2) := by decide

def i2cIn (st n : Nat) : State := (((mgt []).wf (engI2c 1) I2C.STATE st).wf (engI2c 1) I2C.RETRIES n).wf (engOpt 2) OPT.BUS 1
def reqI2c : Req := req 0 [1, 0x50, 1, 2, 9]

theorem witness_ManagementKeepsThePart_buses :
    ((i2cIn 1 0).rf (engI2c 1) I2C.STATE = 1 ∧ (lone (i2cIn 1 0) 0x0A05 reqI2c (.i2c 1)).chan.waits.filter (fun w => w.why = .i2c 1) =
      [{ why := .i2c 1, cmd := tak 0x0A05 reqI2c .officer }] ∧ (i2cIn 1 0).boot.i2cFor.look 1 = none) ∧
    ((i2cIn 2 1).rf (engI2c 1) I2C.STATE = 2 ∧ (i2cIn 2 3).rf (engI2c 1) I2C.RETRIES = 3 ∧ (i2cIn 2 1).chan.waits = []) ∧
    ((i2cIn 0 0).rf (engOpt 2) OPT.BUS = 1 ∧ (i2cIn 0 0).works (engOpt 2) = true ∧ (i2cIn 0 0).works (engI2c 1) = true) ∧
    (meets (i2cIn 0 0) (i2cXferCmd {}) reqI2c ∧ (i2cIn 0 0).isOn (engI2c 1) = true ∧ meets (i2cIn 3 3) (i2cXferCmd {}) reqI2c ∧ (mgt []).works engProc = true) := by
  decide

/-- Session 1 of an officer, with an update of reel A or none. -/
def updating (data : List Byte) : State :=
  { mgt [] with boot := { (mgt []).boot with update := some { session := 0, reel := 1, header := signedHeader, data := data } } }
/-- The same with every spare block of the reel in use. -/
def noBlocks : State := { updating [] with boot := { (updating []).boot with update := (updating []).boot.update.map fun u => { u with used := 64 } } }
def flowOne : FlowE := { table := 1, keyLen := 1, hit := 0, key := [1], result := [], data := [] }
def stashRow (n : Nat) : State :=
  { mgt [] with boot := { (mgt []).boot with rowErrs := [(4 * 2 ^ 32 + 9, List.replicate n 0)] }
                cls := { (mgt []).cls with stash := [(5, flowOne)] } }

theorem witness_ManagementKeepsThePart_rows :
    ((stashRow 2).boot.rowErrs.get (4 * 2 ^ 32 + 9) []).length < 3 ∧ 3 ≤ (((stashRow 3).boot.rowErrs.get (4 * 2 ^ 32 + 9) []).filter
      (fun t => (stashRow 3).elapsed ≤ t + 86400000000000 * 2 ^ 32)).length ∧ (stashRow 0).cls.stash.has 5 = true ∧ (stashRow 0).boot.rowsUsed.get 4 0 < 32 ∧
      7 ∉ (stashRow 0).cry.retired := by decide

theorem witness_ManagementKeepsThePart_updates :
    (offMeets (updating []) (updateDataCmd []) (req 0 [0, 0, 0, 0, 7]) ∧ (0 : Nat) + 1 ≤ fld signedHeader 12 4 ∧ offMeets (mgt []) (updateDataCmd []) (req 0 [0, 0, 0, 0, 7])) ∧
    (offMeets (updating []) (updateEndCmd true) (req 0 []) ∧ ([] : List Byte).length < fld signedHeader 12 4) ∧
    (meets (mgt []) reelStatusCmd (req 0 []) ∧ meets (mgt []) spareInventoryCmd (req 0 []) ∧ (mgt []).boot.update = none ∧ ((mgt []).boot.nor.reel 2).bad0 = false) := by
  decide

theorem witness_ManagementKeepsThePart_blocks :
    offMeets (updating []) (updateDataCmd [(1, true)]) (req 0 [0, 0, 0, 0, 7]) ∧ offMeets noBlocks (updateDataCmd [(1, false)]) (req 0 [0, 0, 0, 0, 7]) ∧
      (blocksOf 0 1).find? (fun i => ({ session := 0, reel := 1, header := [] } : Update).block i = (1 : Byte).toNat) = some 1 ∧
      offMeets (updating []) (updateEndCmd false) (req 0 []) := by decide

set_option maxRecDepth 100000 in
/-- The signature of the file is the one thing that no test can compute; with it, the file written is whole. -/
theorem witness_ManagementKeepsThePart_end : (updating (zeros 4096)).boot.update = some { session := 0, reel := 1, header := signedHeader, data := zeros 4096 } ∧
    digestOk signedHeader (zeros 4096) = true ∧ (updating (zeros 4096)).rf engTake TK.FUSED ≤ fld signedHeader 6 1 := by
  refine ⟨rfl, ?_, by decide⟩
  unfold digestOk; rw [signedHeader_digest]
  simp only [beq_self_eq_true, Bool.and_true, decide_eq_true_eq]
  have h : fld signedHeader 12 4 = 4096 := rfl
  rw [h]; simp [zeros]

set_option maxRecDepth 100000 in
/-- A header is checked field by field, whatever its digest. -/
theorem witness_ManagementKeepsThePart_begin : headerCheck signedHeader ((mgt []).rf engTake TK.FUSED) = none ∧ signedHeader.length = 256 := by
  have h : headerBad signedHeader = none := rfl
  have h' : fld signedHeader 6 1 = 1 := rfl
  have h'' : (mgt []).rf engTake TK.FUSED = 0 := by decide
  refine ⟨?_, rfl⟩
  simp [headerCheck, h, h', h'', param]

/-- Cipher unit 8 and lane unit 65 are RETIRED, and what they served is served by others. -/
def retiredUnits : State :=
  { ((up.wf (engCipher 8) HDR.STATE 5).wf (engLane 65) HDR.STATE 5) with cry := { up.cry with out := [(8, 0)] }, client := { up.client with out := [(65, 3)] } }
def reqUnit (e : Nat) : Req := req (BitVec.ofNat 32 (locOf e)) []
abbrev keeperMeets (s : State) (c : Cmd) (r : Req) : Prop := Ready c r (tak c.op r .maintenance) (withReq s c.op r .maintenance)

theorem witness_ManagementKeepsThePart_units :
    (keeperMeets retiredUnits (unitRestoreCmd true) (reqUnit (engCipher 8)) ∧ kind (reqUnit (engCipher 8)).eng = 0x40 ∧
      retiredUnits.cry.out.look (engNo (reqUnit (engCipher 8)).eng) = some 0 ∧ retiredUnits.engState (engCipher 0) ≠ 5 ∧
      (reqUnit (engCipher 8)).eng = engCipher (engNo (reqUnit (engCipher 8)).eng)) ∧
    (keeperMeets retiredUnits (unitRestoreCmd true) (reqUnit (engLane 65)) ∧ kind (reqUnit (engLane 65)).eng = 0x10 ∧ laneOf (reqUnit (engLane 65)).eng = 65 ∧
      retiredUnits.client.out.look 65 = some 3 ∧ retiredUnits.engState (engLane 3) ≠ 5) ∧
    keeperMeets up (unitRestoreCmd false) (reqUnit (engLane 65)) := by decide

/-- Units 0 of both kinds are out; what they served is served by another, or RETIRED. -/
def firstOut (st : Nat) : State :=
  { ((up.wf (engCipher 0) HDR.STATE st).wf (engLane 0) HDR.STATE st) with cry := { up.cry with out := [(0, 0)] }, client := { up.client with out := [(0, 0)] } }

theorem witness_ManagementKeepsThePart_back :
    (keeperMeets (firstOut 2) (unitRestoreCmd true) (reqUnit (engCipher 0)) ∧ (firstOut 2).cry.out.look 0 = some 0 ∧ (firstOut 2).engState (engCipher 0) ≠ 5) ∧
    (keeperMeets (firstOut 5) (unitRestoreCmd true) (reqUnit (engLane 0)) ∧ (firstOut 5).client.out.look 0 = some 0 ∧ (firstOut 5).engState (engLane 0) = 5) ∧
      keeperMeets (firstOut 5) (unitRestoreCmd true) (reqUnit (engCipher 0)) := by decide

/-! ### The command channel -/

/-- An ECHO of four bytes with tag 5. -/
def echoPacket : List Byte := [2, 0, 0, 1, 5, 0, 4, 0] ++ zeros 8 ++ [1, 2, 3, 4]
/-- Ring 2 enabled with one packet posted, the reply ring enabled. -/
def ringUp : State :=
  ((((withOn up [engCmd, engUart]).wf engCmd VS.RPL_ENABLE 1).wf engCmd (VS.CMD_ENABLE.idx 2) 1).wf engCmd (VS.CMD_TAIL.idx 2) 32)
/-- The line of that packet between its two flag bytes. -/
def uartLine : List Byte := uartEscape (echoPacket ++ le 4 (crc32 echoPacket).toNat)
def packet0 : Packet := { order := 0, bytes := echoPacket, tag := 5, holdsTag := true, vector := 2 }
def replying : State := { ringUp with chan := { ringUp.chan with pcieReplies := [packet0], uartReplies := [packet0], tags := [(.ring 2, 5), (.uart, 5)] } }
def full : State := (replying.wf engCmd VS.RPL_SIZE_LOG2 12).wf engCmd VS.RPL_HEAD 16

theorem witness_CommandChannelCarriesCommands_fetch :
    (ringUp.works engCmd = true ∧ ringUp.on engCmd VS.READY = true ∧ ringUp.on engCmd VS.RPL_FULL = false ∧ (ringUp.tagsOut (.ring 0)).length < 4096 ∧
      ringUp.ringReady 2 = true ∧ ∀ q < 4, 2 < q → ringUp.ringReady q = false) ∧
    (ringUp.haltCause 2 echoPacket false = 0 ∧ ringUp.haltCause 2 (zeros 20) false = 1 ∧ ringUp.haltCause 2 echoPacket true = 4) ∧
    ((reqOf (.ring 2) 0 echoPacket).inTxn = false ∧ (reqOf (.ring 2) 0 echoPacket).tag ≠ 0 ∧ 5 ∉ ringUp.tagsOut (.ring 2) ∧ 5 ∈ replying.tagsOut (.ring 2)) := by
  decide

theorem witness_CommandChannelCarriesCommands_tags :
    takeCmd (pktOp echoPacket) = some echoCmd ∧ takeCmd 0x7FFF = none ∧ ∀ st u, echoCmd.refused st u = u := ⟨rfl, rfl, fun _ _ => rfl⟩

set_option maxRecDepth 100000 in
theorem witness_CommandChannelCarriesCommands_carriers :
    (ringUp.asleep 1 = false ∧ ringUp.works engUart = true ∧ 20 ≤ (uartUnescape uartLine).length ∧ (uartUnescape uartLine).take ((uartUnescape uartLine).length - 4) = echoPacket ∧
      le 4 (crc32 echoPacket).toNat = (uartUnescape uartLine).drop ((uartUnescape uartLine).length - 4) ∧ orderOne echoPacket ((uartUnescape uartLine).length - 4) = 0) ∧
    (replying.chan.uartReplies = [packet0] ∧ replying.chan.uartCues = [] ∧ replying.chan.pcieReplies = [packet0] ∧ replying.on engCmd VS.RPL_ENABLE = true) ∧
    (replying.rplFits packet0.bytes.length = true ∧ full.rplFits packet0.bytes.length = false ∧ replying.rf engCmd VS.HOLDOFF = 0 ∧
      replying.rf engCmd VS.WB_LO = 0 ∧ up.on engCmd VS.RPL_ENABLE = false ∧ ringUp.on engCmd (VS.CMD_ENABLE.idx 1) = false) := by decide

/-- A request taken under no session, judged. -/
def stagedReq : Req := { req (BitVec.ofNat 32 (locOf engStq + 0x108)) [4, 0, 0, 0] with txn := 5, flags := 1 }
def txnWith (x : Txn) : State := { withOn up [engStq] with chan := { (withOn up [engStq]).chan with txns := [(5, x)] } }

set_option maxRecDepth 100000 in
theorem witness_CommandChannelCarriesCommands_judge :
    (echoCmd.role = .user ∧ echoCmd.len 4 = true ∧ (req 0 [1, 2, 3, 4]).officer = false ∧ (req 0 [1, 2, 3, 4]).txn = 0 ∧ noCtx echoCmd.op = true ∧
      ({ req 0 [] with txn := 7 } : Req).txn ≠ 0 ∧ cueRouteCmd.len 3 = false ∧ logClearCmd.role ≠ .user) ∧
    ((txnWith { carrier := .ring 0 }).txnOf stagedReq = some { carrier := .ring 0 } ∧ objWriteCmd.stage = true ∧
      objWriteCmd.target stagedReq (txnWith { carrier := .ring 0 }) = none ∧ objWriteCmd.params .user stagedReq (txnWith { carrier := .ring 0 }) = none ∧
      echoCmd.stage = false) := by decide

/-- The keystore, the key-wrap unit and the DRBG ON and running; session 3 open. -/
def sess (maint authed : Bool) : Session := { carrier := .ring 0, maint := maint, authed := authed, key := 7, transcript := 9 }
def secure (ss : SMap Session) : State :=
  let s := (withOn up [engKeys, engWrap, engDrbg]).wf engDrbg RNG.STATE 2
  { s with chan := { s.chan with sessions := ss, officerA := some 1 } }
def reqOpen (role : Byte) : Req := req 0 ([role, 0, 0, 0] ++ zeros 132)
def reqIn3 (payload : List Byte) : Req := { req 0 payload with flags := 4, session := 3 }
/-- The proof of SESSION_AUTH, a value of an opaque function. -/
def proof3 : List Byte := be 48 (Config.hmac384 (be 48 (1 : BitVec 384).toNat) (be 48 (9 : BitVec 384).toNat)).toNat

theorem witness_CommandChannelCarriesCommands_system :
    (meets up identifyCmd (req 0 []) ∧ meets up echoCmd (req 0 [1, 2]) ∧ meets up cueRouteCmd (req 0 [1, 0, 0, 0]) ∧ meets up cueRouteCmd (req 0 [0, 0, 0, 0])) ∧
    (meets (secure []) (sessionOpenCmd true (.within true)) (reqOpen 1) ∧ sessionOpenChecks (reqOpen 1) (secure []) = none ∧ (secure []).chan.maintA = none ∧
      meets (secure []) (sessionOpenCmd true (.within true)) (reqOpen 2)) := by decide

theorem witness_CommandChannelCarriesCommands_auth :
    Ready (sessionAuthCmd true) (reqIn3 proof3) (tak 0x0021 (reqIn3 proof3)) (withReq (secure [(3, sess false false)]) 0x0021 (reqIn3 proof3)) ∧
      (secure [(3, sess false false)]).chan.sessions.look 3 = some (sess false false) ∧ (secure [(3, sess false false)]).chan.officerA = some 1 :=
  ⟨⟨findTaken_withReq _ _ _ _ rfl, .inr (isNext_withReq _ _ _ _ rfl rfl), .inl rfl, rfl, rfl, rfl⟩, by decide, by decide⟩

theorem witness_CommandChannelCarriesCommands_sessions :
    (meets (secure [(3, sess true false)]) (sessionAuthCmd true) (reqIn3 []) ∧ (secure [(3, sess true false)]).chan.maintA = none) ∧
    (meets (secure [(3, sess false true)]) sessionCloseCmd (reqIn3 []) ∧ (secure [(3, sess false true)]).chan.sessions.has 3 = true ∧
      meets (secure []) sessionCloseCmd (req 0 [])) ∧
    (offMeets (secure [(3, sess false true)]) roleAuthSetCmd (reqIn3 ([1, 0, 0, 0] ++ zeros 56)) ∧
      (secure [(3, sess false true)]).chan.sessions.look 3 = some (sess false true) ∧ up.boot.update = none) := by decide

def reqWord (off : Nat) (payload : List Byte) : Req := req (BitVec.ofNat 32 (locOf engStq + off)) payload
def inState (n : Nat) : State := up.wf engStq HDR.STATE n

theorem witness_CommandChannelCarriesCommands_objects :
    (meets (inState 2) objReadCmd (reqWord 0x108 [1, 0, 0, 0]) ∧ (reqWord 0x108 []).eng = engStq ∧ kind engStq = 0x61 ∧ locOff (reqWord 0x108 []).target.toNat = 0x108) ∧
    (meets (inState 2) objWriteCmd (reqWord 0x108 [4, 0, 0, 0]) ∧ meets (inState 4) objWriteCmd (reqWord 0x108 [4, 0, 0, 0]) ∧
      meets (inState 1) objWriteCmd (reqWord 0x108 [4, 0, 0, 0])) ∧
    (meets (inState 2) objModifyCmd (reqWord 0x108 [4, 0, 0, 0, 4, 0, 0, 0]) ∧ wordOnes engStq 0x108 = 0 ∧ modified 0 3 4 4 = 7) := by decide

def ended5 : Req := { req 0 [] with txn := 5 }
def staged1 : Txn := { carrier := .ring 0, staged := [{ tak 0x0101 stagedReq with unit := 14 }], closing := true }
def failed5 : TxnFail := { locator := 8, status := St.unitFailed, detail := 0, index := 0 }

theorem witness_CommandChannelCarriesCommands_txns :
    (meets up txnBeginCmd (req 0 []) ∧ up.chan.txns.length < 256 ∧ meets (txnWith staged1) txnAbortCmd ended5 ∧ meets (txnWith staged1) txnCommitCmd ended5 ∧
      meets (txnWith { staged1 with fail := some failed5 }) txnCommitCmd ended5) ∧
    ((txnWith staged1).chan.txns.look 5 = some staged1 ∧ staged1.ofUnit 10 = [] ∧ (txnWith staged1).chan.committing = none ∧
      (match runPlan staged1 .later staged1.plan (txnWith staged1) [] with | .done _ _ => true | _ => false) = true ∧
      (match runPlan staged1 .later staged1.plan ((txnWith staged1).wf engStq HDR.STATE 4) [] with | .stopped _ _ _ _ _ _ => true | _ => false) = true) := by decide

/-- A transaction with a table update. -/
def staged2 : Txn := { carrier := .ring 0, staged := [{ tak 0x0504 (reqRule 1 8 255) with unit := 11 }], closing := true }
/-- One with a TDM command. -/
def staged3 : Txn := { carrier := .ring 0, staged := [{ tak 0x0401 (req 0 [0, 0, 0, 0]) with unit := 10 }], closing := true }

theorem witness_CommandChannelCarriesCommands_updates :
    (meets (packed (txnWith staged2)) txnCommitCmd ended5 ∧ staged2.updates = true ∧ staged2.fail = none ∧ staged2.job = none ∧ staged1.updates = false) ∧
    (∃ v, ((packed (txnWith staged2)).starting (tak 0x0111 ended5)).runJob tableAsk = (none, v)) ∧
    ((txnWith staged2).runJob tableAsk).1 = some 8192 ∧ (∃ v, (packed up).runJob (commandAsk cueRouteCmd.op) = (none, v)) ∧
      (up.runJob (commandAsk cueRouteCmd.op)).1 = some 8192 ∧ noCtx cueRouteCmd.op = false :=
  ⟨by decide, ⟨_, (packed_runJob _ rfl _ rfl rfl (by decide)).1⟩, by decide, ⟨_, (packed_runJob _ rfl _ rfl rfl (by decide)).1⟩, by decide, by decide⟩

set_option maxRecDepth 100000 in
theorem witness_CommandChannelCarriesCommands_waits :
    (staged3.ofUnit 10 ≠ [] ∧ ((txnWith staged3).modTdm fun t => { t with splice := some (.txn 4) }).tdm.splice.isSome = true ∧
      meets ((txnWith staged3).modTdm fun t => { t with splice := some (.txn 4) }) txnCommitCmd ended5 ∧ meets (txnWith staged3) txnCommitCmd ended5) ∧
    meets { txnWith staged1 with chan := { (txnWith staged1).chan with committing := some 4 } } txnCommitCmd ended5 := by decide

/-- A request with OFFICER under session 3 of a ring, and one whose trailer is the session's. -/
def bare3 : Req := { req 0 [1, 2, 3, 4] with flags := 4, session := 3 }
def sigOf (x : Session) (r : Req) (op : Nat) : BitVec 384 := Config.hmac384 (be 48 x.key.toNat) (le 8 x.seq ++ r.header op ++ r.payload)
/-- Only the trailer differs, which the signature does not cover. -/
def signed3 (x : Session) (c : Cmd) (wrong : BitVec 384) : Req := { bare3 with trailer := sigOf x bare3 c.op + wrong }

theorem witness_CommandChannelCarriesCommands_trailers (x : Session) (c : Cmd) :
    ((signed3 x c 0).officer = true ∧ (signed3 x c 0).inTxn = false ∧ sigOf x (signed3 x c 0) c.op = (signed3 x c 0).trailer) ∧
    ((signed3 x c 1).officer = true ∧ (signed3 x c 1).inTxn = false ∧ sigOf x (signed3 x c 1) c.op ≠ (signed3 x c 1).trailer) := by
  simp [sigOf, signed3, Req.header, bare3, req, Req.officer, Req.inTxn]

theorem witness_CommandChannelCarriesCommands_roles :
    ((secure [(3, sess false true)]).chan.sessions.look bare3.session.toNat = some (sess false true) ∧ (sess false true).carrier = bare3.carrier ∧
      ({ sess false true with carrier := .uart } : Session).carrier ≠ bare3.carrier ∧ (secure []).chan.sessions.look bare3.session.toNat = none ∧
      (sess false true).zeroAuth = false ∧ ({ sess false true with zeroAuth := true } : Session).authed = true) ∧
    (echoCmd.op ≠ 0x21 ∧ (sessionAuthCmd true).op = 0x21 ∧ logClearCmd.role ≠ .user ∧ logClearCmd.role ≠ .maintenance ∧ echoCmd.role = .user ∧
      echoCmd.len bare3.payload.length = true ∧ echoCmd.fits bare3 (secure []) = none ∧ bare3.txn = 0 ∧ echoCmd.target bare3 (secure []) = none ∧
      echoCmd.params .officer bare3 (secure []) = none ∧ noCtx echoCmd.op = true) := by decide

/-- Cues that wait for a UART frame, some lost; a reply for an in-band frame on a lane that sends. -/
def cueing (due : Bool) (replies : List Packet) : State :=
  { up with chan := { up.chan with uartReplies := replies, uartCues := [{ packet0 with holdsTag := false }], lostUart := 2, dueUart := due } }
def banding : State :=
  let s := withOn up [engMac up.mgmtLane, engLane up.mgmtLane]
  { (s.wf (engLane up.mgmtLane) LN.LINK 1) with chan := { s.chan with bandReplies := [packet0] } }

theorem witness_CommandChannelCarriesCommands_cues :
    ((cueing false []).chan.uartReplies = [] ∧ packet0.behind = none ∧ (cueing true []).chan.dueUart = true ∧ 0 < (cueing true []).chan.lostUart) ∧
    (banding.chan.bandReplies = [packet0] ∧ banding.chan.bandCues = [] ∧ banding.chan.lostBand = 0 ∧ banding.canSend banding.mgmtLane = true ∧
      banding.rf (engLane banding.mgmtLane) LN.LOOP = 0 ∧ packet0.ctx = none ∧ packet0.holds = 0) := by decide

/-- A session of an officer, and a cipher engine to wrap with or none. -/
def roling (free : Bool) : State :=
  { kekPool free with chan := { (kekPool free).chan with sessions := [(3, sess false true)], officerA := some 1 } }

theorem witness_CommandChannelCarriesCommands_wrap :
    offMeets (roling true) roleAuthSetCmd (reqIn3 ([1, 0, 0, 0] ++ zeros 56)) ∧ (roling true).borrow = some 7 ∧
    offMeets (roling false) roleAuthSetCmd (reqIn3 ([1, 0, 0, 0] ++ zeros 56)) ∧ (roling false).borrow = none ∧
    (Config.kwUnwrap (wrapKey 7) (zeros 56) = none ∨ ∃ a, Config.kwUnwrap (wrapKey 7) (zeros 56) = some a) :=
  ⟨by decide, by decide, by decide, by decide, by cases Config.kwUnwrap (wrapKey 7) (zeros 56) <;> simp⟩

theorem witness_CommandChannelCarriesCommands_open :
    ((secure []).rngLoad + 80 ≤ 4096 ∧ (secure []).cry.rng.requests < 65536 ∧ (secure []).rf engDrbg RNG.STATE = 2 ∧ (secure []).chan.lockout = false) ∧
    (meets ((secure []).wf engDrbg RNG.STATE 1) (sessionOpenCmd true (.within true)) (reqOpen 1) ∧
      sessionOpenChecks (reqOpen 1) ((secure []).wf engDrbg RNG.STATE 1) = none) ∧
    (meets up objReadCmd { req (BitVec.ofNat 32 (eng 15 3 * 2 ^ 20)) [1, 0, 0, 0] with tag := 1 } ∧ present (eng 15 3) = false) := by decide

/-- One with an SA_CREATE that makes a key. -/
def staged4 : Txn := { carrier := .ring 0, staged := [{ tak 0x0623 reqCreateKey .officer with unit := 12 }], closing := true }
def withTxn (s : State) (x : Txn) : State := { s with chan := { s.chan with txns := [(5, x)] } }

theorem witness_CommandChannelCarriesCommands_draws :
    (match runPlan staged4 .later { staged4 with inOrder := true }.plan (withTxn (kekPool true) staged4) [] with
      | .waits _ (.rng ..) => true | _ => false) = true ∧
    ((withTxn (kekPool true) staged4).generate staged4.rngBytes).isSome = true ∧ ((withTxn (kekIn 1) staged4).generate staged4.rngBytes) = none ∧
    meets (withTxn (kekPool true) staged4) txnCommitCmd ended5 := by decide

theorem witness_CommandChannelCarriesCommands_copies :
    (match runPlan staged2 .later { staged2 with inOrder := true }.plan (withTxn copying staged2) [] with | .waits _ (.unit _) => true | _ => false) = true ∧
    meets (withTxn copying staged2) txnCommitCmd ended5 ∧ (copying.runJob tableAsk).1 = some 8192 := by decide

/-! ### Well-formedness: for each check of WellFormed.lean a command that it refuses, and one that it takes -/

theorem test_wf_payload : (Instr.echo (req 0 (zeros 4097))).wf = false ∧ (Instr.echo (req 0 (zeros 8))).wf = true := by
  constructor
  · simp only [Instr.wf, Req.wf, req, zeros, List.length_replicate]; rfl
  · rfl
theorem test_wf_trailer : (Instr.echo { req 0 [] with trailer := 5 }).wf = false ∧ (Instr.echo { req 0 [] with trailer := 5, flags := 4 }).wf = true := by decide
theorem test_wf_source : (Instr.echo { req 0 [] with src := 5 }).wf = false ∧ (Instr.echo { req 0 [] with src := 5, carrier := .inband }).wf = true := by decide
theorem test_wf_engine : (Instr.engCtrlEnableWrite ⟨(eng 15 3), false⟩ true).wf = false ∧ (Instr.engCtrlEnableWrite ⟨engClk, false⟩ true).wf = true := by decide
theorem test_wf_engine_others :
    (Instr.engCtrlSrstWrite ⟨(eng 15 3), false⟩).wf = false ∧ (Instr.engineInitComplete (eng 15 3) true).wf = false ∧
    (Instr.engineDrainComplete (eng 15 3)).wf = false ∧ (Instr.softResetComplete (eng 15 3) false 0).wf = false ∧
    (Instr.engineWatchdog (eng 15 3)).wf = false ∧ (Instr.engineFault (eng 15 3) .eccUe).wf = false := by decide
theorem test_wf_cause : (Instr.engineFault engClk (.kindSpecific 0)).wf = false ∧ (Instr.engineFault engClk (.kindSpecific 8)).wf = false ∧
    (Instr.engineFault engClk (.kindSpecific 1)).wf = true := by decide
theorem test_wf_fetch : (Instr.commandFetch (zeros 4161) false).wf = false ∧ (Instr.commandFetch (zeros 16) false).wf = true := by
  constructor
  · simp only [Instr.wf, zeros, List.length_replicate]; rfl
  · rfl
theorem test_wf_line : (Instr.uartFrameRx [1, 0x7E, 2]).wf = false ∧ (Instr.uartFrameRx [1, 0x7D, 0x5E, 2]).wf = true := by decide
theorem test_wf_lane : (Instr.laneLosClear 0 ⟨0, 0⟩ 0 0x20).wf = false ∧ (Instr.laneLosClear 0 ⟨0, 0⟩ 0 0x1F).wf = true ∧ (Instr.adaptationRepeat 0 0 0 [] []).wf = false := by
  decide
theorem test_wf_message : (Instr.ploamRx 0 (msg .enableAll)).wf = false ∧ (Instr.ploamRx 0 { msg .enableAll with bytes := zeros 40 }).wf = true ∧
    (Instr.ploamRx 0 { msg (.fennath [0]) with bytes := zeros 40 }).wf = false := by decide
theorem test_wf_sites : (Instr.temperatureSample [] 0 0 true).wf = false ∧ (Instr.temperatureSample (List.replicate 8 880) 0 0 true).wf = true := by decide
theorem test_wf_rails : (Instr.railSample []).wf = false ∧ (Instr.railSample (List.replicate 14 1000)).wf = true := by decide

/-- No row of the table has bits, so no word spells a command. -/
theorem test_no_word_spells : decodeTableWord 32 0 = none ∧ State.withFetchWord State.reset 32 0 = State.reset := ⟨rfl, rfl⟩

/-! ### Single steps, one or two to a family; what is expected is the spec's -/

/-- R27: OFF goes to WAKING. -/
theorem test_enable_wakes : runs (.engCtrlEnableWrite ⟨engStq, false⟩ true) up (fun t => t.engState engStq = 1 && t.on engStq HDR.ENABLE) = true := by decide
/-- R90: the fourth superframe in a row without PSync in SYNC goes to HUNT, with LODS. -/
theorem test_psync_lost : runs (.psyncReceived 0 false ⟨true, true⟩ 5) (missed 3)
    (fun t => t.rf (engFramer 0) FR.SYNC = 0 && t.on (engFramer 0) FR.LODS && t.rf (engFramer 0) FR.FR_LODS_CNT = 1) = true := by decide
/-- R94: a deactivated terminal has no ONU-ID. -/
theorem test_deactivate : runs (.deactivateOnuId 0) (ponMsg 5 .deactivateOnuId) (fun t => (t.vt 7).onuId = none) = true := by decide
/-- R97: an ONU-ID in use is dropped and counted, and the terminal stays where it was. -/
theorem test_onu_id_in_use : runs (.assignOnuId 0) clash (fun t => t.rf (engPloam 0) PL.PL_DROP = 1 && t.vt 7 = clash.vt 7) = true := by decide
/-- R423: a reset of wider scope that is held absorbs a narrower one. -/
theorem test_reset_absorbed : runs .resetNPulse (heldIn 0) (fun t => t.rf engRst RST.RST_ABSORBED = 1) = true := by decide
/-- R409: a domain that sleeps takes its ON engines to OFF. -/
theorem test_domain_sleeps : runs (.domainSleep 14) lightSleep
    (fun t => !bitOf (t.rf engWake WK.AWAKE) 14 && t.engState engStq = 0 && t.rf engWake WK.WK_SLEEPS = 1) = true := by decide
/-- R68: a session that is closed is gone, and the close is answered. -/
theorem test_session_close : runs (.sessionClose (reqIn3 [])) (withReq (secure [(3, sess false true)]) 0x22 (reqIn3 []))
    (fun t => t.chan.sessions = [] && t.chan.pcieReplies.length = 1) = true := by decide
set_option maxRecDepth 20000 in
/-- OBJ_MODIFY (chapter 2) changes the bits of its mask only. -/
theorem test_modify : runs (.objModify (reqWord 0x108 [4, 0, 0, 0, 4, 0, 0, 0])) (withReq ((inState 2).wf engStq STQ.PTP_PORT_EN_LO 3) 0x102
    (reqWord 0x108 [4, 0, 0, 0, 4, 0, 0, 0])) (fun t => t.rf engStq STQ.PTP_PORT_EN_LO = 7) = true := by decide
/-- R441: a whole hour appends a slate. -/
theorem test_hour : runs .hourlySlate (logged 2) (fun t => t.log.hours = 1 && t.log.slates.length = 1) = true := by decide
/-- R437: a bus that a retry frees is idle. -/
theorem test_bus_freed : runs (.i2cRecoveryRetry 1 true 9 .nack) (i2cIn 2 1)
    (fun t => t.rf (engI2c 1) I2C.I2C_RECOVERIES = 1 && t.rf (engI2c 1) I2C.STATE = 0) = true := by decide
/-- R390: a REFCLK tick adds the nominal period to the count. That an idle step is such a tick is the model's choice (log entry 3). -/
theorem test_idle_ticks : (match step (clocked 1 2) with | .next t => decide (t.clk.count = 9 + 0x66E172D4D) | _ => false) = true := by decide
/-- R466's own example: lane 9. -/
theorem test_lane_balls : (laneBalls 9).map ballName = ["AJ30", "AJ31", "AK32", "AK33"] := by decide

/-! ### What every command keeps -/

theorem witness_OnlyBootsChangeOptionData :
    (∃ t, exec .nowShortRead up = .next t) ∧ (∀ b, Instr.nowShortRead ≠ .boot b) ∧ ∀ r readOk, Instr.nowShortRead ≠ .optionWrite r readOk :=
  ⟨⟨_, rfl⟩, nofun, nofun⟩

theorem witness_EveryStepKeepsSafety : State.reset.Safe ∧ ∃ t, step { State.reset with pending := [.nowShortRead] } = .next t :=
  ⟨⟨.inr rfl, by decide⟩, ⟨_, rfl⟩⟩

end Sys2Proof.Tests
end

section
/-! Virtual terminals and the PLOAM queue: what the operations that PLOAM messages share change and leave. -/
namespace Sys2Proof.Machine

/-! ### Frames of the PON's named updates -/

/-- A change of the PON that the frame lets change. -/
theorem Keeps.pon {s t : State} {parts : List Part} {fs : List (Nat × Fld)} (h : Keeps s t parts fs) (hp : Part.pon ∈ parts) (p : Pon) :
    Keeps s { t with pon := p } parts fs := by
  refine h.part rfl rfl (fun q hq => ?_) rfl
  cases q
  case pon => exact absurd hp hq
  all_goals rfl

/-- A change of the packet buffer's pages that the frame lets change. -/
theorem Keeps.pages {s t : State} {parts : List Part} {fs : List (Nat × Fld)} (h : Keeps s t parts fs) (hp : Part.pages ∈ parts)
    (p : SMap Page) : Keeps s { t with pages := p } parts fs := by
  refine h.part rfl rfl (fun q hq => ?_) rfl
  cases q
  case pages => exact absurd hp hq
  all_goals rfl

theorem Keeps.modVt {s t : State} {parts : List Part} {fs : List (Nat × Fld)} (h : Keeps s t parts fs) (hp : Part.pon ∈ parts) (v : Nat)
    (g : Vt → Vt) : Keeps s (t.modVt v g) parts fs := h.pon hp _

theorem Keeps.modCh {s t : State} {parts : List Part} {fs : List (Nat × Fld)} (h : Keeps s t parts fs) (hp : Part.pon ∈ parts) (c : Nat)
    (g : PonCh → PonCh) : Keeps s (t.modCh c g) parts fs := h.pon hp _

theorem Keeps.popped {s t : State} {parts : List Part} {fs : List (Nat × Fld)} (h : Keeps s t parts fs) (hp : Part.pon ∈ parts) (c : Nat) :
    Keeps s (t.popped c) parts fs := h.modCh hp c _

theorem Keeps.freePages {s t : State} {parts : List Part} {fs : List (Nat × Fld)} (h : Keeps s t parts fs) (hp : Part.pages ∈ parts)
    (ps : List Nat) : Keeps s (t.freePages ps) parts fs := h.pages hp _

/-- A field at its reset value again, where the frame lets it change. -/
theorem Keeps.clearFld {s t : State} {parts : List Part} {fs : List (Nat × Fld)} (h : Keeps s t parts fs) {e : Nat} {f : Fld}
    (hm : (e, f) ∈ fs) : Keeps s (t.clearFld e f) parts fs := by
  refine h.trans ⟨rfl, rfl, fun p _ => by cases p <;> simp [Part.same], fun e' f' hn => ?_⟩
  have hne : fldKey e' f' ≠ fldKey e f := by
    intro heq
    rw [heq] at hn
    exact hn (List.mem_map.mpr ⟨(e, f), hm, rfl⟩)
  simp [State.rf, SMap.look_del_ne _ hne]

theorem Keeps.foldl {α : Type} {s t : State} {parts : List Part} {fs : List (Nat × Fld)} {f : State → α → State}
    (hf : ∀ u a, Keeps s u parts fs → Keeps s (f u a) parts fs) (xs : List α) (h : Keeps s t parts fs) :
    Keeps s (xs.foldl f t) parts fs := by
  induction xs generalizing t with
  | nil => exact h
  | cons x xs ih => exact ih (hf t x h)

/-- Discarding frames cut by plain bindings frees pages and changes nothing else. -/
theorem State.freeCuts_keeps (s : State) (p : Alloc → Bool) : Keeps s (s.freeCuts p) [.pages] [] := by
  refine Keeps.foldl (fun u a hu => ?_) _ (Keeps.refl s _ _)
  split
  · exact hu.freePages (by simp) _
  · exact hu

@[simp] theorem State.freeCuts_pon (s : State) (p : Alloc → Bool) : (s.freeCuts p).pon = s.pon := by
  obtain ⟨-, -, hparts, -⟩ := s.freeCuts_keeps p
  exact hparts .pon (by simp)

@[simp] theorem State.freeCuts_rf (s : State) (p : Alloc → Bool) (e : Nat) (f : Fld) : (s.freeCuts p).rf e f = s.rf e f := by
  obtain ⟨-, -, -, hflds⟩ := s.freeCuts_keeps p
  exact hflds e f (by simp)

/-! ### The message at the head of the queue -/

@[simp] theorem State.popped_vt (s : State) (c v : Nat) : (s.popped c).vt v = s.vt v := rfl
@[simp] theorem State.popped_targets (s : State) (c d : Nat) (m : PloamMsg) : (s.popped c).targets d m = s.targets d m := rfl

/-- The head of the queue is taken and handled (R101). -/
theorem State.handle_of_heads {s : State} {ch : Nat} {m : PloamMsg} (h : Heads s ch m) (f : PloamMsg → State → Option State) :
    s.handle ch f = (f m (s.popped ch)).getD s := by
  obtain ⟨hq, hfw⟩ := h
  cases hr : (s.chn ch).rxq with
  | nil => simp [hr] at hq
  | cons x xs =>
    have hx : x.2 = m := by simpa [hr] using hq
    have hp : (s.modCh ch fun c => { c with rxq := xs }) = s.popped ch := by
      have hr' : (s.pon.chs.get ch {}).rxq = x :: xs := hr
      simp [State.popped, State.modCh, SMap.upd, hr']
    simp only [State.handle, hr, hfw, hx, hp]

/-! ### Upstream messages -/

/-- What queuing upstream messages can do to the terminals and the registers: their queues grow, and PL_DROP counts those without room (R101). -/
structure OnlyQueues (s t : State) : Prop where
  vts : ∀ v, ∃ q h, t.vt v = { s.vt v with queue := q, held := h }
  flds : ∀ e f, (∀ c, fldKey e f ≠ fldKey (engPloam c) PL.PL_DROP) → t.rf e f = s.rf e f

theorem OnlyQueues.refl (s : State) : OnlyQueues s s := ⟨fun v => ⟨(s.vt v).queue, (s.vt v).held, rfl⟩, fun _ _ _ => rfl⟩

theorem OnlyQueues.trans {s t u : State} (h : OnlyQueues s t) (h' : OnlyQueues t u) : OnlyQueues s u := by
  refine ⟨fun v => ?_, fun e f hne => (h'.flds e f hne).trans (h.flds e f hne)⟩
  obtain ⟨q, r, hv⟩ := h.vts v
  obtain ⟨q', r', hv'⟩ := h'.vts v
  exact ⟨q', r', by rw [hv', hv]⟩

theorem OnlyQueues.state_eq {s t : State} (h : OnlyQueues s t) (v : Nat) : (t.vt v).state = (s.vt v).state := by
  obtain ⟨q, r, hv⟩ := h.vts v
  rw [hv]

theorem OnlyQueues.to1_eq {s t : State} (h : OnlyQueues s t) (v : Nat) : (t.vt v).to1 = (s.vt v).to1 := by
  obtain ⟨q, r, hv⟩ := h.vts v
  rw [hv]

/-- A change of one terminal's queues is no more than that. -/
theorem onlyQueues_modVt (s : State) (w : Nat) (g : Vt → Vt) (hg : ∀ t, ∃ q h, g t = { t with queue := q, held := h }) :
    OnlyQueues s (s.modVt w g) := by
  refine ⟨fun v => ?_, fun _ _ _ => rfl⟩
  by_cases hv : v = w
  · subst hv
    simpa using hg (s.vt v)
  · exact ⟨_, _, s.vt_modVt_ne g hv⟩

/-- A change of a channel is nothing that the terminals or the registers show. -/
theorem onlyQueues_modCh (s : State) (c : Nat) (g : PonCh → PonCh) : OnlyQueues s (s.modCh c g) :=
  ⟨fun v => ⟨(s.vt v).queue, (s.vt v).held, rfl⟩, fun _ _ _ => rfl⟩

theorem State.putUp_onlyQueues (s : State) (v : Nat) (m : UpMsg) : OnlyQueues s (s.putUp v m) := by
  unfold State.putUp
  dsimp only
  split
  · exact onlyQueues_modVt s v _ fun t => ⟨_, t.held, rfl⟩
  · split
    · exact onlyQueues_modVt s v _ fun t => ⟨t.queue, _, rfl⟩
    · exact ⟨(OnlyQueues.refl s).vts, fun e f hne => s.rf_bumpN_ne 1 (hne _)⟩

theorem State.wsEnd_onlyQueues (s : State) (ch : Nat) : OnlyQueues s (s.wsEnd ch) := by
  have hfold : ∀ (xs : List Nat) (u : State), OnlyQueues u (xs.foldl (fun s v => s.putUp v (.sleepRequest true)) u) := by
    intro xs
    induction xs with
    | nil => exact OnlyQueues.refl
    | cons x xs ih => exact fun u => (u.putUp_onlyQueues x _).trans (ih _)
  unfold State.wsEnd
  split
  · exact OnlyQueues.refl s
  · exact (onlyQueues_modCh s ch _).trans (hfold _ _)

theorem State.ackFrom_onlyQueues (s : State) (v : Nat) (m : PloamMsg) (c : AckCode) : OnlyQueues s (s.ackFrom v m c) :=
  (s.putUp_onlyQueues v _).trans (State.wsEnd_onlyQueues _ _)

/-! ### Changes of a terminal's state -/

theorem SMap.mem_put_self {α : Type} (m : SMap α) (k : Nat) (v : α) : (k, v) ∈ m.put k v := by
  induction m with
  | nil => simp [SMap.put]
  | cons x m ih =>
    obtain ⟨j, w⟩ := x
    simp only [SMap.put]
    split
    · simp
    · split
      · simp
      · exact List.mem_cons_of_mem _ ih

/-- A terminal is on the channel that it is bound to. -/
theorem State.mem_vtsOn_modVt (s : State) (v : Nat) (g : Vt → Vt) : v ∈ (s.modVt v g).vtsOn (g (s.vt v)).channel :=
  List.mem_map.mpr ⟨(v, g (s.vt v)), List.mem_filter.mpr ⟨SMap.mem_put_self _ _ _, by simp⟩, rfl⟩

theorem State.dropEqd_pon (s : State) (ch : Nat) : (s.dropEqd ch).pon = s.pon := by
  unfold State.dropEqd
  split <;> rfl

/-- A terminal in O5 keeps its channel's equalization delay (R98). -/
theorem State.dropEqd_of_o5 {s : State} {ch v : Nat} (hv : v ∈ s.vtsOn ch) (h5 : (s.vt v).state = 5) : s.dropEqd ch = s := by
  unfold State.dropEqd
  rw [if_pos (List.any_eq_true.mpr ⟨v, hv, by simp [h5]⟩)]

theorem Keeps.dropEqd {s t : State} {parts : List Part} {fs : List (Nat × Fld)} {ch : Nat} (h : Keeps s t parts fs)
    (h1 : (engFramer ch, FR.EQD) ∈ fs) (h2 : (engFramer ch, FR.EQD_VALID) ∈ fs) : Keeps s (t.dropEqd ch) parts fs := by
  unfold State.dropEqd
  split
  · exact h
  · exact (h.clearFld h1).clearFld h2

/-- A terminal in a new state, as its channel and the host see it: VT_STATE is raised, and EQD dropped where nobody uses it. -/
def State.vtMoved (s : State) (v new cause : Nat) : State :=
  ((s.modVt v fun t => { t with state := new }).vtCue v (s.vt v).state new cause).dropEqd (s.vt v).channel

theorem State.vtMoved_pon (s : State) (v new cause : Nat) : (s.vtMoved v new cause).pon = (s.modVt v fun t => { t with state := new }).pon := by
  simp [State.vtMoved, State.dropEqd_pon, State.vtCue]

theorem State.vtMoved_vt (s : State) (v new cause : Nat) : (s.vtMoved v new cause).vt v = { s.vt v with state := new } := by
  rw [State.vt, State.vtMoved_pon]
  exact s.vt_modVt v _

theorem Keeps.vtMoved {s t : State} {parts : List Part} {fs : List (Nat × Fld)} {v new cause : Nat} (h : Keeps s t parts fs)
    (h1 : Part.pon ∈ parts) (h2 : Part.chan ∈ parts) (h3 : cueFld ∈ fs) (h4 : (engFramer (t.vt v).channel, FR.EQD) ∈ fs)
    (h5 : (engFramer (t.vt v).channel, FR.EQD_VALID) ∈ fs) : Keeps s (t.vtMoved v new cause) parts fs :=
  ((h.modVt h1 v _).cue h2 h3 _ _).dropEqd h4 h5

/-- A terminal that enters O5 keeps its channel's equalization delay. -/
theorem State.vtMoved_o5 (s : State) (v cause : Nat) :
    s.vtMoved v 5 cause = (s.modVt v fun t => { t with state := 5 }).vtCue v (s.vt v).state 5 cause := by
  refine State.dropEqd_of_o5 (v := v) ?_ (by simp [State.vtCue])
  simpa [State.vtsOn, State.vtCue] using s.mem_vtsOn_modVt v fun t => { t with state := 5 }

/-- From a state other than O5 a terminal changes to another: into O5, its parent is no longer LOST (R148). -/
theorem State.setVt_of_not_o5 {s : State} {v new cause : Nat} (hn : (s.vt v).state ≠ new) (h5 : (s.vt v).state ≠ 5) :
    s.setVt v new cause =
      if new = 5 && (s.vtMoved v new cause).on engBond BD.LOST && !(s.vtMoved v new cause).fenced (s.vt v).channel then
        (s.vtMoved v new cause).wf engBond BD.LOST 0
      else s.vtMoved v new cause := by
  simp only [State.setVt, hn, h5, if_false]
  rfl

theorem State.setVt_vt_of_not_o5 {s : State} {v new cause : Nat} (hn : (s.vt v).state ≠ new) (h5 : (s.vt v).state ≠ 5) :
    (s.setVt v new cause).vt v = { s.vt v with state := new } := by
  rw [State.setVt_of_not_o5 hn h5, ← s.vtMoved_vt v new cause]
  split <;> rfl

/-- A terminal that enters O5 changes no registers but VS_CUE_LOST and BU_LOST. -/
theorem State.rf_setVt_o5 {s : State} {v cause e : Nat} {f : Fld} (hn : (s.vt v).state ≠ 5) (h1 : fldKey e f ≠ fldKey engCmd VS.CUE_LOST)
    (h2 : fldKey e f ≠ fldKey engBond BD.LOST) : (s.setVt v 5 cause).rf e f = s.rf e f := by
  have hm : (s.vtMoved v 5 cause).rf e f = s.rf e f := by
    rw [State.vtMoved_o5]
    exact State.rf_cue _ _ _ h1
  rw [State.setVt_of_not_o5 hn hn]
  split
  · rw [State.rf_wf_ne _ _ h2, hm]
  · exact hm

/-! ### Log records -/

theorem State.logEng_pon (s : State) (event e : Nat) (data : List Byte) : (s.logEng event e data).pon = s.pon := by
  rw [State.logEng, State.logAt_eq]

theorem State.logEng_rf (s : State) (event e : Nat) (data : List Byte) (e' : Nat) (f : Fld) :
    (s.logEng event e data).rf e' f = s.rf e' f := by
  rw [State.logEng, State.logAt_eq]
  rfl

/-- Part time does not depend on a field other than CLK_MODEL. -/
theorem State.nowSec_wf (s : State) {e : Nat} {f : Fld} (v : Nat) (h : fldKey engClk CLK.MODEL ≠ fldKey e f) :
    (s.wf e f v).nowSec = s.nowSec := by
  simp only [State.nowSec, State.nowNs, State.partTime, State.wf_clk, State.rf_wf_ne s v h]

/-- What a record holds does not depend on a field other than CLK_MODEL. -/
theorem State.logEng_log_wf (s : State) {e : Nat} {f : Fld} (v : Nat) (h : fldKey engClk CLK.MODEL ≠ fldKey e f) (event src : Nat)
    (data : List Byte) : ((s.wf e f v).logEng event src data).log = (s.logEng event src data).log := by
  have hr : ∀ d l x, State.logAt.newRec (s.wf e f v) event d l x = State.logAt.newRec s event d l x := by
    intro d l x
    simp only [State.logAt.newRec, State.nowSec_wf s v h]
    rfl
  simp only [State.logEng, State.logAt, State.wf_log, State.wf_elapsed, hr]
  split
  · split <;> rfl
  · rfl

end Sys2Proof.Machine
end

section
/-! Burst_Profile, Assign_ONU-ID and Ranging_Time (R94, R97, R98, R129). -/
namespace Sys2Proof.Machine

/-! ### Places of fields

Fields of a framer stand apart from PL_DROP, VS_CUE_LOST and BU_LOST, and CLK_MODEL from PL_DROP. -/

theorem framer_ne_plDrop {ch c : Nat} {f : Fld} (hf : f.off < 2 ^ 20) (hl : f.lo < 32) :
    fldKey (engFramer ch) f ≠ fldKey (engPloam c) PL.PL_DROP :=
  fldKey_ne (by simp only [engFramer, engPloam, eng]; omega) hf (by decide) hl (by decide)

theorem framer_ne_cueLost {ch : Nat} {f : Fld} (hf : f.off < 2 ^ 20) (hl : f.lo < 32) :
    fldKey (engFramer ch) f ≠ fldKey engCmd VS.CUE_LOST :=
  fldKey_ne (by simp only [engFramer, engCmd, eng]; omega) hf (by decide) hl (by decide)

theorem framer_ne_lost {ch : Fin 4} {f : Fld} (hf : f.off < 2 ^ 20) (hl : f.lo < 32) :
    fldKey (engFramer ch) f ≠ fldKey engBond BD.LOST :=
  fldKey_ne (by simp only [engFramer, engBond, eng]; omega) hf (by decide) hl (by decide)

theorem clkModel_ne_plDrop (ch : Fin 4) : fldKey engClk CLK.MODEL ≠ fldKey (engPloam ch) PL.PL_DROP :=
  fldKey_ne (by simp only [engClk, engPloam, eng]; omega) (by decide) (by decide) (by decide) (by decide)

/-! ### Burst_Profile (R129) -/

/-- A burst profile is held, and the channel has one. -/
def State.profiled (s : State) (ch i : Nat) (p : Profile) : State :=
  (s.modCh ch fun c => { c with profiles := c.profiles.put i p }).wf (engFramer ch) FR.PROFILE 1

theorem exec_burstProfile {s : State} {ch : Fin 4} {m : PloamMsg} {i : Fin 4} {r : Fin 3} {shape : List Byte} (h : Heads s ch m)
    (hb : m.body = .burstProfile i r shape) :
    exec (.burstProfile ch) s = .next (((s.popped ch).profiled ch i { rate := r, shape := shape }).settle ch) := by
  show execBurstProfile ch s = _
  simp only [execBurstProfile, State.handle_of_heads h, hb, Option.getD_some]
  rfl

theorem State.profiled_look (s : State) (ch i : Nat) (p : Profile) : ((s.profiled ch i p).chn ch).profiles.look i = some p := by
  show (((s.modCh ch _).chn ch).profiles).look i = some p
  rw [State.chn_modCh]
  exact SMap.look_put_self _ _ _

theorem State.profiled_on (s : State) (ch i : Nat) (p : Profile) : (s.profiled ch i p).on (engFramer ch) FR.PROFILE = true := by
  rw [State.on, State.profiled, State.rf_wf_self]
  rfl

theorem Keeps.profiled {s t : State} {parts : List Part} {fs : List (Nat × Fld)} {ch : Nat} (h : Keeps s t parts fs) (h1 : Part.pon ∈ parts)
    (h2 : (engFramer ch, FR.PROFILE) ∈ fs) (i : Nat) (p : Profile) : Keeps s (t.profiled ch i p) parts fs :=
  (h.modCh h1 ch _).wf h2

/-! ### Assign_ONU-ID (R94, R97) -/

theorem exec_assignOnuId_unassign {s : State} {ch : Fin 4} {m : PloamMsg} {serial : BitVec 64} (h : Heads s ch m)
    (hb : m.body = .assignOnuId serial 0x3FF) : exec (.assignOnuId ch) s = .next (s.popped ch) := by
  show execAssignOnuId ch s = _
  simp only [execAssignOnuId, State.handle_of_heads h, hb]
  split <;> simp

/-- Assign_ONU-ID ignored: it counts in PL_DROP, and a record is written (R97). -/
def State.onuIgnored (s : State) (ch o : Nat) : State :=
  (s.bump (engPloam ch) PL.PL_DROP).logEng 0x0008 (engPloam ch) ([byte ch, 0] ++ le 2 o)

/-- Assign_ONU-ID to a terminal in O2-3: ignored while another terminal of the channel holds the ONU-ID, and carried out otherwise. -/
theorem exec_assignOnuId {s : State} {ch : Fin 4} {m : PloamMsg} {serial : BitVec 64} {onu : BitVec 10} {v : Nat} (h : Heads s ch m)
    (hb : m.body = .assignOnuId serial onu) (ho : onu ≠ 0x3FF) (hv : ((s.vtsOn ch).find? fun v => s.serial v = serial.toNat) = some v)
    (h2 : (s.vt v).state = 2) :
    exec (.assignOnuId ch) s = .next (if (s.vtsOn ch).any fun w => w ≠ v && (s.vt w).onuId = some onu.toNat then
      (s.popped ch).onuIgnored ch onu.toNat else (s.popped ch).assignOnu ch v onu.toNat) := by
  show execAssignOnuId ch s = _
  have hv' : (((s.popped ch).vtsOn ch).find? fun v => (s.popped ch).serial v = serial.toNat) = some v := hv
  simp only [execAssignOnuId, State.handle_of_heads h, hb, hv']
  rw [if_neg (by simpa [h2] using ho), ← apply_ite some]
  rfl

theorem State.onuIgnored_counts (s : State) (ch o : Nat) : Counts s (s.onuIgnored ch o) (engPloam ch) PL.PL_DROP 1 := by
  rw [Counts, State.onuIgnored, State.logEng_rf]
  exact s.bump_counts _ _

theorem State.onuIgnored_pon (s : State) (ch o : Nat) : (s.onuIgnored ch o).pon = s.pon := State.logEng_pon _ _ _ _

theorem State.onuIgnored_log (s : State) (ch : Fin 4) (o : Nat) :
    (s.onuIgnored ch o).log = (s.logEng 0x0008 (engPloam ch) ([byte ch, 0] ++ le 2 o)).log :=
  State.logEng_log_wf _ _ (clkModel_ne_plDrop ch) _ _ _

theorem Keeps.onuIgnored {s t : State} {parts : List Part} {fs : List (Nat × Fld)} {ch : Nat} (h : Keeps s t parts fs) (h1 : Part.log ∈ parts)
    (h2 : (engPloam ch, PL.PL_DROP) ∈ fs) (o : Nat) : Keeps s (t.onuIgnored ch o) parts fs := (h.bump h2).logEng h1 _ _ _

/-- The default entries that a terminal has kept make way. -/
def State.defaultsDropped (s : State) (v : Nat) : State :=
  let s := s.freeCuts fun a => a.vt = v && a.dflt
  { s with pon := { s.pon with
    allocs := s.pon.allocs.filter fun a => !(a.2.vt = v && a.2.dflt)
    ports := s.pon.ports.filter fun p => !(p.2.vt = v && p.2.kind = 3) } }

/-- A terminal's default entries made, where the channel holds none under the number. -/
def State.defaultsMade (s : State) (ch v o : Nat) : State :=
  { s with pon := { s.pon with
    allocs := if s.pon.allocs.has (allocKey ch o) then s.pon.allocs else s.pon.allocs.put (allocKey ch o) { vt := v, dflt := true }
    ports := if s.pon.ports.has (portKey ch o) then s.pon.ports else s.pon.ports.put (portKey ch o) { vt := v, kind := 3, keying := 0 } } }

/-- The state in which a terminal has its ONU-ID, TO1 and default entries, and is still in O2-3. -/
def State.onuGiven (s : State) (ch v o : Nat) : State :=
  ((s.defaultsDropped v).modVt v fun t => { t with onuId := some o, to1 := some ((s.defaultsDropped v).rf (engPloam ch) PL.TO1) }).defaultsMade
    ch v o

theorem State.assignOnu_eq (s : State) (ch v o : Nat) : s.assignOnu ch v o = (s.onuGiven ch v o).setVt v 4 0 := rfl

theorem State.defaultsDropped_vt (s : State) (v w : Nat) : (s.defaultsDropped v).vt w = s.vt w := by
  simp [State.vt, State.defaultsDropped]

theorem State.defaultsDropped_rf (s : State) (v e : Nat) (f : Fld) : (s.defaultsDropped v).rf e f = s.rf e f := State.freeCuts_rf _ _ _ _

theorem State.defaultsDropped_keeps (s : State) (v : Nat) : Keeps s (s.defaultsDropped v) [.pon, .pages] [] :=
  ((s.freeCuts_keeps _).weaken (by simp) (by simp)).pon (by simp) _

theorem State.defaultsMade_vt (s : State) (ch v o w : Nat) : (s.defaultsMade ch v o).vt w = s.vt w := rfl

theorem State.onuGiven_vt (s : State) (ch v o : Nat) :
    (s.onuGiven ch v o).vt v = { s.vt v with onuId := some o, to1 := some (s.rf (engPloam ch) PL.TO1) } := by
  rw [State.onuGiven, State.defaultsMade_vt, State.vt_modVt, State.defaultsDropped_vt, State.defaultsDropped_rf]

/-- A number is held once an entry under it has been made where there was none. -/
theorem SMap.has_ite_put {α : Type} (m : SMap α) (k : Nat) (x : α) : (if m.has k then m else m.put k x).has k = true := by
  split
  · assumption
  · simp [SMap.has]

theorem State.onuGiven_keeps (s : State) (ch v o : Nat) : Keeps s (s.onuGiven ch v o) [.pon, .pages] [] :=
  ((s.defaultsDropped_keeps v).modVt (by simp) v _).pon (by simp) _

/-- A terminal in O2-3 that is given an ONU-ID is in O4 (R94). -/
theorem State.assignOnu_of_o23 {s : State} {ch v o : Nat} (h2 : (s.vt v).state = 2) :
    s.assignOnu ch v o = (s.onuGiven ch v o).vtMoved v 4 0 := by
  have hs : ((s.onuGiven ch v o).vt v).state = 2 := by rw [State.onuGiven_vt, h2]
  rw [State.assignOnu_eq, State.setVt_of_not_o5 (by simp [hs]) (by simp [hs])]
  simp

section
variable {s : State} {ch v o : Nat} (h2 : (s.vt v).state = 2)
include h2

theorem State.assignOnu_vt :
    (s.assignOnu ch v o).vt v = { s.vt v with onuId := some o, to1 := some (s.rf (engPloam ch) PL.TO1), state := 4 } := by
  rw [State.assignOnu_of_o23 h2, State.vtMoved_vt, State.onuGiven_vt]

theorem State.assignOnu_allocs : (s.assignOnu ch v o).pon.allocs.has (allocKey ch o) = true := by
  rw [State.assignOnu_of_o23 h2, State.vtMoved_pon]
  exact SMap.has_ite_put _ _ _

theorem State.assignOnu_ports : (s.assignOnu ch v o).pon.ports.has (portKey ch o) = true := by
  rw [State.assignOnu_of_o23 h2, State.vtMoved_pon]
  exact SMap.has_ite_put _ _ _

theorem State.assignOnu_keeps :
    Keeps s (s.assignOnu ch v o) [.pon, .chan, .pages]
      [cueFld, (engFramer (s.vt v).channel, FR.EQD), (engFramer (s.vt v).channel, FR.EQD_VALID)] := by
  have hc : ((s.onuGiven ch v o).vt v).channel = (s.vt v).channel := by rw [State.onuGiven_vt]
  rw [State.assignOnu_of_o23 h2]
  exact ((s.onuGiven_keeps ch v o).weaken (by simp) (by simp)).vtMoved (by simp) (by simp) (by simp) (by simp [hc]) (by simp [hc])

end

/-! ### Ranging_Time (R98) -/

/-- The equalization delay that Ranging_Time asks for, relative to the present one or absolute. -/
def State.eqdAsked (s : State) (ch : Nat) (rel : Bool) (d : Int) : Int := if rel then s.rf (engFramer ch) FR.EQD + d else d

theorem exec_rangingTime_outside {s : State} {ch : Fin 4} {m : PloamMsg} {rel : Bool} {d : Int} (h : Heads s ch m)
    (hb : m.body = .rangingTime rel d) (ht : s.targets ch m ≠ [])
    (hd : s.eqdAsked ch rel d < 0 ∨ s.eqdAsked ch rel d > 0x1FFFFFF) :
    exec (.rangingTime ch) s = .next ((s.popped ch).ackAll ch m .parameterError) := by
  show execRangingTime ch s = _
  have hd' : (decide (s.eqdAsked ch rel d < 0) || decide (s.eqdAsked ch rel d > 0x1FFFFFF)) = true := by simpa using hd
  have he : (s.targets ch m).isEmpty = false := by simpa using ht
  simp only [execRangingTime, State.handle_of_heads h, hb, State.popped_targets, he, Bool.false_eq_true, if_false]
  exact congrArg (fun o => Host.Outcome.next (Option.getD o s)) (if_pos hd')

/-- The channel's equalization delay set. -/
def State.eqdSet (s : State) (ch d : Nat) : State := (s.wf (engFramer ch) FR.EQD d).wf (engFramer ch) FR.EQD_VALID 1

/-- A terminal in O4 that is given its equalization delay: TO1 is stopped, and the terminal enters O5. -/
def State.ranged (s : State) (ch v d : Nat) : State := ((s.eqdSet ch d).modVt v fun t => { t with to1 := none }).setVt v 5 0

theorem exec_rangingTime_inside {s : State} {ch : Fin 4} {m : PloamMsg} {d v : Nat} (h : Heads s ch m) (hb : m.body = .rangingTime false d)
    (hd : d ≤ 0x1FFFFFF) (ht : s.targets ch m = [v]) (h4 : (s.vt v).state = 4) :
    exec (.rangingTime ch) s =
      .next (((s.popped ch).ranged ch v d).ackFrom v m .ok) := by
  show execRangingTime ch s = _
  have hr : ¬((d : Int) < 0 ∨ (d : Int) > 0x1FFFFFF) := by omega
  have h4' : (((s.popped ch).eqdSet ch d).vt v).state = 4 := h4
  simp only [execRangingTime, State.handle_of_heads h, hb, State.popped_targets, ht, List.isEmpty_cons, Bool.false_eq_true, if_false,
    List.foldl_cons, List.foldl_nil, Int.toNat_natCast]
  rw [if_neg (by simpa using hr)]
  exact congrArg (fun t : State => Host.Outcome.next (t.ackFrom v m .ok)) (if_pos h4')

theorem State.eqdSet_eqd (s : State) (ch : Nat) {d : Nat} (hd : d ≤ 0x1FFFFFF) : (s.eqdSet ch d).rf (engFramer ch) FR.EQD = d := by
  rw [State.eqdSet, State.rf_wf_ne _ _ (by simp [FR.EQD, FR.EQD_VALID]), State.rf_wf_self]
  exact Nat.mod_eq_of_lt (by simp only [FR.EQD, Fld.width]; omega)

theorem State.eqdSet_eqdValid (s : State) (ch d : Nat) : (s.eqdSet ch d).rf (engFramer ch) FR.EQD_VALID = 1 := by
  rw [State.eqdSet, State.rf_wf_self]
  rfl

theorem State.ranged_vt {s : State} {ch v d : Nat} (h4 : (s.vt v).state = 4) :
    (s.ranged ch v d).vt v = { s.vt v with to1 := none, state := 5 } := by
  have hu : ((s.eqdSet ch d).modVt v fun t => { t with to1 := none }).vt v = { s.vt v with to1 := none } := State.vt_modVt _ v _
  have hn : (((s.eqdSet ch d).modVt v fun t => { t with to1 := none }).vt v).state ≠ 5 := by simp [hu, h4]
  rw [State.ranged, State.setVt_vt_of_not_o5 hn hn, hu]

/-- The equalization delay that was set stands in the framer behind what entering O5 and acknowledging it does. -/
theorem State.ranged_rf {s : State} {ch : Fin 4} {v d : Nat} {f : Fld} (h4 : (s.vt v).state = 4) (hf : f.off < 2 ^ 20) (hl : f.lo < 32) :
    (s.ranged ch v d).rf (engFramer ch) f = (s.eqdSet ch d).rf (engFramer ch) f := by
  have hn : (((s.eqdSet ch d).modVt v fun t => { t with to1 := none }).vt v).state ≠ 5 := by
    rw [State.vt_modVt]
    show (s.vt v).state ≠ 5
    omega
  exact State.rf_setVt_o5 hn (framer_ne_cueLost hf hl) (framer_ne_lost hf hl)

end Sys2Proof.Machine
end

section
open Sys2Proof Sys2Proof.Machine

/-- Settles O14, row by row: the equation of each row, and what its updates set and leave. -/
theorem activationMessagesMoveTerminals : Obligations.ActivationMessagesMoveTerminals := by
  unfold Obligations.ActivationMessagesMoveTerminals
  intro ch m s h
  refine ⟨fun i r shape hb => ?_, fun serial hb => exec_assignOnuId_unassign h hb, fun serial onu v hb ho hv h2 => ⟨fun hc => ?_, fun hc => ?_⟩,
    fun rel d hb ht hd => exec_rangingTime_outside h hb ht hd, fun d v hb hd ht h4 hch _ => ?_⟩
  · exact ⟨_, exec_burstProfile h hb, State.profiled_on _ _ _ _, State.profiled_look _ _ _ _,
      ((Keeps.refl s _ _).popped (by simp) ch).profiled (by simp) (by simp) _ _⟩
  · have hany : ((s.vtsOn ch).any fun w => w ≠ v && (s.vt w).onuId = some onu.toNat) = true := by simpa using hc
    refine ⟨(s.popped ch).onuIgnored ch onu.toNat, ?_, State.onuIgnored_counts _ _ _, ?_, State.onuIgnored_log _ _ _,
      State.onuIgnored_pon _ _ _, ((Keeps.refl s _ _).popped (by simp) ch).onuIgnored (by simp) (by simp) _⟩
    · rw [exec_assignOnuId h hb ho hv h2, if_pos hany]
    · rw [State.vt, State.onuIgnored_pon]
      rfl
  · have hany : ((s.vtsOn ch).any fun w => w ≠ v && (s.vt w).onuId = some onu.toNat) = false := by simpa using hc
    have h2' : ((s.popped ch).vt v).state = 2 := h2
    have hpop : Keeps s (s.popped ch) [.pon] [] := (Keeps.refl s _ _).popped (by simp) ch
    refine ⟨(s.popped ch).assignOnu ch v onu.toNat, ?_, ?_, ?_, ?_, State.assignOnu_allocs h2', State.assignOnu_ports h2',
      (hpop.weaken (by simp) (by simp)).trans (State.assignOnu_keeps h2')⟩
    · rw [exec_assignOnuId h hb ho hv h2, if_neg (Bool.eq_false_iff.mp hany)]
    · rw [State.assignOnu_vt h2']
    · rw [State.assignOnu_vt h2']
    · rw [State.assignOnu_vt h2', State.popped_rf]
  · have h4' : ((s.popped ch).vt v).state = 4 := h4
    have hq : OnlyQueues ((s.popped ch).ranged ch v d) (((s.popped ch).ranged ch v d).ackFrom v m .ok) := State.ackFrom_onlyQueues _ _ _ _
    refine ⟨_, exec_rangingTime_inside h hb hd ht h4, ?_, ?_, ?_, ?_⟩
    · rw [hq.state_eq, State.ranged_vt h4']
    · rw [hq.to1_eq, State.ranged_vt h4']
    · rw [hq.flds _ _ fun c => framer_ne_plDrop (by decide) (by decide), State.ranged_rf h4' (by decide) (by decide), State.eqdSet_eqd _ _ hd]
    · rw [State.on, hq.flds _ _ fun c => framer_ne_plDrop (by decide) (by decide), State.ranged_rf h4' (by decide) (by decide),
        State.eqdSet_eqdValid]
      rfl
end

section
/-! Assign_Alloc-ID and PORT_ASSIGN (R109 to R112). -/
namespace Sys2Proof.Machine

/-! ### Assign_Alloc-ID (R110, R111) -/

theorem exec_assignAllocId {s : State} {ch : Fin 4} {m : PloamMsg} {v : Nat} {a : BitVec 14} {add : Bool} (h : Heads s ch m)
    (ht : s.targets ch m = [v]) (hb : m.body = .assignAllocId a add) :
    exec (.assignAllocId ch) s = .next ((s.popped ch).assignAlloc ch v a.toNat add m) := by
  show execAssignAllocId ch s = _
  simp only [execAssignAllocId, State.handle_of_heads h, hb, State.popped_targets, ht, List.foldl_cons, List.foldl_nil, Option.getD_some]

/-- The channel's Alloc-ID entries with a new explicit one. -/
def State.allocAdded (s : State) (ch v a : Nat) : State :=
  { s with pon := { s.pon with allocs := s.pon.allocs.put (allocKey ch a) { vt := v, dflt := false } } }

section
variable {s : State} {ch v a : Nat} {m : PloamMsg}

theorem State.assignAlloc_new (hl : s.pon.allocs.look (allocKey ch a) = none) (hn : s.allocExplicit < 960) :
    s.assignAlloc ch v a true m = (s.allocAdded ch v a).ackFrom v m .ok := by
  simp only [State.assignAlloc, hl, if_neg (show ¬s.allocExplicit ≥ 960 by omega)]
  rfl

theorem State.assignAlloc_full (hl : s.pon.allocs.look (allocKey ch a) = none) (hn : 960 ≤ s.allocExplicit) :
    s.assignAlloc ch v a true m = (s.ackFrom v m .parameterError).tableFull 0 v 0 a := by
  simp only [State.assignAlloc, hl, if_pos (show s.allocExplicit ≥ 960 from hn)]

theorem State.assignAlloc_held {x : Alloc} (hl : s.pon.allocs.look (allocKey ch a) = some x) (hx : x.vt ≠ v) :
    s.assignAlloc ch v a true m = s.ackFrom v m .parameterError := by
  simp only [State.assignAlloc, hl, if_neg hx]

/-- A terminal's own Alloc-ID is freed, with the pages of the frame that its binding has cut. -/
theorem State.assignAlloc_free {x : Alloc} (hl : s.pon.allocs.look (allocKey ch a) = some x) (hx : x.vt = v) :
    ∃ u : State, s.assignAlloc ch v a false m = u.ackFrom v m .ok ∧ u.pon.allocs.look (allocKey ch a) = none ∧
      Keeps s u [.pon, .pages] [] := by
  simp only [State.assignAlloc, hl, if_pos hx]
  refine ⟨_, rfl, SMap.look_del_self _ _, ?_⟩
  cases x.cut with
  | none => exact (Keeps.refl s _ _).pon (by simp) _
  | some c => exact ((Keeps.refl s _ _).freePages (by simp) c.1.pages).pon (by simp) _

end

/-! ### PORT_ASSIGN (R112) -/

theorem exec_portAssign {s : State} {ch : Fin 4} {m : PloamMsg} {v : Nat} {c : List Byte} (h : Heads s ch m) (ht : s.targets ch m = [v])
    (hb : m.body = .fennath c) (hf : isFennath c = true) (hs : subType c = 1) :
    exec (.portAssign ch) s = .next ((s.popped ch).portAssign ch v c m) := by
  show execPortAssign ch s = _
  simp only [execPortAssign, State.handle_of_heads h, hb, hf, hs, State.popped_targets, ht, List.foldl_cons, List.foldl_nil, decide_true,
    Bool.and_self, if_true, Option.getD_some]

/-- The channel's Port-ID entries with a new one. -/
def State.portAdded (s : State) (ch v p kind keying : Nat) : State :=
  { s with pon := { s.pon with ports := s.pon.ports.put (portKey ch p) { vt := v, kind := kind, keying := keying } } }

section
variable {s : State} {ch v p : Nat}

theorem State.portAdd_new {kind keying : Nat} (hl : s.pon.ports.look (portKey ch p) = none) (hn : s.portExplicit < 8128) :
    s.portAdd ch v p kind keying = (.done, s.portAdded ch v p kind keying) := by
  simp only [State.portAdd, hl, if_neg (show ¬s.portExplicit ≥ 8128 by omega)]
  rfl

theorem State.portAdd_full {kind keying : Nat} (hl : s.pon.ports.look (portKey ch p) = none) (hn : 8128 ≤ s.portExplicit) :
    s.portAdd ch v p kind keying = (.full, s) := by
  simp only [State.portAdd, hl, if_pos (show s.portExplicit ≥ 8128 from hn)]

end

section
variable {s : State} {ch v : Nat} {c : List Byte} {m : PloamMsg} (ha : c.getD 4 0 = 1) (hk : (c.getD 7 0).toNat ≤ 1)
  (hp : beVal (part c 5 2) ≠ 0xFFFF) (hl : s.pon.ports.look (portKey ch (beVal (part c 5 2))) = none)
include ha hk hp hl

theorem State.portAssign_new (hn : s.portExplicit < 8128) :
    s.portAssign ch v c m = (s.portAdded ch v (beVal (part c 5 2)) 1 (c.getD 7 0).toNat).ackFrom v m .ok := by
  have h1 : (c.getD 4 0).toNat = 1 := by rw [ha]; rfl
  simp only [State.portAssign, h1, gt_iff_lt, Nat.lt_irrefl, Nat.not_lt.mpr hk, hp, decide_false, Bool.or_self, Bool.false_eq_true, if_false,
    if_true, State.portAdd_new hl hn]

theorem State.portAssign_full (hn : 8128 ≤ s.portExplicit) :
    s.portAssign ch v c m = (s.ackFrom v m .parameterError).tableFull 1 v 0 (beVal (part c 5 2)) := by
  have h1 : (c.getD 4 0).toNat = 1 := by rw [ha]; rfl
  simp only [State.portAssign, h1, gt_iff_lt, Nat.lt_irrefl, Nat.not_lt.mpr hk, hp, decide_false, Bool.or_self, Bool.false_eq_true, if_false,
    if_true, State.portAdd_full hl hn]

end

end Sys2Proof.Machine
end

section
open Sys2Proof Sys2Proof.Machine

/-- Settles O17, case by case of what the tables hold: each case is one law of `assignAlloc` or `portAssign`. -/
theorem tablesFillAndFree : Obligations.TablesFillAndFree := by
  unfold Obligations.TablesFillAndFree
  intro ch m s v h ht
  have hpop : Keeps s (s.popped ch) [.pon] [] := (Keeps.refl s _ _).popped (by simp) ch
  refine ⟨fun a hb hl => ⟨fun hn => ?_, fun hn => ?_⟩, fun a x hb hl hx => ?_, fun a x hb hl hx => ?_,
    fun c hb hf hs ha hk hp hl => ⟨fun hn => ?_, fun hn => ?_⟩⟩
  · refine ⟨(s.popped ch).allocAdded ch v a.toNat, ?_, SMap.look_put_self _ _ _, hpop.pon (by simp) _⟩
    rw [exec_assignAllocId h ht hb, State.assignAlloc_new (s := s.popped ch) hl hn]
  · rw [exec_assignAllocId h ht hb, State.assignAlloc_full (s := s.popped ch) hl hn]
  · rw [exec_assignAllocId h ht hb, State.assignAlloc_held (s := s.popped ch) hl hx]
  · obtain ⟨u, hu, hnone, hkeeps⟩ := State.assignAlloc_free (s := s.popped ch) (m := m) hl hx
    refine ⟨u, ?_, hnone, (hpop.weaken (by simp) (by simp)).trans hkeeps⟩
    rw [exec_assignAllocId h ht hb, hu]
  · refine ⟨(s.popped ch).portAdded ch v (beVal (part c 5 2)) 1 (c.getD 7 0).toNat, ?_, SMap.look_put_self _ _ _, hpop.pon (by simp) _⟩
    rw [exec_portAssign h ht hb hf hs, State.portAssign_new (s := s.popped ch) ha hk hp hl hn]
  · rw [exec_portAssign h ht hb hf hs, State.portAssign_full (s := s.popped ch) ha hk hp hl hn]
end

section
/-! What refutes O54: the short stamp in the TIME_LOCKED cue of a forward step (R46, R388, R389, R394). -/
namespace Sys2Proof.Machine

/-- The short stamp in the header of a cue packet (R46). -/
def Packet.cueStamp (p : Packet) : List Byte := (p.bytes.drop 12).take 4

theorem cueBytes_stamp (code seq stamp : Nat) (payload : List Byte) : ((cueBytes code seq stamp payload).drop 12).take 4 = le 4 stamp := rfl

/-- `Cued s t` asks that the cue carry the short stamp of `s`, the state before the row. -/
theorem Cued.stamp {s t : State} {code : Nat} {payload : List Byte} (h : Cued s t code payload) (hd : s.chan.deferred = none)
    (hl : s.chan.pcieCues.length < 256) : t.chan.pcieCues.map Packet.cueStamp = s.chan.pcieCues.map Packet.cueStamp ++ [le 4 s.short] := by
  obtain ⟨p, hq, hb⟩ := h hd hl
  rw [hq, List.map_append, List.map_singleton, Packet.cueStamp, hb, cueBytes_stamp]

/-- The part is up with every domain awake; its clock is ON and FREE at part time 0, and takes the host's samples (SOURCE = PTP). -/
def freeClock : State :=
  { (State.reset.wf engWake WK.AWAKE 0x7FFF).wf engClk HDR.STATE 2 with
    boot := { State.reset.boot with phase := .up }, clk := { carried := none, source := 2 } }

/-- Part time is 2,000 ns behind the source. -/
def sampleBehind : Sample := { o := -2000 * 65536, at_ := 0 }

theorem freeClock_accepts : Accepts freeClock sampleBehind := by
  unfold Accepts
  decide

/-- Part time reads 0 when the sample comes, and the cue is raised once it has been stepped by 2,000 ns. -/
theorem freeClock_takeSample_stamp :
    freeClock.short = 0 ∧ (freeClock.takeSample sampleBehind).chan.pcieCues.map Packet.cueStamp = [le 4 2000] := by decide

/-- The statement's rules for samples stamp TIME_LOCKED with the time before the step. -/
theorem not_sampleRules : ¬SampleRules := by
  intro h
  obtain ⟨hshort, hstamp⟩ := freeClock_takeSample_stamp
  obtain ⟨-, haccepted⟩ := h freeClock sampleBehind (1000000000 * 2 ^ 32) _ (by decide) Iff.rfl rfl
  obtain ⟨-, -, hacquire, -⟩ := haccepted freeClock_accepts
  obtain ⟨-, -, kind, -, hcued, -⟩ := hacquire (.inl rfl)
  have hbefore := hcued.stamp rfl (by decide)
  rw [hstamp, hshort] at hbefore
  exact absurd hbefore (by decide)

end Sys2Proof.Machine
end

section
open Sys2Proof Sys2Proof.Machine

/-- Refutes O54: a FREE clock at part time 0 takes a sample of -2,000 ns and steps forward at once (R389); its TIME_LOCKED cue carries the short stamp of the
moment it was raised (R46), 2,000, where the statement (by `Cued`) asks for the stamp before the step, 0. -/
theorem not_clockFollowsItsSource : ¬ Obligations.ClockFollowsItsSource := by
  unfold Obligations.ClockFollowsItsSource
  exact fun h => not_sampleRules h.1
end

section
/-! What refutes O56: the spares left in the SPARE_TAKEN cue of a cipher unit that UNIT_RESTORE brings back into service (R456, R457). -/
namespace Sys2Proof.Machine

/-! ### Cues and replies -/

/-- The payload of a cue packet (R46). -/
def Packet.cuePayload (p : Packet) : List Byte := p.bytes.drop 16

theorem cueBytes_payload (code seq stamp : Nat) (payload : List Byte) : (cueBytes code seq stamp payload).drop 16 = payload := rfl

theorem Cued.payload {s t : State} {code : Nat} {payload : List Byte} (h : Cued s t code payload) (hd : s.chan.deferred = none)
    (hl : s.chan.pcieCues.length < 256) : t.chan.pcieCues.map Packet.cuePayload = s.chan.pcieCues.map Packet.cuePayload ++ [payload] := by
  obtain ⟨p, hq, hb⟩ := h hd hl
  rw [hq, List.map_append, List.map_singleton, Packet.cuePayload, hb, cueBytes_payload]

section
variable {t : Taken} (h : t.req.noReply = false) (s : State) (order status detail : Nat) (payload : List Byte) (holdsTag : Bool) (id : Option Nat)
  (holds : Nat)
include h

/-- A reply that is not suppressed joins the queue of replies of its carrier. -/
theorem State.reply_eq : ∃ p, s.reply t order status detail payload holdsTag id holds = { s with chan := s.chan.queueReply t.req.carrier p } := by
  simp only [State.reply, h, Bool.false_and, Bool.false_eq_true, if_false]
  exact ⟨_, rfl⟩

theorem State.reply_pcieCues : (s.reply t order status detail payload holdsTag id holds).chan.pcieCues = s.chan.pcieCues := by
  obtain ⟨p, hp⟩ := s.reply_eq h order status detail payload holdsTag id holds
  rw [hp]
  cases t.req.carrier <;> rfl

theorem State.reply_cipherSpares : (s.reply t order status detail payload holdsTag id holds).cipherSpares = s.cipherSpares := by
  obtain ⟨p, hp⟩ := s.reply_eq h order status detail payload holdsTag id holds
  rw [hp]
  rfl

end

/-! ### UNIT_RESTORE -/

/-- A cipher unit that is out of service and passes its test is restored (R457). -/
theorem unitRestore_act_cipher {role : Role} {r : Req} {s : State} {l : Nat} (hk : kind r.eng = 0x40) (hl : s.cry.out.look (engNo r.eng) = some l) :
    (unitRestoreCmd true).act role r s = .say (s.restoreCipher (engNo r.eng) l) St.ok := by
  simp [unitRestoreCmd, hk, hl]

/-! ### A unit that is out of service, with its window in SPARE -/

/-- UNIT_RESTORE of cipher unit 8. -/
def restoreUnit8 : Req :=
  { carrier := .ring 0, flags := 0, tag := 1, txn := 0, session := 0, target := BitVec.ofNat 32 (locOf (engCipher 8)), payload := [], trailer := 0, src := 0 }

def restoreUnit8Taken : Taken := { op := 0x0A07, req := restoreUnit8, auth := none, role := .maintenance }

/-- Unit 8 served logical cipher engine 0 until the engine was RETIRED for want of a spare; then the unit's own window was FAILED when a cold reset came, and
has come back in SPARE, its reset value. Unit 9 is RETIRED, so that no other spare is left. The part is up with every domain awake. -/
def unit8Out : State :=
  let s : State := { boot := { phase := .up }, cry := { out := [(8, 0)] }, chan := { taken := [restoreUnit8Taken] } }
  let s := ((s.wf engWake WK.AWAKE 0x7FFF).wf (engCipher 0) HDR.STATE 5).wf (engCipher 0) HDR.PUNIT 8
  (s.wf (engCipher 8) HDR.LUNIT 0).wf (engCipher 9) HDR.STATE 5

set_option exponentiation.threshold 500 in
theorem unit8Out_ready : Ready (unitRestoreCmd true) restoreUnit8 restoreUnit8Taken unit8Out := by decide

/-- The cue counts the spares before the unit serves, itself among them; when it serves, none is left. -/
theorem unit8Out_restoreCipher :
    ((unit8Out.starting restoreUnit8Taken).restoreCipher 8 0).cipherSpares = [] ∧
      ((unit8Out.starting restoreUnit8Taken).restoreCipher 8 0).chan.pcieCues.map Packet.cuePayload =
        [[2, 2, 0, 0] ++ le 4 (locOf (engCipher 0)) ++ le 2 1 ++ [0, 0]] := by decide

theorem exec_unit8Out_restore : exec (.unitRestore restoreUnit8 true) unit8Out =
    .next (((unit8Out.starting restoreUnit8Taken).restoreCipher 8 0).reply restoreUnit8Taken unit8Out.chan.order St.ok 0 []) := by
  have hout : (unit8Out.starting restoreUnit8Taken).cry.out.look (engNo restoreUnit8.eng) = some 0 := by decide
  have hno : engNo restoreUnit8.eng = 8 := by decide
  show Host.Outcome.next (runCmd (unitRestoreCmd true) restoreUnit8 unit8Out) = _
  rw [runCmd_ready unit8Out_ready, unitRestore_act_cipher (by decide) hout, hno]
  rfl

/-- The statement's rules for UNIT_RESTORE count in that cue the spares that are left with the unit in service. -/
theorem not_updateAndSpareRules : ¬UpdateAndSpareRules := by
  intro h
  obtain ⟨-, -, -, -, -, -, -, -, hunits⟩ := h
  obtain ⟨-, -, hcipher, -⟩ := hunits restoreUnit8 restoreUnit8Taken unit8Out
  obtain ⟨-, -, -, -, hserve⟩ := hcipher true unit8Out_ready (by decide)
  obtain ⟨u, hexec, -, -, -, -, hcued⟩ := hserve 0 (by decide) rfl (by decide) (by decide)
  obtain ⟨hspares, hcues⟩ := unit8Out_restoreCipher
  have hnext : ((unit8Out.starting restoreUnit8Taken).restoreCipher 8 0).reply restoreUnit8Taken unit8Out.chan.order St.ok 0 [] =
      u.reply restoreUnit8Taken unit8Out.chan.order St.ok 0 [] :=
    Host.Outcome.next.inj (exec_unit8Out_restore.symm.trans hexec)
  have hnoReply : restoreUnit8Taken.req.noReply = false := by decide
  have hleft : u.cipherSpares = [] := by
    rw [← hspares, ← u.reply_cipherSpares hnoReply unit8Out.chan.order St.ok 0 [] true none 0, ← hnext, State.reply_cipherSpares hnoReply]
  have hsaid := hcued.payload rfl (by decide)
  rw [hleft, ← u.reply_pcieCues hnoReply unit8Out.chan.order St.ok 0 [] true none 0, ← hnext, State.reply_pcieCues hnoReply, hcues] at hsaid
  exact absurd hsaid (by decide)

end Sys2Proof.Machine
end

section
open Sys2Proof Sys2Proof.Machine

/-- Refutes O56: cipher unit 8 is out of service, its window in SPARE, and goes back into service under engine 0 (R457); the SPARE_TAKEN cue counts the spares
before that, 1 with unit 8 itself, where the statement asks for those left in the pool once the unit serves, 0. -/
theorem not_managementKeepsThePart : ¬ Obligations.ManagementKeepsThePart := by
  unfold Obligations.ManagementKeepsThePart
  rintro ⟨-, -, -, -, hupdate⟩
  exact not_updateAndSpareRules hupdate
end
